-- ==== Sys2Proof/Word.lean ====
section
/-! DEFINITION. The plain words of the GI-6's interface: the byte of the serial line, and the numbered items of the
part (spec 00_scope, "Names and numbering"). An item is numbered from 0 inside the model: `L1` is `0 : LineId`. -/

namespace Sys2Proof

/-- One byte of the site link (R162). -/
abbrev Byte := BitVec 8

/-- Injection lines L1..L6. -/
abbrev LineId := Fin 6

/-- Agitator tanks A and B. -/
abbrev TankId := Fin 2

/-- Uplift gauges G1..G16. -/
abbrev GaugeId := Fin 16

/-- Gauge zones Z1..Z4. -/
abbrev ZoneId := Fin 4

/-- A set of lines as the mask it travels as: bit 0 stands for L1 (R177). -/
abbrev LineSet := BitVec 6

/-- A set of zones as the mask it travels as: bit 0 stands for Z1 (R177). -/
abbrev ZoneSet := BitVec 4

/-- A set of sections as the mask it travels as: bit 0 stands for section 1 (R177). -/
abbrev SectionSet := BitVec 8

/-- Quotient truncated toward zero (spec 00_scope, "Arithmetic"). -/
abbrev trunc (a b : Int) : Int := a.tdiv b

end Sys2Proof
end

