-- ==== Sys2Proof/Config.lean ====
section
/-! DEFINITION. What the part fixes: the capacities and fixed times of the manual, the defaults of the configuration
records (R22), and the FREE VALUES, which the manual leaves open. A free value is an opaque constant applied to the model's
counter `State.freeCount` (or to a key): nothing in Lean can evaluate it, so a claim that holds, holds whatever it is. -/

namespace Sys2Proof.Config

/-- Holes in the plan (R1). -/
def maxHoles : Nat := 96
/-- Stages in the plan (R1). -/
def maxStages : Nat := 768
/-- Answers that may wait (R166). -/
def maxAnswers : Nat := 8
/-- Reports that may wait (R167). -/
def maxReports : Nat := 32
/-- Contents of a full tank, mL (R119). -/
def tankCapacity : Nat := 1500000
/-- Pressure at or below which a drain ends, kPa (R111). -/
def drainPressure : Nat := 50
/-- Drain time at which a drain ends by time, ms (R111). -/
def drainTimeout : Nat := 120000
/-- Wait after which the flow is estimated as 0, ms (R48). -/
def flowTimeout : Nat := 600000
/-- The gap timer, ms (R164). -/
def gapTime : Nat := 20
/-- The dwell of the scanner on one gauge, ms (R140). -/
def dwellTime : Nat := 50
/-- The count at which a front end's pulse count stays (R44). -/
def maxPulses : Nat := 65535
/-- The start byte of a frame (R163). -/
def startByte : Byte := 0xC3

/-- FREE VALUE (DESIGN CHOICE, log entry 4). The P_int a TRACE report carries for a sample taken in DRAIN: R97 lists the
field, and R85 and R110 say that step 6, which computes it, does not run in DRAIN. -/
opaque drainPint : Nat → BitVec 32

/-- FREE VALUE (DESIGN CHOICE, log entry 5). The final mix step of a POWER conversion of a stage without a running image:
R23 gives zero for every measured value and does not name the step. The arguments are the counter and the stage's key. -/
opaque powerFinalStep : Nat → Nat → Nat

/-- FREE VALUE (DESIGN CHOICE, log entry 6). The density of a mix that is not in the mix table, which no reachable sample
reads (R49). The argument is the mix code. -/
opaque unplannedDensity : Nat → Nat

end Sys2Proof.Config
end

