-- ==== Sys2Proof/Syntax.lean ====
section
/-! DEFINITION. The commands of the GI-6: one constructor for each row of spec/opcode_table.json.

The first 36 are REQUESTS of the site computer. A request command is a valid frame, in good form, that carries this
request: `tag` is the frame's tag (R163, R165), and the other operands are its body fields as the message reference gives
them (R179), not yet judged: a line number 0, a tank code 3 or a flag 2 is an operand like any other and is refused by the
request's own checks (R178). Numbers, codes, masks and flags are naturals; signed fields are integers.

The other 20 are the EVENTS of the part: a received byte, an expiry, a field signal, and the hand-offs between blocks. -/

namespace Sys2Proof

/-- The commands. -/
inductive Instr where
  /-- R2. Create a section. -/
  | defsec (tag : Byte) (sec : Nat)
  /-- R5. Write a hole record; `dfltSet` 0 stands for absent. -/
  | defhole (tag : Byte) (hole sec order : Nat) (collar : Int) (neighbours : List Nat) (dfltSet zoneMask : Nat) (groundwater : Option Nat) (locked : Nat)
  /-- R10. Write a stage's fixed fields; `limitSet` 0 stands for absent. -/
  | defstage (tag : Byte) (hole stage top bottom length limitSet : Nat)
  /-- R13. Write a limit set; a ladder entry is a mix code and its advance take, 0 on the last step. -/
  | deflim (tag : Byte) (set pmax gin tmax overshoot reliefLimit ramp refFlow refBand refTime breakDrop : Nat) (ladder : List (Nat × Nat))
  /-- R16. Write or remove a depth band. -/
  | defband (tag : Byte) (band : Nat) (upper lower : Int) (mask cap : Nat)
  /-- R17. Write a mix record. -/
  | defmix (tag : Byte) (mix ratio density : Nat)
  /-- R18. Set the locked flag of a section (kind 1) or hole (kind 2). -/
  | lock (tag : Byte) (kind number : Nat)
  /-- R18. Clear the locked flag of a section (kind 1) or hole (kind 2). -/
  | unlock (tag : Byte) (kind number : Nat)
  /-- R19. Remove the unused part of a section. -/
  | purge (tag : Byte) (sec : Nat)
  /-- R20. Empty the plan and return the configuration to its defaults. -/
  | wipe (tag : Byte)
  /-- R21. Read a stage record. -/
  | qstage (tag : Byte) (hole stage : Nat)
  /-- R21. Read a hole record. -/
  | qhole (tag : Byte) (hole : Nat)
  /-- R21. Read a limit set. -/
  | qlim (tag : Byte) (set : Nat)
  /-- R21. Read a depth band. -/
  | qband (tag : Byte) (band : Nat)
  /-- R21. Read a mix record. -/
  | qmix (tag : Byte) (mix : Nat)
  /-- R59. Write a line's configuration record. -/
  | linecfg (tag : Byte) (line tank interval kp ki factor span trace : Nat)
  /-- R30. Run the admission checks and the resolution of BIND. -/
  | probe (tag : Byte) (line hole stage : Nat) (redo : Bool)
  /-- R60, R62. Bind a stage onto a line. -/
  | bind (tag : Byte) (line hole stage : Nat) (redo : Bool)
  /-- R63, R64. Start the bound stage. -/
  | start (tag : Byte) (line : Nat)
  /-- R72. Hold a line with cause SITE; hold time in s, decay threshold in kPa. -/
  | pause (tag : Byte) (line : Nat) (holdTime decay : Option Nat)
  /-- R74. Release the hold causes of a line. -/
  | resume (tag : Byte) (line : Nat)
  /-- R75. End the pass of a started line, or unbind a BOUND line. -/
  | abort (tag : Byte) (line : Nat)
  /-- R76. Return an ENDED line to IDLE. -/
  | release (tag : Byte) (line : Nat)
  /-- R124. Store a tank's reserve (mL). -/
  | tankcfg (tag : Byte) (tank reserve : Nat)
  /-- R125. Announce a delivery of `volume` litres. -/
  | batch (tag : Byte) (tank mix volume : Nat)
  /-- R126. Dump a tank. -/
  | empty (tag : Byte) (tank : Nat)
  /-- R127. Read a tank. -/
  | qtank (tag : Byte) (tank : Nat)
  /-- R139. Write a gauge's configuration. -/
  | gaugecfg (tag : Byte) (gauge enabled zone span : Nat)
  /-- R144. Write a zone's configuration. -/
  | zonecfg (tag : Byte) (zone warn trip derate routing : Nat)
  /-- R142. Set the baseline of a gauge (kind 1) or of a zone's gauges (kind 2). -/
  | zero (tag : Byte) (kind number : Nat)
  /-- R148. Clear a zone's trip latch. -/
  | hclear (tag : Byte) (zone : Nat)
  /-- R153. Read a gauge (kind 1) or a zone (kind 2). -/
  | qgauge (tag : Byte) (kind number : Nat)
  /-- R37. Read a line. -/
  | qline (tag : Byte) (line : Nat)
  /-- R174. Write the link configuration: T1 and T2 in s, safe percentage. -/
  | linkcfg (tag : Byte) (t1 t2 safe : Nat)
  /-- R173. Clear the safe latch. -/
  | clearsafe (tag : Byte)
  /-- R175. Read the part and clear the missed flag. -/
  | status (tag : Byte)
  /-- R162. A byte is received, with or without a stop-bit error. -/
  | byteArrival (byte : Byte) (stopError : Bool)
  /-- R164. The 20 ms gap timer expires. -/
  | gapTimerExpiry
  /-- R168. The last byte of the frame in transmission has been sent. -/
  | frameSent
  /-- R170. The T1 timer expires. -/
  | t1Expiry
  /-- R171. The T2 timer expires. -/
  | t2Expiry
  /-- R39, R85. A line's sample timer expires, with its transducer loop standing at `current` µA (R41). -/
  | sample (line : LineId) (current : Nat)
  /-- R71. The hold timer of a line's SITE cause expires. -/
  | holdTimerExpiry (line : LineId)
  /-- R78. A line's LOCAL key switch is asserted or released. -/
  | localKeyChange (line : LineId) (asserted : Bool)
  /-- R44. A flowmeter pulse arrives at a line's front end. -/
  | flowmeterPulse (line : LineId)
  /-- R123. A tank takes a draw of `volume` mL. -/
  | tankDraw (tank : TankId) (volume : Nat)
  /-- R128. A line's request for a mix arrives at a tank. -/
  | mixRequest (tank : TankId) (line : LineId) (mix : Nat)
  /-- R132. The hand-off from a line's START on an UNSET tank arrives at the tank. -/
  | adopt (tank : TankId) (line : LineId) (mix : Nat)
  /-- R131. A tank examines the head of its request queue at a line's notice or after a withdrawal. -/
  | headExamination (tank : TankId)
  /-- R121. A line takes its tank's notice. -/
  | tankNotice (line : LineId)
  /-- R141. The conversion of the gauge under dwell completes with `count`. -/
  | gaugeConversion (count : Nat)
  /-- R155. The cabinet supply fails. -/
  | supplyFailure
  /-- R156. Power-on: the battery as sensed, the backup as judged, the loop as sensed, and the LOCAL keys as they stand. -/
  | powerOn (batteryLow backupLost loopIsOpen : Bool) (keys : LineSet)
  /-- R157. The battery status changes. -/
  | batteryChange (low : Bool)
  /-- R158. The emergency-stop loop opens. -/
  | loopOpen
  /-- R159. The emergency-stop loop closes. -/
  | loopClosed
  deriving DecidableEq, Repr

end Sys2Proof
end

