-- ==== Sys2Proof/Machine/Types.lean ====
section
/-! DEFINITION. The records of the GI-6 as plain data: the plan store (chapter 1), the stage context (chapter 2), the
line, its front end and its end latch (chapters 3 to 6), the tanks (chapter 7), gauges and zones (chapter 8), the
supervision (chapter 9), the link with its queues (chapter 10), and the messages it carries (chapter 11). -/

namespace Sys2Proof.Machine

/-- A keyed table of the plan store (R1): entries with strictly rising keys, so no key occurs twice. -/
abbrev Table (α : Type) := List (Nat × α)

/-! ### Names -/

/-- The status of a stage (R7). -/
inductive StageStatus where
  | planned | bound | active | opened | complete
  deriving DecidableEq, Repr

/-- The state of a line that is not IDLE (chapter 4). IDLE is the absence of a stage context (R31). -/
inductive Phase where
  | bound | inject | relief | hold | starved | localPanel | drain | ended
  deriving DecidableEq, Repr

/-- The outcome of a pass (R101). -/
inductive PassOutcome where
  | volume | intensity | refusal | unstable | abort | estop | link | heave | power
  deriving DecidableEq, Repr

/-- A hold cause (R68). -/
inductive Cause where
  | site | brk | link | heave | gauge | sensor | localKey
  deriving DecidableEq, Repr

/-- The condition that releases a hold cause (R84). -/
inductive Release where
  | resume | timer | decay | linkRestore | gaugeClear
  deriving DecidableEq, Repr

/-- Why a line is STARVED (R66). -/
inductive StarveCause where
  | supply | mix
  deriving DecidableEq, Repr

/-- The state of a tank (R120). -/
inductive TankState where
  | unset | low | ready
  deriving DecidableEq, Repr

/-- The state of a zone (R143). -/
inductive ZoneState where
  | normal | warn | trip
  deriving DecidableEq, Repr

/-- The trip routing of a zone (R143). -/
inductive Routing where
  | stop | hold | report
  deriving DecidableEq, Repr

/-- The state of the site link (R169). -/
inductive LinkState where
  | ok | lost1 | lost2
  deriving DecidableEq, Repr

/-- The result codes (R165, section 11.2). -/
inductive Result where
  | ok | okAdjusted | unknown | format | range | full | state | busy | notPlanned | locked | done | noLimits | inUse
  | neighbour | order | heave | localKey | estop | sensor | protectd | conflict | active
  deriving DecidableEq, Repr

/-! ### The plan store -/

/-- A section (R2). -/
structure Sec where
  locked : Bool
  deriving DecidableEq, Repr

/-- A hole record (R3). -/
structure Hole where
  sec : Nat
  order : Nat
  collar : Int
  neighbours : List Nat
  dfltSet : Option Nat
  zones : ZoneSet
  groundwater : Option Nat
  locked : Bool
  deriving DecidableEq, Repr

/-- A trip snapshot (R6, R109). -/
structure Snapshot where
  uptime : Nat
  phase : Phase
  pg : Nat
  pe : Nat
  q : Nat
  vol : Nat
  take : Nat
  ptgt : Nat
  cap : Nat
  u : Int
  deriving DecidableEq, Repr

/-- The running image of an ACTIVE stage (R9): the snapshot's fields and four more, and the refusal timer, which R103 has the
image show. R9's list and the layout of section 11.5 do not have it, so no message carries it (DESIGN CHOICE, log entry 32).
P_ramp, which R96 names among the values the image and the trace carry, is not in it (DESIGN CHOICE, log entry 40). -/
structure RunningImage where
  snap : Snapshot
  maxPe : Nat
  reliefCount : Nat
  step : Nat
  elapsed : Nat
  refusalTimer : Nat
  deriving DecidableEq, Repr

/-- The outcome record of the last end of a pass (R6, R112). -/
structure OutcomeRecord where
  outcome : PassOutcome
  finalTake : Nat
  maxPe : Nat
  finalPe : Nat
  finalProduct : Nat
  finalStep : Nat
  reliefCount : Nat
  duration : Nat
  drainTimeout : Bool
  snapshot : Option Snapshot
  deriving DecidableEq, Repr

/-- The prior record of a BOUND stage (R6 to R8): the old status and, for a REDO bind, the old pass and pass volume. -/
structure Prior where
  status : StageStatus
  redo : Option (Nat × Nat)
  deriving DecidableEq, Repr

/-- A stage record (R6). -/
structure Stage where
  top : Nat
  bottom : Nat
  length : Nat
  limitSet : Option Nat
  status : StageStatus
  prior : Option Prior
  pass : Nat
  passVol : Nat
  cumVol : Nat
  outcome : Option OutcomeRecord
  image : Option RunningImage
  deriving DecidableEq, Repr

/-- One step of a mix ladder (R11): a mix code and, but for the last step, an advance take. -/
structure LadderStep where
  mix : Nat
  advance : Option Nat
  deriving DecidableEq, Repr

/-- The limit fields of a limit set (R11). The first six are protected. -/
structure Limits where
  pmax : Nat
  gin : Nat
  tmax : Nat
  overshoot : Nat
  reliefLimit : Nat
  ramp : Nat
  refFlow : Nat
  refBand : Nat
  refTime : Nat
  breakDrop : Nat
  deriving DecidableEq, Repr

/-- A limit set record (R11). -/
structure LimitSet where
  limits : Limits
  ladder : List LadderStep
  used : Bool
  deriving DecidableEq, Repr

/-- A depth band record (R15). -/
structure Band where
  upper : Int
  lower : Int
  mask : SectionSet
  cap : Nat
  deriving DecidableEq, Repr

/-- A mix record (R17). -/
structure Mix where
  ratio : Nat
  density : Nat
  deriving DecidableEq, Repr

/-- A line's configuration record (R22, R59). -/
structure LineCfg where
  tank : TankId
  interval : Nat
  kp : Nat
  ki : Nat
  factor : Nat
  span : Nat
  trace : Nat
  deriving DecidableEq, Repr

/-- A gauge's configuration record with its baseline (R22, R138). -/
structure GaugeCfg where
  enabled : Bool
  zone : ZoneId
  span : Nat
  baseline : Int
  deriving DecidableEq, Repr

/-- A zone's configuration record (R22, R143). -/
structure ZoneCfg where
  warn : Nat
  trip : Nat
  derate : Nat
  routing : Routing
  deriving DecidableEq, Repr

/-- The link configuration record (R22, R169): T1 and T2 in s, safe percentage. -/
structure LinkCfg where
  t1 : Nat
  t2 : Nat
  safe : Nat
  deriving DecidableEq, Repr

/-- Everything the battery keeps (R22): the six plan tables (a stage stands under `stageKey` of its hole and number), the
configuration records, and the zone trip latches. -/
structure Store where
  secs : Table Sec
  holes : Table Hole
  stages : Table Stage
  sets : Table LimitSet
  bands : Table Band
  mixes : Table Mix
  lineCfg : Vector LineCfg 6
  reserve : Vector Nat 2
  gaugeCfg : Vector GaugeCfg 16
  zoneCfg : Vector ZoneCfg 4
  linkCfg : LinkCfg
  tripLatch : Vector Bool 4
  deriving DecidableEq, Repr

/-! ### Lines -/

/-- The SITE cause's release data (R68): ms left on the hold timer, and the decay threshold, each where present. -/
structure SiteHold where
  timer : Option Nat
  decay : Option Nat
  deriving DecidableEq, Repr

/-- The hold cause set of a context, each cause with its release data (R68). -/
structure HoldSet where
  site : Option SiteHold
  brk : Bool
  link : Bool
  heave : Option ZoneSet
  gauge : Bool
  sensor : Bool
  localKey : Bool
  deriving DecidableEq, Repr

/-- The stage context (section 2.3). Pressures are in kPa, `vol` in mL, `take` in 0.1 L/m, `lastQ` in 0.1 L/min,
`refusalTimer` in ms, `startUptime` in s; `step` is 1 for the first ladder step. -/
structure Context where
  hole : Nat
  stage : Nat
  pass : Nat
  setNo : Nat
  limits : Limits
  bandCap : Option Nat
  ladder : List LadderStep
  step : Nat
  tank : TankId
  pendingReq : Option Nat
  starve : Option StarveCause
  zones : ZoneSet
  midDepth : Nat
  waterDepth : Nat
  length : Nat
  vol : Nat
  take : Nat
  lastPg : Nat
  lastPe : Nat
  lastQ : Nat
  lastCap : Nat
  lastPtgt : Nat
  pRamp : Nat
  u : Int
  ePrev : Int
  first : Bool
  refusalTimer : Nat
  reliefCount : Nat
  maxPe : Nat
  hold : HoldSet
  startUptime : Option Nat
  deriving DecidableEq, Repr

/-- The end latch of a line in DRAIN or ENDED (section 6.5). -/
structure EndLatch where
  outcome : PassOutcome
  finalTake : Nat
  finalPe : Nat
  finalProduct : Nat
  maxPe : Nat
  finalStep : Nat
  reliefCount : Nat
  snapshot : Option Snapshot
  drainTime : Nat
  deriving DecidableEq, Repr

/-- What a line holds exactly while it is not IDLE (R31): its state, its stage context, and its end latch where it has one. -/
structure Live where
  phase : Phase
  ctx : Context
  latch : Option EndLatch
  deriving DecidableEq, Repr

/-- The measurement front end of a line (R38). `pulses` is 0, 1 or 2 ("2 or more"); times are in ms. -/
structure FrontEnd where
  fault : Bool
  count : Nat
  pulses : Nat
  lastPulse : Option Nat
  pLast : Option Nat
  deriving DecidableEq, Repr

/-- A tank's notice of one event to a line (R121): the moved step; what becomes of the pending request (`some none` clears it,
`some (some m)` records it, R130, R132); where the event changed the tank's mix, whether it found the line mismatched
(R130); and whether the event has reported the end of the line's request (R137), of which a withdrawal then has nothing to
report (log entry 26). -/
structure Notice where
  step : Option Nat
  pend : Option (Option Nat)
  mismatch : Option Bool
  reported : Bool
  deriving DecidableEq, Repr

/-- A line (R56) with its front end, its sample timer (R39, ms left, present while it runs), its trace counter (R97), and
the notices of its tank that it has not yet taken, oldest first. -/
structure Line where
  live : Option Live
  key : Bool
  permitDrop : Bool
  sampleTimer : Option Nat
  traceCounter : Nat
  fe : FrontEnd
  notices : List Notice
  deriving DecidableEq, Repr

/-! ### Tanks, gauges, supervision -/

/-- A tank's record but for its reserve, which is backed (R119). Its state is derived (R120). Volumes in mL. -/
structure Tank where
  mix : Option Nat
  contents : Nat
  delivered : Nat
  drawn : Nat
  waste : Nat
  overdraw : Nat
  batchSince : Bool
  changeMade : Bool
  queue : List (LineId × Nat)
  deriving DecidableEq, Repr

/-- The part of a gauge's record that is not backed (R138). -/
structure Gauge where
  reading : Option Int
  fault : Bool
  rail : Nat
  trips : Nat
  deriving DecidableEq, Repr

/-- The scanner while it dwells on a gauge (R140): the gauge and the ms left of the dwell. -/
structure Scan where
  gauge : GaugeId
  left : Nat
  deriving DecidableEq, Repr

/-- The supply and stop supervision (R154). `now` is the ms clock from power-on (R38); the uptime is its whole seconds. -/
structure Supply where
  failed : Bool
  batteryLow : Bool
  backupLost : Bool
  loopOpen : Bool
  now : Nat
  deriving DecidableEq, Repr

/-! ### Messages -/

/-- The receive framer (R162): in COLLECT, the length and the bytes so far; in CHECK also the first check byte, once it is in. -/
inductive Framer where
  | hunt
  | length
  | collect (n : Byte) (got : List Byte)
  | check (n : Byte) (got : List Byte) (first : Option Byte)
  deriving DecidableEq, Repr

/-- What a request answers (R179): its result code and the bytes of the body that follow it. -/
structure Reply where
  result : Result
  body : List Byte
  deriving DecidableEq, Repr

/-- An answer in the answer queue (R165, R166). -/
structure Answer where
  kind : Byte
  tag : Byte
  reply : Reply
  deriving DecidableEq, Repr

/-- The action on a line named in HEAVE and LINK reports (R152, R176). -/
inductive LineAction where
  | drain | holdHeave | heaveZoneAdded | holdGauge | gaugeAdded | gaugeReleased | holdLink | linkAdded | linkReleased
  deriving DecidableEq, Repr

/-- The event of a TANK report (R136). -/
inductive TankEvent where
  | draw | batch | empty | tankcfg | adopt | changeover | wipe
  deriving DecidableEq, Repr

/-- The disposition of a mix request (R137). -/
inductive Disposition where
  | queued | satisfied | granted | withdrawn
  deriving DecidableEq, Repr

/-- The event of a HEAVE report (R152). -/
inductive HeaveEvent where
  | reading | gaugecfg | zero | zonecfg | hclear | wipe
  deriving DecidableEq, Repr

/-- The event of a LINK report (R176). -/
inductive LinkEvent where
  | t1Expiry | t2Expiry | restore | safeClear
  deriving DecidableEq, Repr

/-- The event of a SUPPLY report (R160). -/
inductive SupplyEvent where
  | powerOn | loopOpen | loopClosed | battery
  deriving DecidableEq, Repr

/-- STAGE_END (R115). -/
structure StageEndReport where
  uptime : Nat
  line : LineId
  hole : Nat
  stage : Nat
  pass : Nat
  record : OutcomeRecord
  status : StageStatus
  passVol : Nat
  cumVol : Nat
  holeClosed : Bool
  deriving DecidableEq, Repr

/-- LINE (R84). -/
structure LineReport where
  uptime : Nat
  line : LineId
  before : Phase
  after : Phase
  cause : Option Cause
  hold : HoldSet
  starve : Option StarveCause
  cond : Option Release
  deriving DecidableEq, Repr

/-- TANK (R136). -/
structure TankReport where
  uptime : Nat
  tank : TankId
  event : TankEvent
  stateBefore : TankState
  stateAfter : TankState
  mixBefore : Option Nat
  mixAfter : Option Nat
  contents : Nat
  reserve : Nat
  delivered : Nat
  drawn : Nat
  waste : Nat
  overdraw : Nat
  wasteNow : Nat
  requester : Option LineId
  followers : List (LineId × Nat)
  mismatched : LineSet
  deriving DecidableEq, Repr

/-- HEAVE for a gauge's fault change (R152). -/
structure GaugeHeave where
  uptime : Nat
  event : HeaveEvent
  gauge : GaugeId
  zone : ZoneId
  fault : Bool
  reading : Option Int
  lines : List (LineId × LineAction)
  deriving DecidableEq, Repr

/-- HEAVE for a zone's change of state (R152). -/
structure ZoneHeave where
  uptime : Nat
  event : HeaveEvent
  zone : ZoneId
  before : ZoneState
  after : ZoneState
  routing : Routing
  largest : Option (GaugeId × Int)
  faulted : List GaugeId
  lines : List (LineId × LineAction)
  deriving DecidableEq, Repr

/-- LINK (R176). -/
structure LinkReport where
  uptime : Nat
  event : LinkEvent
  before : LinkState
  after : LinkState
  latch : Bool
  lines : List (LineId × LineAction)
  deriving DecidableEq, Repr

/-- SUPPLY (R160). -/
structure SupplyReport where
  uptime : Nat
  event : SupplyEvent
  failed : Bool
  batteryLow : Bool
  loopOpen : Bool
  backupLost : Bool
  converted : Nat
  restored : Nat
  drained : LineSet
  deriving DecidableEq, Repr

/-- TRACE (R97). `pint` is the field as it travels: 0xFFFFFFFF stands for unlimited (R177). -/
structure TraceReport where
  uptime : Nat
  line : LineId
  phase : Phase
  ctx : Context
  pint : BitVec 32
  permit : Bool
  permitDrop : Bool
  fault : Bool
  deriving DecidableEq, Repr

/-- MIXREQ (R137). `step` is 0 for a line without a context. -/
structure MixReport where
  tank : TankId
  line : LineId
  mix : Nat
  disposition : Disposition
  position : Nat
  step : Nat
  deriving DecidableEq, Repr

/-- A report (R167, R181). -/
inductive Report where
  | stageEnd (r : StageEndReport)
  | line (r : LineReport)
  | tank (r : TankReport)
  | gaugeHeave (r : GaugeHeave)
  | zoneHeave (r : ZoneHeave)
  | link (r : LinkReport)
  | supply (r : SupplyReport)
  | trace (r : TraceReport)
  | mixreq (r : MixReport)
  deriving DecidableEq, Repr

/-- The message in transmission (R168). -/
inductive Message where
  | answer (a : Answer)
  | report (r : Report)
  deriving DecidableEq, Repr

/-- The site link (chapter 10): framer and gap timer, answer and report queues, the frame in transmission, the
missed-report flag, and the supervision record. Timers hold the ms left while they run. -/
structure Link where
  framer : Framer
  gap : Option Nat
  answers : List Answer
  reports : List Report
  tx : Option Message
  missed : Bool
  state : LinkState
  t1 : Option Nat
  t2 : Option Nat
  safeLatch : Bool
  deriving DecidableEq, Repr

end Sys2Proof.Machine
end

