-- ==== Sys2Proof/Machine/Defaults.lean ====
section
/-! DEFINITION. The power-on values of the records that are not backed (R38, R56, R97, R119, R138) and the defaults of the
backed configuration records (R22). -/

namespace Sys2Proof.Machine

/-- A front end at power-on (R38). -/
def FrontEnd.fresh : FrontEnd :=
  { fault := false, count := 0, pulses := 0, lastPulse := none, pLast := none }

/-- A line at power-on with its key as it stands (R56, R97). -/
def Line.fresh (key : Bool) : Line :=
  { live := none, key := key, permitDrop := false, sampleTimer := none, traceCounter := 0, fe := FrontEnd.fresh, notices := [] }

/-- A tank at power-on (R119). -/
def Tank.fresh : Tank :=
  { mix := none, contents := 0, delivered := 0, drawn := 0, waste := 0, overdraw := 0, batchSince := false,
    changeMade := false, queue := [] }

/-- A gauge at power-on (R138). -/
def Gauge.fresh : Gauge := { reading := none, fault := false, rail := 0, trips := 0 }

/-- A line's default configuration (R22): tank A (0) for L1..L3, B (1) for L4..L6. -/
def LineCfg.dflt (tank : TankId) : LineCfg :=
  { tank := tank, interval := 200, kp := 64, ki := 32, factor := 50, span := 10000, trace := 0 }

/-- A gauge's default configuration (R22). -/
def GaugeCfg.dflt : GaugeCfg := { enabled := false, zone := 0, span := 5000, baseline := 0 }

/-- A zone's default configuration (R22). -/
def ZoneCfg.dflt : ZoneCfg := { warn := 200, trip := 500, derate := 70, routing := .stop }

/-- The default link configuration (R22). -/
def LinkCfg.dflt : LinkCfg := { t1 := 30, t2 := 60, safe := 50 }

/-- The default reserve of a tank, mL (R22). -/
def defaultReserve : Nat := 100000

/-- The store with an empty plan, every configuration record at its default, and the given trip latches (R20, R22, R23). -/
def Store.dflt (latches : Vector Bool 4) : Store :=
  { secs := [], holes := [], stages := [], sets := [], bands := [], mixes := [],
    lineCfg := #v[LineCfg.dflt 0, LineCfg.dflt 0, LineCfg.dflt 0, LineCfg.dflt 1, LineCfg.dflt 1, LineCfg.dflt 1],
    reserve := #v[defaultReserve, defaultReserve],
    gaugeCfg := Vector.replicate 16 GaugeCfg.dflt,
    zoneCfg := Vector.replicate 4 ZoneCfg.dflt,
    linkCfg := LinkCfg.dflt,
    tripLatch := latches }

end Sys2Proof.Machine
end

