-- ==== Sys2Proof/Machine/State.lean ====
section
/-! DEFINITION. The state of the GI-6 and the state right after reset (the power-on of the first connection, R156, with an
empty plan store, R23). -/

namespace Sys2Proof.Machine

/-- Reasons a step stops with a fault. The manual names none: every command of the GI-6 has an effect, an answer, or no effect
in the state it meets, so nothing raises a fault. -/
inductive Fault where
  deriving DecidableEq, Repr

/-- Reasons a step is refused. -/
inductive Refusal where
  /-- Raised by `exec` for a row of the table that has no meaning in the model. Safe. No arm raises it. -/
  | notModelled (mnemonic : String)
  deriving DecidableEq, Repr

/-- The whole part. `handoffs` holds the events one block has handed to another and that have not been taken yet (R100, R121,
R123, R128, R131), oldest first. `freeCount` is the MODEL's own counter for the free values of Config. `pending` holds the
commands that wait, oldest first. -/
structure State where
  store : Store
  lines : Vector Line 6
  tanks : Vector Tank 2
  gauges : Vector Gauge 16
  zoneWarn : Vector Bool 4
  scan : Option Scan
  link : Link
  supply : Supply
  handoffs : List Instr
  freeCount : Nat
  pending : List Instr
  deriving DecidableEq, Repr

/-- The machine right after the power-on of the first connection: every block as R156 gives it for backup LOST. The SUPPLY
report of power-on stood in the empty report queue and the arbiter has started it (R168). DESIGN CHOICE (log entry 1): the
battery is sensed GOOD, the loop CLOSED and every LOCAL key released, which the manual leaves to the field; the backup is
judged LOST, since nothing held the store before the first connection. -/
def State.reset : State :=
  { store := Store.dflt (Vector.replicate 4 false),
    lines := Vector.replicate 6 (Line.fresh false),
    tanks := Vector.replicate 2 Tank.fresh,
    gauges := Vector.replicate 16 Gauge.fresh,
    zoneWarn := Vector.replicate 4 false,
    scan := none,
    link :=
      { framer := .hunt, gap := none, answers := [], reports := [],
        tx := some (.report (.supply
          { uptime := 0, event := .powerOn, failed := false, batteryLow := false, loopOpen := false, backupLost := true,
            converted := 0, restored := 0, drained := 0 })),
        missed := false, state := .ok, t1 := some 30000, t2 := none, safeLatch := false },
    supply := { failed := false, batteryLow := false, backupLost := true, loopOpen := false, now := 0 },
    handoffs := [],
    freeCount := 0,
    pending := [] }

end Sys2Proof.Machine
end

