-- ==== Sys2Proof/Machine/Ops.lean ====
section
/-! DEFINITION. The named operations over State: reading and writing the plan tables, the lines, the tanks, the gauges and
zones; the report queue, the answer queue and the transmit arbiter; and the frame every command runs in. -/

namespace Sys2Proof.Machine

/-! ### Tables (R1) -/

/-- The record under key `k`, or none: "not planned". -/
def tfind {α : Type} : Table α → Nat → Option α
  | [], _ => none
  | (j, x) :: rest, k => if j = k then some x else tfind rest k

/-- Create or replace the record under key `k`, keeping the keys rising. -/
def tput {α : Type} : Table α → Nat → α → Table α
  | [], k, v => [(k, v)]
  | (j, x) :: rest, k, v =>
    if k < j then (k, v) :: (j, x) :: rest
    else if k = j then (k, v) :: rest
    else (j, x) :: tput rest k v

/-- Remove the record under key `k`. -/
def tdel {α : Type} (t : Table α) (k : Nat) : Table α := t.filter (fun p => p.1 != k)

/-- Change the record under key `k`, where there is one. -/
def tmod {α : Type} (t : Table α) (k : Nat) (f : α → α) : Table α :=
  t.map (fun p => if p.1 = k then (p.1, f p.2) else p)

/-- The keys rise strictly, so no key occurs twice (R1). -/
def tsorted {α : Type} : Table α → Bool
  | [] => true
  | [_] => true
  | (i, _) :: (j, y) :: rest => decide (i < j) && tsorted ((j, y) :: rest)

/-- The key of a stage in the stage table: stage numbers are 1..24, so keys of different stages differ (R1). -/
def stageKey (hole stage : Nat) : Nat := hole * 32 + stage

/-! ### Lines -/

/-- L1..L6 in the order of their numbers. -/
def allLines : List LineId := [0, 1, 2, 3, 4, 5]

/-- Z1..Z4 in the order of their numbers. -/
def allZones : List ZoneId := [0, 1, 2, 3]

/-- G1..G16 in the order of their numbers. -/
def allGauges : List GaugeId := [0, 1, 2, 3, 4, 5, 6, 7, 8, 9, 10, 11, 12, 13, 14, 15]

/-- Tanks A and B. -/
def allTanks : List TankId := [0, 1]

/-- A line. -/
def State.line (s : State) (l : LineId) : Line := s.lines[l]

/-- Write a line. -/
def State.setLine (s : State) (l : LineId) (x : Line) : State := { s with lines := s.lines.set l x }

/-- What a line holds while it is not IDLE. -/
def State.live (s : State) (l : LineId) : Option Live := (s.line l).live

/-- The state of a line, none for IDLE. -/
def State.phase (s : State) (l : LineId) : Option Phase := (s.live l).map (·.phase)

/-- The stage context of a line. -/
def State.ctx (s : State) (l : LineId) : Option Context := (s.live l).map (·.ctx)

/-- Write what a line that is not IDLE holds. -/
def State.setLive (s : State) (l : LineId) (v : Live) : State := s.setLine l { s.line l with live := some v }

/-- Change a line's context, where it has one. -/
def State.modCtx (s : State) (l : LineId) (f : Context → Context) : State :=
  match s.live l with
  | none => s
  | some v => s.setLive l { v with ctx := f v.ctx }

/-! ### Other records -/

/-- A tank's record. -/
def State.tank (s : State) (t : TankId) : Tank := s.tanks[t]

/-- Write a tank's record. -/
def State.setTank (s : State) (t : TankId) (x : Tank) : State := { s with tanks := s.tanks.set t x }

/-- A gauge's record, but for its configuration. -/
def State.gauge (s : State) (g : GaugeId) : Gauge := s.gauges[g]

/-- Write a gauge's record. -/
def State.setGauge (s : State) (g : GaugeId) (x : Gauge) : State := { s with gauges := s.gauges.set g x }

/-- A gauge's configuration. -/
def State.gaugeCfg (s : State) (g : GaugeId) : GaugeCfg := s.store.gaugeCfg[g]

/-- Write a gauge's configuration. -/
def State.setGaugeCfg (s : State) (g : GaugeId) (x : GaugeCfg) : State :=
  { s with store := { s.store with gaugeCfg := s.store.gaugeCfg.set g x } }

/-- A zone's configuration. -/
def State.zoneCfg (s : State) (z : ZoneId) : ZoneCfg := s.store.zoneCfg[z]

/-- Write a zone's configuration. -/
def State.setZoneCfg (s : State) (z : ZoneId) (x : ZoneCfg) : State :=
  { s with store := { s.store with zoneCfg := s.store.zoneCfg.set z x } }

/-- A zone's trip latch (R143). -/
def State.latched (s : State) (z : ZoneId) : Bool := s.store.tripLatch[z]

/-- Write a zone's trip latch. -/
def State.setLatch (s : State) (z : ZoneId) (b : Bool) : State :=
  { s with store := { s.store with tripLatch := s.store.tripLatch.set z b } }

/-- Whether a zone that is not in TRIP stands in WARN. -/
def State.warned (s : State) (z : ZoneId) : Bool := s.zoneWarn[z]

/-- Write whether a zone stands in WARN. -/
def State.setWarned (s : State) (z : ZoneId) (b : Bool) : State := { s with zoneWarn := s.zoneWarn.set z b }

/-- A line's configuration. -/
def State.lineCfg (s : State) (l : LineId) : LineCfg := s.store.lineCfg[l]

/-- A tank's reserve. -/
def State.reserve (s : State) (t : TankId) : Nat := s.store.reserve[t]

/-- Change the plan store. -/
def State.modStore (s : State) (f : Store → Store) : State := { s with store := f s.store }

/-- Change the link. -/
def State.modLink (s : State) (f : Link → Link) : State := { s with link := f s.link }

/-- The record of a stage of a hole. -/
def State.stageRec (s : State) (hole stage : Nat) : Option Stage := tfind s.store.stages (stageKey hole stage)

/-- Change the record of a stage, where it is planned. -/
def State.modStage (s : State) (hole stage : Nat) (f : Stage → Stage) : State :=
  s.modStore (fun p => { p with stages := tmod p.stages (stageKey hole stage) f })

/-- The controller uptime in whole seconds from power-on, a 32-bit count (R154). -/
def State.uptime (s : State) : Nat := s.supply.now / 1000 % 4294967296

/-! ### Reports and answers -/

/-- A report joins the report queue; at 32 waiting it is discarded and the missed flag is set (R167). -/
def State.report (s : State) (r : Report) : State :=
  if s.link.reports.length < Config.maxReports then s.modLink (fun k => { k with reports := k.reports ++ [r] })
  else s.modLink (fun k => { k with missed := true })

/-- Reports join the queue in the order of the list. -/
def State.reportAll (s : State) (rs : List Report) : State := rs.foldl State.report s

/-- An answer joins the answer queue (R166). -/
def State.answer (s : State) (a : Answer) : State := s.modLink (fun k => { k with answers := k.answers ++ [a] })

/-- The transmit arbiter (R168): while no frame is in transmission it starts the oldest waiting answer, else the head report. -/
def startFrame (s : State) : State :=
  match s.link.tx with
  | some _ => s
  | none =>
    match s.link.answers with
    | a :: rest => s.modLink (fun k => { k with tx := some (.answer a), answers := rest })
    | [] =>
      match s.link.reports with
      | r :: rest => s.modLink (fun k => { k with tx := some (.report r), reports := rest })
      | [] => s

/-! ### Hand-offs -/

/-- One block hands an event to another, which takes it later as its own (R100). -/
def State.handOff (s : State) (i : Instr) : State := { s with handoffs := s.handoffs ++ [i] }

/-- The event that is being taken is no longer waiting: its oldest waiting copy is removed, if there is one. -/
def State.taken (s : State) (i : Instr) : State := { s with handoffs := s.handoffs.erase i }

/-- The events that one block hands to another. -/
def isHandOff : Instr → Bool
  | .tankDraw _ _ | .mixRequest _ _ _ | .adopt _ _ _ | .headExamination _ | .tankNotice _ => true
  | _ => false

/-! ### The frame of a command -/

/-- A command is taken as one whole event (R100). While the supply is FAILED the blocks take no event (R155). At the close of
an event the arbiter acts, so an answer built in it goes ahead of every report queued in it (R168). -/
def takeEvent (f : State → State) (s : State) : Host.Outcome State Fault Refusal :=
  .next (if s.supply.failed then s else startFrame (f s))

/-- A reply with no further body. -/
def Reply.bare (r : Result) : Reply := { result := r, body := [] }

/-- A refused or accepted request that leaves the state as it stands. -/
def deny (s : State) (r : Result) : State × Reply := (s, Reply.bare r)

end Sys2Proof.Machine
end

