-- ==== Sys2Proof/Machine/Operands.lean ====
section
/-! DEFINITION. The operand forms of the commands: numbers and codes of the message reference (sections 11.1, 11.2) read as
the part's items, ranges, clamps, masks and sets. A value that names no item reads as none. -/

namespace Sys2Proof.Machine

/-- `n` lies in `lo..hi`. -/
def inRange (lo hi n : Nat) : Bool := decide (lo ≤ n) && decide (n ≤ hi)

/-- `n` lies in `lo..hi`. -/
def inRangeI (lo hi n : Int) : Bool := decide (lo ≤ n) && decide (n ≤ hi)

/-- `n` clamped to `lo..hi`. -/
def clampN (lo hi n : Nat) : Nat := if n < lo then lo else if hi < n then hi else n

/-- `n` clamped to `lo..hi`. -/
def clampI (lo hi n : Int) : Int := if n < lo then lo else if hi < n then hi else n

/-- The line of a line number 1..6. -/
def lineOf (n : Nat) : Option LineId := if h : 1 ≤ n ∧ n ≤ 6 then some ⟨n - 1, by omega⟩ else none

/-- The tank of a tank code: 1 A, 2 B. -/
def tankOf (n : Nat) : Option TankId := if h : 1 ≤ n ∧ n ≤ 2 then some ⟨n - 1, by omega⟩ else none

/-- The gauge of a gauge number 1..16. -/
def gaugeOf (n : Nat) : Option GaugeId := if h : 1 ≤ n ∧ n ≤ 16 then some ⟨n - 1, by omega⟩ else none

/-- The zone of a zone number 1..4. -/
def zoneOf (n : Nat) : Option ZoneId := if h : 1 ≤ n ∧ n ≤ 4 then some ⟨n - 1, by omega⟩ else none

/-- The routing of a routing code: 1 STOP, 2 HOLD, 3 REPORT. -/
def routingOf : Nat → Option Routing
  | 1 => some .stop
  | 2 => some .hold
  | 3 => some .report
  | _ => none

/-- A flag is 0 or 1 (R177). -/
def flagOf : Nat → Option Bool
  | 0 => some false
  | 1 => some true
  | _ => none

/-- A reference that is encoded 0 when it is absent (R177). -/
def refOf (n : Nat) : Option Nat := if n = 0 then none else some n

/-- A line's number. -/
def lineNo (l : LineId) : Nat := l.val + 1

/-- The member of {100, 200, 500, 1000} nearest to `n`; a value equally far from two goes to the larger (R59). -/
def nearestInterval (n : Nat) : Nat :=
  if n < 150 then 100 else if n < 350 then 200 else if n < 750 then 500 else 1000

/-- The set of the lines that satisfy `p`, as a mask (R177). -/
def lineMask (p : LineId → Bool) : LineSet :=
  allLines.foldl (fun m l => if p l then m ||| BitVec.twoPow 6 l.val else m) 0

/-- A zone set holds a zone. -/
def hasZone (zs : ZoneSet) (z : ZoneId) : Bool := zs.getLsbD z.val

/-- The zone set of one zone. -/
def oneZone (z : ZoneId) : ZoneSet := BitVec.twoPow 4 z.val

/-- A section mask holds a section number. -/
def hasSec (m : SectionSet) (n : Nat) : Bool := m.getLsbD (n - 1)

/-! ### Hold cause sets (R68) -/

/-- No cause is held. -/
def HoldSet.none : HoldSet :=
  { site := Option.none, brk := false, link := false, heave := Option.none, gauge := false, sensor := false, localKey := false }

/-- The set is empty. -/
def HoldSet.isEmpty (h : HoldSet) : Bool :=
  h.site.isNone && !h.brk && !h.link && h.heave.isNone && !h.gauge && !h.sensor && !h.localKey

/-- Whether a cause is held. -/
def HoldSet.holds (h : HoldSet) : Cause → Bool
  | .site => h.site.isSome
  | .brk => h.brk
  | .link => h.link
  | .heave => h.heave.isSome
  | .gauge => h.gauge
  | .sensor => h.sensor
  | .localKey => h.localKey

/-- The causes in the order of their codes. -/
def allCauses : List Cause := [.site, .brk, .link, .heave, .gauge, .sensor, .localKey]

/-- The causes held. -/
def HoldSet.causes (h : HoldSet) : List Cause := allCauses.filter h.holds

/-- Release a cause. -/
def HoldSet.drop (h : HoldSet) : Cause → HoldSet
  | .site => { h with site := Option.none }
  | .brk => { h with brk := false }
  | .link => { h with link := false }
  | .heave => { h with heave := Option.none }
  | .gauge => { h with gauge := false }
  | .sensor => { h with sensor := false }
  | .localKey => { h with localKey := false }

/-- Add HEAVE for a zone, or add the zone to its release data (R68). -/
def HoldSet.addHeave (h : HoldSet) (z : ZoneId) : HoldSet := { h with heave := some (h.heave.getD 0 ||| oneZone z) }

/-! ### Sets of protected limits (R13, R14) -/

/-- For at least one protected field the new value is greater than the old (R13, check 3). -/
def Limits.loosens (old new : Limits) : Bool :=
  decide (old.pmax < new.pmax) || decide (old.gin < new.gin) || decide (old.tmax < new.tmax)
    || decide (old.overshoot < new.overshoot) || decide (old.reliefLimit < new.reliefLimit) || decide (old.ramp < new.ramp)

/-- At least one protected field is lowered (R14). -/
def Limits.lowers (old new : Limits) : Bool := Limits.loosens new old

/-- The new value where it is lower than the old, and otherwise what the context holds (R14). -/
def pushed (old new held : Nat) : Nat := if new < old then new else held

/-- A context's limits after a push: each lowered protected value is written, the others are left as they were (R14, R33). -/
def Limits.push (old new held : Limits) : Limits :=
  { held with
    pmax := pushed old.pmax new.pmax held.pmax
    gin := pushed old.gin new.gin held.gin
    tmax := pushed old.tmax new.tmax held.tmax
    overshoot := pushed old.overshoot new.overshoot held.overshoot
    reliefLimit := pushed old.reliefLimit new.reliefLimit held.reliefLimit
    ramp := pushed old.ramp new.ramp held.ramp }

/-- Every limit field lies in its range (R11). -/
def Limits.inRange (l : Limits) : Bool :=
  Machine.inRange 100 8000 l.pmax && Machine.inRange 100 5000 l.gin && Machine.inRange 10 20000 l.tmax
    && Machine.inRange 0 500 l.overshoot && Machine.inRange 1 9 l.reliefLimit && Machine.inRange 5 500 l.ramp
    && Machine.inRange 0 50 l.refFlow && Machine.inRange 0 500 l.refBand && Machine.inRange 60 1800 l.refTime
    && Machine.inRange 50 2000 l.breakDrop

/-! ### Mix ladders (R11) -/

/-- A ladder as it travels: the last step carries no advance take and is sent with 0 (R179). -/
def ladderOf : List (Nat × Nat) → List LadderStep
  | [] => []
  | [(m, a)] => [{ mix := m, advance := refOf a }]
  | (m, a) :: rest => { mix := m, advance := some a } :: ladderOf rest

/-- Advance takes lie in 1..20000 on every step but the last, which has none, and rise strictly (R11). -/
def advancesRise (floor : Nat) : List LadderStep → Bool
  | [] => true
  | [x] => x.advance.isNone
  | x :: y :: rest =>
    match x.advance with
    | none => false
    | some a => decide (floor < a) && decide (a ≤ 20000) && advancesRise a (y :: rest)

/-- A ladder is well formed (R11): one to four steps, codes 1..8 and none twice, advance takes as `advancesRise` says. -/
def ladderWellFormed (l : List LadderStep) : Bool :=
  decide (1 ≤ l.length) && decide (l.length ≤ 4) && l.all (fun x => inRange 1 8 x.mix)
    && decide ((l.map (·.mix)).Nodup) && advancesRise 0 l

/-- The mix of a ladder step; steps count from 1. -/
def stepMix (l : List LadderStep) (k : Nat) : Option Nat := (l[k - 1]?).map (·.mix)

/-- The advance take of a ladder step. -/
def stepAdvance (l : List LadderStep) (k : Nat) : Option Nat := (l[k - 1]?).bind (·.advance)

/-- The first step from `k` on, counting the head of the list as step `at_`, whose mix is `m`. -/
def findStep (l : List LadderStep) (at_ k m : Nat) : Option Nat :=
  match l with
  | [] => none
  | x :: rest => if k ≤ at_ ∧ x.mix = m then some at_ else findStep rest (at_ + 1) k m

/-- The step of mix `m` at or after step `k` (R64, R130). The ladder's mixes are distinct, so there is at most one. -/
def laterStep (l : List LadderStep) (k m : Nat) : Option Nat := findStep l 1 k m

/-- The starting step for a take: the first step without an advance take, or whose advance take the take is below (R29). -/
def startingStep (take : Nat) : List LadderStep → Nat
  | [] => 1
  | x :: rest =>
    match x.advance with
    | none => 1
    | some a => if take < a then 1 else 1 + startingStep take rest

/-- The mix of a context's current step; 0 names no mix. -/
def Context.mix (c : Context) : Nat := (stepMix c.ladder c.step).getD 0

end Sys2Proof.Machine
end

