-- ==== Sys2Proof/Machine/Flags.lean ====
section
/-! DEFINITION. The conditions and outputs that follow from the state at every moment: started states, demands and permit
relay (R56 to R58), bound holes and hole status (R4), tank state and supply (R120), gauges taking part and zone state
(R138, R143), and the zones that stand against a line (R35, R60, R63). -/

namespace Sys2Proof.Machine

/-! ### Lines -/

/-- The started states (R56). -/
def Phase.started : Phase → Bool
  | .inject | .relief | .hold | .starved | .localPanel => true
  | _ => false

/-- The states in which a sample's volume is counted (R45). -/
def Phase.counting (p : Phase) : Bool := p.started || p == .drain

/-- A line in one of the started states. -/
def State.started (s : State) (l : LineId) : Bool := (s.phase l).any Phase.started

/-- The pump demand in per mil (R57). -/
def Live.pump (v : Live) : Nat := if v.phase = .inject then v.ctx.u.toNat else 0

/-- The bleed demand in per mil (R57). -/
def Live.bleed (v : Live) : Nat :=
  match v.phase with
  | .inject => (-v.ctx.u).toNat
  | .relief | .drain | .ended => 1000
  | .bound | .hold | .starved | .localPanel => 0

/-- A line's pump demand as driven (R57); de-energised without supply (R155). -/
def State.pump (s : State) (l : LineId) : Nat :=
  if s.supply.failed then 0 else match s.live l with | none => 0 | some v => v.pump

/-- A line's bleed demand as driven (R57); de-energised without supply (R155). -/
def State.bleed (s : State) (l : LineId) : Nat :=
  if s.supply.failed then 1000 else match s.live l with | none => 1000 | some v => v.bleed

/-- A line's permit relay is closed (R58). -/
def State.permit (s : State) (l : LineId) : Bool :=
  !s.supply.failed && !s.supply.loopOpen &&
    match s.phase l with
    | some .inject | some .relief | some .hold | some .starved => true
    | some .localPanel => !(s.line l).permitDrop
    | _ => false

/-! ### Holes -/

/-- The line a hole is bound to (R4, R31): the first line whose context names it. -/
def State.boundOn (s : State) (hole : Nat) : Option LineId :=
  allLines.find? (fun l => (s.ctx l).any (fun c => c.hole == hole))

/-- The records of a hole's stages in ascending order, with their numbers. -/
def State.stagesOf (s : State) (hole : Nat) : List (Nat × Stage) :=
  (s.store.stages.filter (fun p => p.1 / 32 == hole)).map (fun p => (p.1 % 32, p.2))

/-- A hole is CLOSED: it has at least one stage and all are COMPLETE (R4). -/
def State.holeClosed (s : State) (hole : Nat) : Bool :=
  !(s.stagesOf hole).isEmpty && (s.stagesOf hole).all (fun p => p.2.status == .complete)

/-- Two planned holes are neighbours when either lists the other (R3, R61). -/
def State.neighbours (s : State) (x y : Nat) : Bool :=
  match tfind s.store.holes x, tfind s.store.holes y with
  | some hx, some hy => hx.neighbours.contains y || hy.neighbours.contains x
  | _, _ => false

/-! ### Tanks -/

/-- The state of a tank with this mix, contents and reserve (R120). -/
def judgeTank (mix : Option Nat) (contents reserve : Nat) : TankState :=
  match mix with
  | none => .unset
  | some _ => if contents ≤ reserve then .low else .ready

/-- A tank's state (R120). -/
def State.tankState (s : State) (t : TankId) : TankState :=
  judgeTank (s.tank t).mix (s.tank t).contents (s.reserve t)

/-- A tank supplies a line with this context: it is READY on the mix of the line's current step (R64, R120). -/
def State.supplies (s : State) (c : Context) : Bool :=
  (s.tankState c.tank == .ready) && ((s.tank c.tank).mix == some c.mix)

/-- The starve cause of a line with this context that its tank does not supply (R66). -/
def State.starveCause (s : State) (c : Context) : StarveCause :=
  match (s.tank c.tank).mix with
  | some m => if m = c.mix then .supply else .mix
  | none => .supply

/-- The bound lines of a tank: those whose context is attached to it (R119), in the order of their numbers, in which QTANK lists
them too (R127, R179; DESIGN CHOICE, log entry 37). -/
def State.boundLines (s : State) (t : TankId) : List LineId :=
  allLines.filter (fun l => (s.ctx l).any (fun c => c.tank == t))

/-! ### Gauges and zones -/

/-- A gauge takes part in its zone: it is enabled, holds a reading and is healthy (R138). -/
def State.takesPart (s : State) (g : GaugeId) : Bool :=
  (s.gaugeCfg g).enabled && (s.gauge g).reading.isSome && !(s.gauge g).fault

/-- A gauge's displacement: its reading less its baseline (R138). -/
def State.displacement (s : State) (g : GaugeId) : Option Int :=
  (s.gauge g).reading.map (fun r => r - (s.gaugeCfg g).baseline)

/-- The gauges of a zone (R143). -/
def State.gaugesOf (s : State) (z : ZoneId) : List GaugeId := allGauges.filter (fun g => (s.gaugeCfg g).zone == z)

/-- The gauges that take part in a zone. -/
def State.partGauges (s : State) (z : ZoneId) : List GaugeId := (s.gaugesOf z).filter s.takesPart

/-- The faulted enabled gauges of a zone. -/
def State.faultedGauges (s : State) (z : ZoneId) : List GaugeId :=
  (s.gaugesOf z).filter (fun g => (s.gaugeCfg g).enabled && (s.gauge g).fault)

/-- A zone holds a faulted enabled gauge. -/
def State.zoneFault (s : State) (z : ZoneId) : Bool := !(s.faultedGauges z).isEmpty

/-- A zone's state: TRIP exactly while its latch is set (R143). -/
def State.zoneState (s : State) (z : ZoneId) : ZoneState :=
  if s.latched z then .trip else if s.warned z then .warn else .normal

/-- A zone in TRIP with routing STOP or HOLD (R60, R63). -/
def State.zoneBars (s : State) (z : ZoneId) : Bool :=
  (s.zoneState z == .trip) && !((s.zoneCfg z).routing == .report)

/-- A zone derates its lines: it is in WARN or holds a faulted enabled gauge (R35). -/
def State.zoneDerates (s : State) (z : ZoneId) : Bool := (s.zoneState z == .warn) || s.zoneFault z

/-- The lines of a zone: those whose context holds it (R143), in the order of their numbers, in which QGAUGE lists them too (R153,
R179; DESIGN CHOICE, log entry 37). -/
def State.linesOf (s : State) (z : ZoneId) : List LineId :=
  allLines.filter (fun l => (s.ctx l).any (fun c => hasZone c.zones z))

/-- A line in a started state has the zone in its zone set (R139, R142). -/
def State.zoneStarted (s : State) (z : ZoneId) : Bool := (s.linesOf z).any s.started

/-! ### The cap in force (R35) -/

/-- The base cap: Pmax, or the smaller of it and the band cap (R26). -/
def baseCap (pmax : Nat) (bandCap : Option Nat) : Nat :=
  match bandCap with
  | none => pmax
  | some b => min pmax b

/-- The smallest derate among the zones of the set that derate the line (R35). -/
def State.derate (s : State) (zs : ZoneSet) : Option Nat :=
  allZones.foldl
    (fun d z =>
      if hasZone zs z && s.zoneDerates z then
        some (match d with | none => (s.zoneCfg z).derate | some x => min x (s.zoneCfg z).derate)
      else d)
    none

/-- The zone cap (R35). -/
def State.zoneCap (s : State) (c : Context) : Nat :=
  match s.derate c.zones with
  | none => baseCap c.limits.pmax c.bandCap
  | some d => baseCap c.limits.pmax c.bandCap * d / 100

/-- The cap in force (R35): base, zone derate and safe reduction, truncated after each stage. -/
def State.cap (s : State) (c : Context) : Nat :=
  if s.link.safeLatch then s.zoneCap c * s.store.linkCfg.safe / 100 else s.zoneCap c

end Sys2Proof.Machine
end

