-- ==== Sys2Proof/Machine/Wire.lean ====
section
/-! DEFINITION. How the part's values travel (chapter 11): integers, codes, sets and optional fields (R177), the record
layouts (section 11.5, R180), the answer bodies of sections 11.4 and 11.6, the report bodies (R181), and the frame with its
check (R163). -/

namespace Sys2Proof.Machine

/-! ### Integers, flags and optional fields (R177) -/

/-- The low `n` bytes of `v`, most significant first. -/
def be : Nat → Nat → List Byte
  | 0, _ => []
  | n + 1, v => BitVec.ofNat 8 (v / 256 ^ n) :: be n v

/-- A u8. -/
def u8 (v : Nat) : List Byte := be 1 v
/-- A u16. -/
def u16 (v : Nat) : List Byte := be 2 v
/-- A u32. -/
def u32 (v : Nat) : List Byte := be 4 v
/-- A u48. -/
def u48 (v : Nat) : List Byte := be 6 v
/-- A u64. -/
def u64 (v : Nat) : List Byte := be 8 v
/-- An s16, two's complement. -/
def s16 (v : Int) : List Byte := be 2 (v % 65536).toNat
/-- A flag. -/
def flag (b : Bool) : List Byte := if b then [1] else [0]

/-- An optional field of an answer or report: a marker, then `n` value bytes in every case, all 0 when it is absent. -/
def optional {α : Type} (n : Nat) (enc : α → List Byte) : Option α → List Byte
  | none => 0 :: List.replicate n 0
  | some a => 1 :: enc a

/-- A count, then the entries. -/
def counted {α : Type} (enc : α → List Byte) (l : List α) : List Byte := u8 l.length ++ l.flatMap enc

/-! ### Codes (section 11.2) -/

/-- Result codes. -/
def Result.code : Result → Nat
  | .ok => 0x00 | .okAdjusted => 0x01 | .unknown => 0x02 | .format => 0x03 | .range => 0x04 | .full => 0x05
  | .state => 0x06 | .busy => 0x07 | .notPlanned => 0x08 | .locked => 0x09 | .done => 0x0A | .noLimits => 0x0B
  | .inUse => 0x0C | .neighbour => 0x0D | .order => 0x0E | .heave => 0x0F | .localKey => 0x10 | .estop => 0x11
  | .sensor => 0x12 | .protectd => 0x13 | .conflict => 0x14 | .active => 0x15

/-- Line states other than IDLE. -/
def Phase.code : Phase → Nat
  | .bound => 1 | .inject => 2 | .relief => 3 | .hold => 4 | .starved => 5 | .localPanel => 6 | .drain => 7 | .ended => 8

/-- Line states; none is IDLE. -/
def lineStateCode : Option Phase → Nat
  | none => 0
  | some p => p.code

/-- Stage status. -/
def StageStatus.code : StageStatus → Nat
  | .planned => 1 | .bound => 2 | .active => 3 | .opened => 4 | .complete => 5

/-- Outcomes. -/
def PassOutcome.code : PassOutcome → Nat
  | .volume => 1 | .intensity => 2 | .refusal => 3 | .unstable => 4 | .abort => 5 | .estop => 6 | .link => 7
  | .heave => 8 | .power => 9

/-- Hold causes. -/
def Cause.code : Cause → Nat
  | .site => 1 | .brk => 2 | .link => 3 | .heave => 4 | .gauge => 5 | .sensor => 6 | .localKey => 7

/-- Releasing conditions; none is 0. -/
def Release.code : Release → Nat
  | .resume => 1 | .timer => 2 | .decay => 3 | .linkRestore => 4 | .gaugeClear => 5

/-- Starve causes; none is 0. -/
def starveCode : Option StarveCause → Nat
  | none => 0 | some .supply => 1 | some .mix => 2

/-- Tanks. -/
def tankNo (t : TankId) : Nat := t.val + 1

/-- Tank states. -/
def TankState.code : TankState → Nat
  | .unset => 0 | .low => 1 | .ready => 2

/-- Zone states. -/
def ZoneState.code : ZoneState → Nat
  | .normal => 0 | .warn => 1 | .trip => 2

/-- Routings. -/
def Routing.code : Routing → Nat
  | .stop => 1 | .hold => 2 | .report => 3

/-- Link states. -/
def LinkState.code : LinkState → Nat
  | .ok => 0 | .lost1 => 1 | .lost2 => 2

/-- TANK events. -/
def TankEvent.code : TankEvent → Nat
  | .draw => 1 | .batch => 2 | .empty => 3 | .tankcfg => 4 | .adopt => 5 | .changeover => 6 | .wipe => 7

/-- MIXREQ dispositions. -/
def Disposition.code : Disposition → Nat
  | .queued => 1 | .satisfied => 2 | .granted => 3 | .withdrawn => 4

/-- HEAVE events. -/
def HeaveEvent.code : HeaveEvent → Nat
  | .reading => 1 | .gaugecfg => 2 | .zero => 3 | .zonecfg => 4 | .hclear => 5 | .wipe => 6

/-- LINK events. -/
def LinkEvent.code : LinkEvent → Nat
  | .t1Expiry => 1 | .t2Expiry => 2 | .restore => 3 | .safeClear => 4

/-- SUPPLY events. -/
def SupplyEvent.code : SupplyEvent → Nat
  | .powerOn => 1 | .loopOpen => 2 | .loopClosed => 3 | .battery => 4

/-- Line actions. -/
def LineAction.code : LineAction → Nat
  | .drain => 1 | .holdHeave => 2 | .heaveZoneAdded => 3 | .holdGauge => 4 | .gaugeAdded => 5 | .gaugeReleased => 6
  | .holdLink => 7 | .linkAdded => 8 | .linkReleased => 9

/-- A hold cause mask: bit (cause code − 1) (R177). -/
def HoldSet.mask (h : HoldSet) : Nat := (h.causes.map (fun c => 2 ^ (c.code - 1))).sum

/-- The mask of a list of gauges (R177). -/
def gaugeMask (l : List GaugeId) : Nat := (l.map (fun g => 2 ^ g.val)).sum

/-- A value that is absent by its nature is encoded 0 (R177). -/
def orZero (v : Option Nat) : Nat := v.getD 0

/-- A line, or 0 for no line. -/
def orNoLine (v : Option LineId) : Nat := (v.map lineNo).getD 0

/-! ### Record layouts (section 11.5) -/

/-- A trip snapshot, 27 bytes. -/
def Snapshot.bytes (x : Snapshot) : List Byte :=
  u32 x.uptime ++ u8 x.phase.code ++ u16 x.pg ++ u16 x.pe ++ u32 x.q ++ u32 x.vol ++ u32 x.take ++ u16 x.ptgt ++ u16 x.cap
    ++ s16 x.u

/-- A running image, 35 bytes; section 11.5 has no place for the refusal timer (log entry 32). -/
def RunningImage.bytes (x : RunningImage) : List Byte :=
  x.snap.bytes ++ u16 x.maxPe ++ u8 x.reliefCount ++ u8 x.step ++ u32 x.elapsed

/-- An outcome record, 52 bytes; all 0 when there is none. -/
def outcomeBytes : Option OutcomeRecord → List Byte
  | none => List.replicate 52 0
  | some r =>
    u8 r.outcome.code ++ u32 r.finalTake ++ u16 r.maxPe ++ u16 r.finalPe ++ u64 r.finalProduct ++ u8 r.finalStep
      ++ u8 r.reliefCount ++ u32 r.duration ++ flag r.drainTimeout ++ optional 27 Snapshot.bytes r.snapshot

/-- The prior record, 7 bytes (R180): 0 absent, 1 status only, 2 with pass and pass volume. -/
def priorBytes : Option Prior → List Byte
  | none => List.replicate 7 0
  | some p =>
    match p.redo with
    | none => u8 1 ++ u8 p.status.code ++ List.replicate 5 0
    | some (pass, vol) => u8 2 ++ u8 p.status.code ++ u8 pass ++ u32 vol

/-- The stage record answer after its result code, 114 bytes. -/
def Stage.bytes (hole stage : Nat) (r : Stage) : List Byte :=
  u16 hole ++ u8 stage ++ u16 r.top ++ u16 r.bottom ++ u8 r.length ++ u8 (orZero r.limitSet) ++ u8 r.status.code
    ++ u8 r.pass ++ u32 r.passVol ++ u32 r.cumVol ++ priorBytes r.prior ++ outcomeBytes r.outcome
    ++ optional 35 RunningImage.bytes r.image

/-- The limits of a context or resolution, 18 bytes. -/
def Limits.bytes (l : Limits) : List Byte :=
  u16 l.pmax ++ u16 l.gin ++ u16 l.tmax ++ u16 l.overshoot ++ u8 l.reliefLimit ++ u16 l.ramp ++ u8 l.refFlow
    ++ u16 l.refBand ++ u16 l.refTime ++ u16 l.breakDrop

/-- One ladder step, 3 bytes. -/
def LadderStep.bytes (x : LadderStep) : List Byte := u8 x.mix ++ u16 (orZero x.advance)

/-- A ladder in 13 bytes: the count, then four slots, unused ones 0. -/
def ladderSlots (l : List LadderStep) : List Byte :=
  u8 l.length ++ (l.flatMap LadderStep.bytes ++ List.replicate (12 - 3 * l.length) 0)

/-- The configuration record, tank through trace count, 10 bytes. -/
def LineCfg.bytes (c : LineCfg) : List Byte :=
  u8 (tankNo c.tank) ++ u16 c.interval ++ u8 c.kp ++ u8 c.ki ++ u16 c.factor ++ u16 c.span ++ u8 c.trace

/-- The context part of the line answer, 98 bytes. -/
def Context.bytes (c : Context) : List Byte :=
  u16 c.hole ++ u8 c.stage ++ u8 c.pass ++ u8 c.setNo ++ c.limits.bytes ++ optional 2 u16 c.bandCap ++ ladderSlots c.ladder
    ++ u8 c.step ++ u8 (tankNo c.tank) ++ u8 (orZero c.pendingReq) ++ u8 (starveCode c.starve) ++ u8 c.zones.toNat
    ++ u16 c.midDepth ++ u16 c.waterDepth ++ u8 c.length ++ u32 c.vol ++ u32 c.take ++ u16 c.lastPg ++ u16 c.lastPe
    ++ u32 c.lastQ ++ u16 c.lastCap ++ u16 c.lastPtgt ++ u16 c.pRamp ++ s16 c.u ++ s16 c.ePrev ++ flag c.first
    ++ u32 c.refusalTimer ++ u8 c.reliefCount ++ u16 c.maxPe ++ u8 c.hold.mask
    ++ optional 4 u32 (c.hold.site.bind (·.timer)) ++ optional 2 u16 (c.hold.site.bind (·.decay))
    ++ u8 ((c.hold.heave.map BitVec.toNat).getD 0) ++ optional 4 u32 c.startUptime

/-- The end latch part of the line answer, 52 bytes with its marker. -/
def latchBytes : Option EndLatch → List Byte
  | none => List.replicate 52 0
  | some e =>
    u8 1 ++ u8 e.outcome.code ++ u32 e.finalTake ++ u16 e.finalPe ++ u64 e.finalProduct ++ u16 e.maxPe ++ u8 e.finalStep
      ++ u8 e.reliefCount ++ u32 e.drainTime ++ optional 27 Snapshot.bytes e.snapshot

/-- The line answer after its result code, 170 bytes. -/
def lineBytes (s : State) (l : LineId) : List Byte :=
  u8 (lineStateCode (s.phase l)) ++ (s.lineCfg l).bytes ++ flag (s.line l).key ++ flag (s.permit l)
    ++ flag (s.line l).permitDrop ++ u16 (s.pump l) ++ u16 (s.bleed l) ++ flag (s.line l).fe.fault
    ++ match s.live l with
       | none => List.replicate 151 0
       | some v => u8 1 ++ v.ctx.bytes ++ latchBytes v.latch

/-! ### Other answer bodies (section 11.6) -/

/-- The STATUS body, with the missed flag as it stood before (R175). -/
def statusBytes (s : State) : List Byte :=
  u32 s.uptime ++ u8 s.link.state.code ++ flag s.link.safeLatch ++ u16 s.store.linkCfg.t1 ++ u16 s.store.linkCfg.t2
    ++ u8 s.store.linkCfg.safe ++ flag s.link.missed ++ u8 s.link.reports.length ++ u8 s.link.answers.length
    ++ flag s.supply.failed ++ flag s.supply.batteryLow ++ flag s.supply.backupLost ++ flag s.supply.loopOpen
    ++ allLines.flatMap (fun l => u8 (lineStateCode (s.phase l)))
    ++ allTanks.flatMap (fun t => u8 (s.tankState t).code ++ u8 (orZero (s.tank t).mix))
    ++ allZones.flatMap (fun z => u8 (s.zoneState z).code)

/-- The DEFHOLE body as stored (R21). A dry hole's groundwater is a marker 0 and a value of 0, as R177 encodes an optional
field of an answer; a request sends the marker alone (DEDUCED, log entry 33). -/
def Hole.bytes (hole : Nat) (h : Hole) : List Byte :=
  u16 hole ++ u8 h.sec ++ u8 h.order ++ s16 h.collar ++ counted u16 h.neighbours ++ u8 (orZero h.dfltSet)
    ++ u8 h.zones.toNat ++ optional 2 u16 h.groundwater ++ flag h.locked

/-- The hole answer after its result code (R21). -/
def holeBytes (s : State) (hole : Nat) (h : Hole) : List Byte :=
  h.bytes hole ++ u8 (if s.holeClosed hole then 2 else 1) ++ u8 (orNoLine (s.boundOn hole))
    ++ flag ((tfind s.store.secs h.sec).any (·.locked)) ++ counted (fun p => u8 p.1) (s.stagesOf hole)

/-- The DEFLIM body after the set number, as stored, then the used flag (R21). -/
def LimitSet.bytes (x : LimitSet) : List Byte := x.limits.bytes ++ counted LadderStep.bytes x.ladder ++ flag x.used

/-- The DEFBAND body after the band number (R21). -/
def Band.bytes (b : Band) : List Byte := s16 b.upper ++ s16 b.lower ++ u8 b.mask.toNat ++ u16 b.cap

/-- The DEFMIX body after the code (R21). -/
def Mix.bytes (m : Mix) : List Byte := u16 m.ratio ++ u16 m.density

/-- The gauge answer after its result code (R153). -/
def gaugeBytes (s : State) (g : GaugeId) : List Byte :=
  flag (s.gaugeCfg g).enabled ++ u8 ((s.gaugeCfg g).zone.val + 1) ++ u16 (s.gaugeCfg g).span ++ s16 (s.gaugeCfg g).baseline
    ++ optional 2 s16 (s.gauge g).reading ++ optional 2 s16 (s.displacement g) ++ flag (s.gauge g).fault
    ++ u8 (s.gauge g).rail ++ u8 (s.gauge g).trips ++ flag (s.scan.any (fun x => x.gauge == g))

/-- The zone answer after its result code (R153). -/
def zoneBytes (s : State) (z : ZoneId) : List Byte :=
  u16 (s.zoneCfg z).warn ++ u16 (s.zoneCfg z).trip ++ u8 (s.zoneCfg z).derate ++ u8 (s.zoneCfg z).routing.code
    ++ flag (s.latched z) ++ u8 (s.zoneState z).code
    ++ counted
        (fun g => u8 (g.val + 1) ++ optional 2 s16 (s.displacement g) ++ flag (s.gauge g).fault ++ flag (s.takesPart g))
        (s.gaugesOf z)
    ++ flag (s.zoneDerates z) ++ u8 (if s.zoneDerates z then (s.zoneCfg z).derate else 0)
    ++ counted (fun l => u8 (lineNo l) ++ u8 (lineStateCode (s.phase l))) (s.linesOf z)

/-! ### Reports (R181) -/

/-- A list of lines with their actions. -/
def actionBytes (l : List (LineId × LineAction)) : List Byte := counted (fun p => u8 (lineNo p.1) ++ u8 p.2.code) l

/-- Report kinds (R167). -/
def Report.kind : Report → Byte
  | .stageEnd _ => 0xC0 | .line _ => 0xC1 | .tank _ => 0xC2 | .gaugeHeave _ => 0xC3 | .zoneHeave _ => 0xC3 | .link _ => 0xC4
  | .supply _ => 0xC5 | .trace _ => 0xC6 | .mixreq _ => 0xC7

/-- Report bodies (R181). Fields that a report's kind or event does not concern are 0. -/
def Report.body : Report → List Byte
  | .stageEnd r =>
    u32 r.uptime ++ u8 (lineNo r.line) ++ u16 r.hole ++ u8 r.stage ++ u8 r.pass ++ outcomeBytes (some r.record)
      ++ u8 r.status.code ++ u32 r.passVol ++ u32 r.cumVol ++ u8 (if r.holeClosed then 2 else 1)
  | .line r =>
    u32 r.uptime ++ u8 (lineNo r.line) ++ u8 r.before.code ++ u8 r.after.code ++ u8 ((r.cause.map Cause.code).getD 0)
      ++ u8 r.hold.mask ++ u8 (starveCode r.starve) ++ u8 ((r.cond.map Release.code).getD 0)
  | .tank r =>
    u32 r.uptime ++ u8 (tankNo r.tank) ++ u8 r.event.code ++ u8 r.stateBefore.code ++ u8 r.stateAfter.code
      ++ u8 (orZero r.mixBefore) ++ u8 (orZero r.mixAfter) ++ u32 r.contents ++ u32 r.reserve ++ u48 r.delivered
      ++ u48 r.drawn ++ u48 r.waste ++ u48 r.overdraw ++ u32 r.wasteNow ++ u8 (orNoLine r.requester)
      ++ counted (fun p => u8 (lineNo p.1) ++ u8 p.2) r.followers ++ u8 r.mismatched.toNat
  | .gaugeHeave r =>
    u32 r.uptime ++ u8 1 ++ u8 r.event.code ++ u8 (r.gauge.val + 1) ++ u8 (r.zone.val + 1) ++ flag r.fault
      ++ optional 2 s16 r.reading ++ u8 0 ++ u8 0 ++ u8 0 ++ u8 0 ++ u16 0 ++ u16 0 ++ actionBytes r.lines
  | .zoneHeave r =>
    u32 r.uptime ++ u8 2 ++ u8 r.event.code ++ u8 0 ++ u8 (r.zone.val + 1) ++ u8 0 ++ u8 0 ++ u16 0 ++ u8 r.before.code
      ++ u8 r.after.code ++ u8 r.routing.code ++ u8 ((r.largest.map (fun p => p.1.val + 1)).getD 0)
      ++ s16 ((r.largest.map (·.2)).getD 0) ++ u16 (gaugeMask r.faulted) ++ actionBytes r.lines
  | .link r =>
    u32 r.uptime ++ u8 r.event.code ++ u8 r.before.code ++ u8 r.after.code ++ flag r.latch ++ actionBytes r.lines
  | .supply r =>
    u32 r.uptime ++ u8 r.event.code ++ flag r.failed ++ flag r.batteryLow ++ flag r.loopOpen ++ flag r.backupLost
      ++ u16 r.converted ++ u16 r.restored ++ u8 r.drained.toNat
  | .trace r =>
    u32 r.uptime ++ u8 (lineNo r.line) ++ u8 r.phase.code ++ u16 r.ctx.hole ++ u8 r.ctx.stage ++ u8 r.ctx.pass
      ++ u16 r.ctx.lastPg ++ u16 r.ctx.lastPe ++ u32 r.ctx.lastQ ++ u32 r.ctx.vol ++ u32 r.ctx.take ++ u16 r.ctx.lastCap
      ++ u32 r.pint.toNat ++ u16 r.ctx.pRamp ++ u16 r.ctx.lastPtgt ++ s16 r.ctx.u ++ s16 r.ctx.ePrev
      ++ u32 r.ctx.refusalTimer ++ u8 r.ctx.reliefCount ++ u8 r.ctx.step ++ u8 (orZero r.ctx.pendingReq) ++ flag r.permit
      ++ flag r.permitDrop ++ flag r.fault
  | .mixreq r =>
    u8 (tankNo r.tank) ++ u8 (lineNo r.line) ++ u8 r.mix ++ u8 r.disposition.code ++ u8 r.position ++ u8 r.step

/-! ### Frames (R163) -/

/-- One shift of the check register. -/
def crcShift (r : BitVec 16) : BitVec 16 := if r.msb then (r <<< 1) ^^^ 0x1021 else r <<< 1

/-- Eight shifts. -/
def crcShifts : Nat → BitVec 16 → BitVec 16
  | 0, r => r
  | n + 1, r => crcShifts n (crcShift r)

/-- One byte is combined into the upper eight bits, then the register is shifted eight times. -/
def crcByte (r : BitVec 16) (b : Byte) : BitVec 16 := crcShifts 8 (r ^^^ (b.setWidth 16 <<< 8))

/-- The check over a list of bytes: the register starts at 0xFFFF. -/
def crc (l : List Byte) : BitVec 16 := l.foldl crcByte 0xFFFF

/-- A check as its two bytes, high byte first. -/
def crcBytes (c : BitVec 16) : List Byte := [c.extractLsb' 8 8, c.setWidth 8]

/-- A frame: start byte, length, kind, tag, body and check. -/
def frameBytes (kind tag : Byte) (body : List Byte) : List Byte :=
  let counted := BitVec.ofNat 8 (body.length + 2) :: kind :: tag :: body
  Config.startByte :: counted ++ crcBytes (crc counted)

/-- The body of an answer: the result code, then what follows it (R179). -/
def Answer.body (a : Answer) : List Byte := u8 a.reply.result.code ++ a.reply.body

/-- The bytes of a message on the line: an answer bears its own kind and tag, a report its kind and tag 0 (R165, R167). -/
def Message.bytes : Message → List Byte
  | .answer a => frameBytes a.kind a.tag a.body
  | .report r => frameBytes r.kind 0 r.body

/-- What the transmitter is sending, if it is not idle (R168). -/
def State.sending (s : State) : Option (List Byte) := s.link.tx.map Message.bytes

end Sys2Proof.Machine
end

