-- ==== Sys2Proof/Machine/Resolution.lean ====
section
/-! DEFINITION. Stage resolution (R24 to R29) and the admission checks of BIND and PROBE (R60, R61). -/

namespace Sys2Proof.Machine

/-- The result of resolution (R24). -/
structure Resolution where
  setNo : Nat
  limits : Limits
  ladder : List LadderStep
  bandCap : Option Nat
  zones : ZoneSet
  tank : TankId
  pass : Nat
  midDepth : Nat
  waterDepth : Nat
  length : Nat
  vol : Nat
  take : Nat
  step : Nat
  deriving DecidableEq, Repr

/-- A failed admission check: its result code and PROBE's detail, a value and a qualifier (R30, R179). -/
structure Denial where
  result : Result
  value : Nat
  qualifier : Nat
  deriving DecidableEq, Repr

/-- A band matches a stage of this section whose elevation interval runs from `low` up to `high` (R15). -/
def Band.matches (b : Band) (sec : Nat) (low high : Int) : Bool :=
  hasSec b.mask sec && decide (low ≤ b.upper) && decide (b.lower ≤ high)

/-- The smaller of two caps, either of which may be absent. -/
def minCap : Option Nat → Option Nat → Option Nat
  | none, y => y
  | x, none => x
  | some a, some b => some (min a b)

/-- The smallest cap among the bands that match, or absent (R15). -/
def bandCapOver (bands : Table Band) (sec : Nat) (low high : Int) : Option Nat :=
  (bands.map (fun p => if p.2.matches sec low high then some p.2.cap else none)).foldl minCap none

/-- The band cap of a stage of a hole (R15, R26): its interval runs from collar − bottom up to collar − top. -/
def bandCapOf (bands : Table Band) (h : Hole) (st : Stage) : Option Nat :=
  bandCapOver bands h.sec (h.collar - st.bottom) (h.collar - st.top)

/-- The candidate limit set of a stage: its own reference alone, else the hole's default (R25). -/
def candidateSet (h : Hole) (st : Stage) : Option Nat :=
  match st.limitSet with
  | some k => some k
  | none => h.dfltSet

/-- The usable limit set of a stage: the candidate, planned, with every mix of its ladder planned (R25). -/
def usableSet (p : Store) (h : Hole) (st : Stage) : Option (Nat × LimitSet) :=
  match candidateSet h st with
  | none => none
  | some k =>
    match tfind p.sets k with
    | none => none
    | some x => if x.ladder.all (fun y => (tfind p.mixes y.mix).isSome) then some (k, x) else none

/-- The groundwater depth above the stage midpoint (R28). -/
def waterDepthOf (mid : Nat) (groundwater : Option Nat) : Nat :=
  match groundwater with
  | none => 0
  | some g => mid - g

/-- The specific take of a volume over a length: trunc(V / (10 × length)) (R29, R52). -/
def takeOf (vol length : Nat) : Nat := vol / (10 * length)

/-- Resolution of a stage on a line (R24 to R29). -/
def resolve (s : State) (l : LineId) (h : Hole) (st : Stage) (redo : Bool) : Option Resolution :=
  match usableSet s.store h st with
  | none => none
  | some (k, x) =>
    let mid := (st.top + st.bottom) / 2
    let vol := if redo then 0 else st.passVol
    let take := takeOf vol st.length
    some
      { setNo := k, limits := x.limits, ladder := x.ladder, bandCap := bandCapOf s.store.bands h st, zones := h.zones,
        tank := (s.lineCfg l).tank, pass := if redo then st.pass + 1 else st.pass, midDepth := mid,
        waterDepth := waterDepthOf mid h.groundwater, length := st.length, vol := vol, take := take,
        step := startingStep take x.ladder }

/-- The resolution body of PROBE and BIND (section 11.6). -/
def Resolution.bytes (r : Resolution) : List Byte :=
  u8 r.setNo ++ r.limits.bytes ++ ladderSlots r.ladder ++ optional 2 u16 r.bandCap ++ u16 (baseCap r.limits.pmax r.bandCap)
    ++ u8 r.zones.toNat ++ u8 (tankNo r.tank) ++ u8 r.pass ++ u16 r.midDepth ++ u16 r.waterDepth ++ u8 r.length ++ u32 r.vol
    ++ u32 r.take ++ u8 r.step

/-- The planned neighbours of a hole in the order of their numbers (R3, R61). -/
def State.neighboursOf (s : State) (hole : Nat) : List Nat :=
  (s.store.holes.map (·.1)).filter (fun y => s.neighbours hole y)

/-- The lowest-numbered neighbour that is bound on any line (R61, check 7). -/
def State.boundNeighbour (s : State) (hole : Nat) : Option Nat :=
  (s.neighboursOf hole).find? (fun y => (s.boundOn y).isSome)

/-- The lowest-numbered neighbour of lower order that is not CLOSED (R61, check 8). -/
def State.openNeighbour (s : State) (hole order : Nat) : Option Nat :=
  (s.neighboursOf hole).find?
    (fun y => (tfind s.store.holes y).any (fun hy => decide (hy.order < order)) && !s.holeClosed y)

/-- The lowest-numbered zone of the set in TRIP with routing STOP or HOLD (check 9). -/
def State.barringZone (s : State) (zs : ZoneSet) : Option ZoneId := allZones.find? (fun z => hasZone zs z && s.zoneBars z)

/-- Checks 6 to 9, after resolution (R60, R61). -/
def admitPlace (s : State) (hole : Nat) (h : Hole) (r : Resolution) : Except Denial Resolution :=
  match s.boundOn hole with
  | some x => .error { result := .inUse, value := lineNo x, qualifier := 0 }
  | none =>
    match s.boundNeighbour hole with
    | some y => .error { result := .neighbour, value := y, qualifier := orNoLine (s.boundOn y) }
    | none =>
      match s.openNeighbour hole h.order with
      | some y => .error { result := .order, value := y, qualifier := 0 }
      | none =>
        match s.barringZone h.zones with
        | some z => .error { result := .heave, value := z.val + 1, qualifier := 0 }
        | none => .ok r

/-- Checks 3 to 5 on a planned hole and stage, then the rest (R60). -/
def admitStage (s : State) (l : LineId) (hole : Nat) (h : Hole) (st : Stage) (redo : Bool) : Except Denial Resolution :=
  if (tfind s.store.secs h.sec).any (·.locked) then .error { result := .locked, value := 0, qualifier := 1 }
  else if h.locked then .error { result := .locked, value := 0, qualifier := 2 }
  else if st.status = .complete ∧ (redo = false ∨ st.pass = 7) then .error { result := .done, value := st.pass, qualifier := 0 }
  else if redo = true ∧ st.status ≠ .complete then
    .error { result := .state, value := st.status.code, qualifier := 2 }
  else
    match resolve s l h st redo with
    | none => .error { result := .noLimits, value := orZero (candidateSet h st), qualifier := 0 }
    | some r => admitPlace s hole h r

/-- The admission checks of BIND and PROBE in their order, with resolution at check 5 (R60, R30). -/
def admission (s : State) (line hole stage : Nat) (redo : Bool) : Except Denial (LineId × Resolution) :=
  match lineOf line with
  | none => .error { result := .range, value := 0, qualifier := 0 }
  | some l =>
    if !(inRange 1 9999 hole && inRange 1 24 stage) then .error { result := .range, value := 0, qualifier := 0 }
    else if (s.live l).isSome then .error { result := .state, value := lineStateCode (s.phase l), qualifier := 1 }
    else
      match tfind s.store.holes hole with
      | none => .error { result := .notPlanned, value := 0, qualifier := 1 }
      | some h =>
        match s.stageRec hole stage with
        | none => .error { result := .notPlanned, value := 0, qualifier := 2 }
        | some st =>
          match admitStage s l hole h st redo with
          | .error d => .error d
          | .ok r => .ok (l, r)

/-- The context BIND creates: the resolution's values, and the initial values of section 2.3 (R31, R62). -/
def Resolution.context (r : Resolution) (hole stage : Nat) : Context :=
  { hole := hole, stage := stage, pass := r.pass, setNo := r.setNo, limits := r.limits, bandCap := r.bandCap,
    ladder := r.ladder, step := r.step, tank := r.tank, pendingReq := none, starve := none, zones := r.zones,
    midDepth := r.midDepth, waterDepth := r.waterDepth, length := r.length, vol := r.vol, take := r.take, lastPg := 0,
    lastPe := 0, lastQ := 0, lastCap := 0, lastPtgt := 0, pRamp := 0, u := 0, ePrev := 0, first := false, refusalTimer := 0,
    reliefCount := 0, maxPe := 0, hold := HoldSet.none, startUptime := none }

end Sys2Proof.Machine
end

