-- ==== Sys2Proof/Machine/Lines.lean ====
section
/-! DEFINITION. The shared operations of an injection line: LINE reports (R84), entries to INJECT, STARVED, HOLD and DRAIN
and the exits from them (R65 to R71, R77), the withdrawal of a mix request (R129), the end latch (R108, R109), and the
releases and additions of hold causes (R68). -/

namespace Sys2Proof.Machine

/-- Queue a LINE report of a change of line `l`; the cause set and starve cause are those after the change (R84). -/
def lineReport (l : LineId) (before after : Phase) (cause : Option Cause) (cond : Option Release) (s : State) : State :=
  match s.ctx l with
  | none => s
  | some c =>
    s.report (.line
      { uptime := s.uptime, line := l, before := before, after := after, cause := cause, hold := c.hold, starve := c.starve,
        cond := cond })

/-! ### Mix requests -/

/-- The pending request of a line as its tank has left it: a notice on its way may clear or record it (R130, R132). -/
def Line.pending (x : Line) (c : Context) : Option Nat := x.notices.foldl (fun p n => n.pend.getD p) c.pendingReq

/-- What a notice on its way leaves of a request that no report has ended: one that the tank has reported (R137) is ended, and one
that the notice clears without a report, since the tank had not taken it (R128, R130), is not. -/
def Notice.leaves (n : Notice) (req : Option Nat) : Option Nat :=
  match n.pend with
  | none => req
  | some none => if n.reported then none else req
  | some (some m) => some m

/-- The pending request of a line that no report has ended, which a withdrawal then reports (R129, R137). -/
def Line.unreported (x : Line) (c : Context) : Option Nat := x.notices.foldl (fun p n => n.leaves p) c.pendingReq

/-- The current step of a line as its tank has left it: a notice on its way may carry a moved step (R121). -/
def Line.step (x : Line) (c : Context) : Nat := x.notices.foldl (fun k n => n.step.getD k) c.step

/-- A line without a pending request raises one: it records the mix and hands the request to its tank (section 7.4). -/
def raiseRequest (l : LineId) (mix : Nat) (s : State) : State :=
  match s.ctx l with
  | none => s
  | some c =>
    if c.pendingReq.isSome then s
    else (s.modCtx l (fun c => { c with pendingReq := some mix })).handOff (.mixRequest c.tank l mix)

/-- Queue a MIXREQ report (R137). -/
def mixReport (t : TankId) (l : LineId) (mix : Nat) (d : Disposition) (position step : Nat) (s : State) : State :=
  s.report (.mixreq { tank := t, line := l, mix := mix, disposition := d, position := position, step := step })

/-- A notice on its way that has nothing more to say of the line's request, which the line has withdrawn (R129). -/
def Notice.withdrawn (n : Notice) : Notice := { n with pend := none }

/-- A line withdraws its pending request (R129): the request is cleared, its entry leaves the queue if it is there, and when
that entry was the head, the tank examines the new head as its own event. The report follows separately. -/
def dropRequest (l : LineId) (c : Context) (s : State) : State :=
  let tk := s.tank c.tank
  let s := (s.setTank c.tank { tk with queue := tk.queue.filter (fun e => e.1 != l) }).modCtx l
    (fun c => { c with pendingReq := none })
  let s := s.setLine l { s.line l with notices := (s.line l).notices.map Notice.withdrawn }
  if (tk.queue.head?).any (fun e => e.1 == l) then s.handOff (.headExamination c.tank) else s

/-- The MIXREQ report of a withdrawal, with the line's step after it (0 without a context) (R129, R137). A request
whose end the tank has reported already, with a notice on its way, is not reported again (DEDUCED, log entry 26); one that the
tank had not taken is reported WITHDRAWN, also where a notice on its way clears it. -/
def withdrawalReport (l : LineId) (x : Line) (c : Context) (step : Nat) (s : State) : State :=
  match x.unreported c with
  | none => s
  | some m => mixReport c.tank l m .withdrawn 0 step s

/-! ### Entries -/

/-- What every exit from INJECT does (R65): the refusal timer goes to 0 and the tank is notified. -/
def exitInject (l : LineId) (s : State) : State :=
  match s.ctx l with
  | none => s
  | some c => (s.modCtx l (fun c => { c with refusalTimer := 0 })).handOff (.headExamination c.tank)

/-- `exitInject` where the line is in INJECT. -/
def exitIfInject (l : LineId) (s : State) : State := if s.phase l = some .inject then exitInject l s else s

/-- Write a line's state and context. -/
def setPhase (l : LineId) (p : Phase) (f : Context → Context) (s : State) : State :=
  match s.live l with
  | none => s
  | some v => s.setLive l { v with phase := p, ctx := f v.ctx }

/-- An entry to INJECT: P_ramp is the current p_e, u is 0, the first-sample flag is set (R65). R65 does not say what
becomes of the starve cause of a STARVED line that enters INJECT: it is cleared (DESIGN CHOICE, log entry 41). -/
def enterInject (l : LineId) (pe : Nat) (s : State) : State :=
  setPhase l .inject (fun c => { c with pRamp := pe, u := 0, first := true, starve := none }) s

/-- An entry to STARVED, or a starve cause set anew: u is 0, the cause is set, and with cause MIX a request for the current
step's mix is raised where none is pending (R66, R67). -/
def enterStarved (l : LineId) (s : State) : State :=
  match s.ctx l with
  | none => s
  | some c =>
    let cause := s.starveCause c
    let s := setPhase l .starved (fun c => { c with u := 0, starve := some cause }) s
    if cause = .mix then raiseRequest l c.mix s else s

/-- A line enters INJECT when its tank supplies it, and STARVED otherwise (R64, R70). -/
def injectOrStarve (l : LineId) (pe : Nat) (s : State) : State :=
  match s.ctx l with
  | none => s
  | some c => if s.supplies c then enterInject l pe s else enterStarved l s

/-- The line enters STARVED from INJECT or RELIEF at its tank's notice (R66, R121). -/
def starve (l : LineId) (before : Phase) (s : State) : State :=
  lineReport l before .starved none none (enterStarved l (exitIfInject l s))

/-- The entry to HOLD from INJECT, RELIEF or STARVED with one cause (R69). -/
def enterHold (l : LineId) (before : Phase) (cause : Cause) (add : HoldSet → HoldSet) (s : State) : State :=
  lineReport l before .hold (some cause) none
    (setPhase l .hold (fun c => { c with hold := add HoldSet.none, u := 0, starve := none }) (exitIfInject l s))

/-- A hold cause is added or replaced while the line stays in HOLD (R68, R84). -/
def addCause (l : LineId) (cause : Cause) (add : HoldSet → HoldSet) (s : State) : State :=
  lineReport l .hold .hold (some cause) none (s.modCtx l (fun c => { c with hold := add c.hold }))

/-- A line leaves HOLD at the event that released its last cause (R70). -/
def leaveHold (l : LineId) (pe : Nat) (cause : Option Cause) (cond : Release) (s : State) : State :=
  let s := injectOrStarve l pe s
  match s.phase l with
  | none => s
  | some p => lineReport l .hold p cause (some cond) s

/-- Release causes of a line in HOLD: it leaves HOLD when its set is then empty, and otherwise stays and reports (R70, R84). -/
def releaseCauses (l : LineId) (drop : HoldSet → HoldSet) (cause : Option Cause) (cond : Release) (s : State) : State :=
  let s := s.modCtx l (fun c => { c with hold := drop c.hold })
  match s.ctx l with
  | none => s
  | some c =>
    if c.hold.isEmpty then leaveHold l c.lastPe cause cond s else lineReport l .hold .hold cause (some cond) s

/-! ### The end of a pass -/

/-- The snapshot of a line's context, taken in state `p` under the demand `u` (R9, R109). -/
def snapshotOf (s : State) (p : Phase) (u : Int) (c : Context) : Snapshot :=
  { uptime := s.uptime, phase := p, pg := c.lastPg, pe := c.lastPe, q := c.lastQ, vol := c.vol, take := c.take,
    ptgt := c.lastPtgt, cap := c.lastCap, u := u }

/-- The outcomes that carry a trip snapshot (R109). -/
def PassOutcome.snapshots : PassOutcome → Bool
  | .unstable | .abort | .estop | .link | .heave => true
  | _ => false

/-- The outcomes that leave the stage COMPLETE (R101). -/
def PassOutcome.completes : PassOutcome → Bool
  | .refusal | .intensity | .volume => true
  | _ => false

/-- The end latch as it is filled from a context whose last values are those of the ending event (R108). -/
def endLatch (s : State) (o : PassOutcome) (p : Phase) (u : Int) (c : Context) : EndLatch :=
  { outcome := o, finalTake := c.take, finalPe := c.lastPe, finalProduct := c.lastPe * c.take, maxPe := c.maxPe,
    finalStep := c.step, reliefCount := c.reliefCount,
    snapshot := if o.snapshots then some (snapshotOf s p u c) else none, drainTime := 0 }

/-- Fill the end latch of a line (R108). -/
def fillLatch (l : LineId) (o : PassOutcome) (p : Phase) (u : Int) (s : State) : State :=
  match s.live l with
  | none => s
  | some v => s.setLive l { v with latch := some (endLatch s o p u v.ctx) }

/-- A LINE report is due for an exit from this state into DRAIN (R84). -/
def Phase.reportsExit : Phase → Bool
  | .hold | .starved | .localPanel => true
  | _ => false

/-- The entry to DRAIN, whatever the started state (R77), before the latch is filled. -/
def enterDrain (l : LineId) (s : State) : State :=
  match s.live l with
  | none => s
  | some v =>
    let s1 := exitIfInject l s
    let s2 := setPhase l .drain (fun c => { c with u := -1000, hold := HoldSet.none, starve := none, refusalTimer := 0 }) s1
    let s3 := s2.setLine l { s2.line l with permitDrop := false }
    let s4 := dropRequest l v.ctx s3
    let s5 := if v.phase.reportsExit then lineReport l v.phase .drain none none s4 else s4
    withdrawalReport l (s.line l) v.ctx v.ctx.step s5

/-- A started line is drained by an event that is not its sample (R77, R107, R108). A line in any other state stays. -/
def drainLine (l : LineId) (o : PassOutcome) (s : State) : State :=
  match s.live l with
  | none => s
  | some v => if v.phase.started then fillLatch l o v.phase v.ctx.u (enterDrain l s) else s

/-- The prior status of a BOUND stage is put back (R7, R8). -/
def Stage.restored (st : Stage) : Stage :=
  match st.prior with
  | none => st
  | some p =>
    match p.redo with
    | none => { st with status := p.status, prior := none }
    | some (pass, vol) => { st with status := p.status, pass := pass, passVol := vol, prior := none }

/-- A line's context is destroyed and it returns to IDLE (R75, R76): the sample timer stops, and the notices on their way to
the context are void (DEDUCED, log entry 24). -/
def unbind (l : LineId) (s : State) : State :=
  { s.setLine l { s.line l with live := none, sampleTimer := none, permitDrop := false, notices := [] } with
    handoffs := s.handoffs.filter (fun i => i != .tankNotice l) }

/-! ### Hold causes from outside the line -/

/-- What a cause added from outside does to a line by its state (R68, R149, R151, R170): a line in INJECT, RELIEF or STARVED
enters HOLD with it; a line in HOLD adds it; any other line takes no cause. -/
def imposeCause (l : LineId) (cause : Cause) (add : HoldSet → HoldSet) (s : State) : State :=
  match s.live l with
  | none => s
  | some v =>
    match v.phase with
    | .inject | .relief | .starved => enterHold l v.phase cause add s
    | .hold => if v.ctx.hold.holds cause then s.modCtx l (fun c => { c with hold := add c.hold }) else addCause l cause add s
    | _ => s

/-- A line in HOLD that holds the cause (R68). -/
def State.holdsCause (s : State) (l : LineId) (cause : Cause) : Bool :=
  (s.live l).any (fun v => v.phase == .hold && v.ctx.hold.holds cause)

end Sys2Proof.Machine
end

