-- ==== Sys2Proof/Machine/Tanks.lean ====
section
/-! DEFINITION. The tank unit (chapter 7): notices, draws, the settling of lines, adoption, changeover, the examination of
the queue head, and a line's action at its tank's notice.

A tank event is taken whole: its TANK reports are queued as they arise, its MIXREQ reports are collected and queued after
them in the order of the lines' numbers (R137), and what it has to tell each line is collected into one notice. At its close
the notices go out, and every other bound line has one too when the mix, the contents or the reserve has changed, or a bound
line's step has moved (R121). -/

namespace Sys2Proof.Machine

/-- The state inside a tank event, with the notices and the MIXREQ reports it has collected. -/
structure TankWork where
  s : State
  notes : Vector (Option Notice) 6
  reqs : List MixReport

/-! ### Notices (R121) -/

/-- What an event says to a line after what it has said to it before. -/
def Notice.over (new old : Notice) : Notice :=
  { step := new.step.or old.step, pend := new.pend.or old.pend, mismatch := new.mismatch.or old.mismatch
    reported := new.reported || old.reported }

/-- A notice that moves nothing. -/
def Notice.plain : Notice := { step := none, pend := none, mismatch := none, reported := false }

/-- The event has this to say to the line. -/
def TankWork.note (w : TankWork) (l : LineId) (n : Notice) : TankWork :=
  { w with notes := w.notes.set l (some ((w.notes[l]).elim n n.over)) }

/-- The current step of a line as the event has left it so far. -/
def TankWork.stepOf (w : TankWork) (l : LineId) (c : Context) : Nat :=
  ((w.notes[l]).bind (·.step)).getD ((w.s.line l).step c)

/-- Send a notice to a line, which takes it later as an event of its own (R121). It waits at the line behind those not yet taken
(DESIGN CHOICE, log entry 9). -/
def sendNotice (l : LineId) (n : Notice) (s : State) : State :=
  (s.setLine l { s.line l with notices := (s.line l).notices ++ [n] }).handOff (.tankNotice l)

/-- Send a notice to a line, where there is one. -/
def sendNoticeIf (s : State) (x : LineId × Option Notice) : State :=
  match x.2 with
  | none => s
  | some n => sendNotice x.1 n s

/-- The MIXREQ reports of an event in the order of the lines' numbers (R137). -/
def flushReqs (reqs : List MixReport) (s : State) : State :=
  s.reportAll ((allLines.flatMap (fun l => reqs.filter (fun r => r.line == l))).map .mixreq)

/-- The event has moved the current step of a line bound to the tank (R121). -/
def TankWork.moved (w : TankWork) (t : TankId) : Bool :=
  (w.s.boundLines t).any (fun l => (w.s.ctx l).any (fun c => decide (w.stepOf l c ≠ (w.s.line l).step c)))

/-- The event has changed the tank's mix, contents or reserve, or moved a bound line's step (R121). -/
def TankWork.notifies (w : TankWork) (t : TankId) (before : State) : Bool :=
  decide ((before.tank t).mix ≠ (w.s.tank t).mix) || decide ((before.tank t).contents ≠ (w.s.tank t).contents)
    || decide (before.reserve t ≠ w.s.reserve t) || w.moved t

/-- The notice of the event to a line: what it has to say to it, else a plain one to a bound line where it notifies (R121). -/
def TankWork.noticeTo (w : TankWork) (t : TankId) (before : State) (l : LineId) : Option Notice :=
  (w.notes[l]).or
    (if w.notifies t before && (w.s.ctx l).any (fun c => c.tank == t) then some Notice.plain else none)

/-- The close of a tank event that began in state `before` (R121, R137): its reports are queued and its notices sent, in the
order of the lines' numbers. -/
def closeTank (t : TankId) (before : State) (w : TankWork) : State :=
  (allLines.map (fun l => (l, w.noticeTo t before l))).foldl sendNoticeIf (flushReqs w.reqs w.s)

/-- A whole tank event. -/
def tankEvent (t : TankId) (f : TankWork → TankWork) (s : State) : State :=
  closeTank t s (f { s := s, notes := Vector.replicate 6 none, reqs := [] })

/-- Queue a TANK report of what has changed since `before` (R136). -/
def tankReport (t : TankId) (e : TankEvent) (before : State) (requester : Option LineId) (followers : List (LineId × Nat))
    (mismatched : LineSet) (s : State) : State :=
  s.report (.tank
    { uptime := s.uptime, tank := t, event := e, stateBefore := before.tankState t, stateAfter := s.tankState t,
      mixBefore := (before.tank t).mix, mixAfter := (s.tank t).mix, contents := (s.tank t).contents, reserve := s.reserve t,
      delivered := (s.tank t).delivered, drawn := (s.tank t).drawn, waste := (s.tank t).waste,
      overdraw := (s.tank t).overdraw, wasteNow := (s.tank t).waste - (before.tank t).waste, requester := requester,
      followers := followers, mismatched := mismatched })

/-- A TANK report where the state has changed since `before` (R124, R136). -/
def reportIfChanged (t : TankId) (e : TankEvent) (before : State) (s : State) : State :=
  if before.tankState t = s.tankState t then s else tankReport t e before none [] 0 s

/-! ### Settling the lines (R130) -/

/-- The settling of a tank's lines so far: the work, the followers with their new steps, and the mismatched lines. -/
structure Settled where
  w : TankWork
  followers : List (LineId × Nat)
  mismatched : LineSet

/-- The disposition of a follower's entry: GRANTED for the requester, SATISFIED where the entry named the mix, WITHDRAWN
where it named another (R130). -/
def followerDisposition (granted : Option LineId) (l : LineId) (m entryMix : Nat) : Disposition :=
  if granted = some l then .granted else if entryMix = m then .satisfied else .withdrawn

/-- Settle one bound line against mix `m`. `granted` is the line whose head entry this change grants. -/
def settleLine (t : TankId) (m : Nat) (granted : Option LineId) (a : Settled) (l : LineId) : Settled :=
  match a.w.s.ctx l with
  | none => a
  | some c =>
    match laterStep c.ladder (a.w.stepOf l c) m with
    | some k =>
      let tk := a.w.s.tank t
      let w := { a.w with s := a.w.s.setTank t { tk with queue := tk.queue.filter (fun e => e.1 != l) } }
      let w := w.note l
        { step := some k, pend := some none, mismatch := some false, reported := tk.queue.any (fun e => e.1 == l) }
      let met := (tk.queue.find? (fun e => e.1 == l)).toList.map (fun e =>
        { tank := t, line := l, mix := e.2, disposition := followerDisposition granted l m e.2, position := 0,
          step := k : MixReport })
      { w := { w with reqs := a.w.reqs ++ met }, followers := a.followers ++ [(l, k)], mismatched := a.mismatched }
    | none =>
      { w := a.w.note l { step := none, pend := none, mismatch := some true, reported := false }, followers := a.followers,
        mismatched := a.mismatched ||| BitVec.twoPow 6 l.val }

/-- Settle every bound line of a tank against mix `m` (R130), in the order of their numbers, in which the TANK report lists the
followers too (R136, R181; DESIGN CHOICE, log entry 38). -/
def settle (t : TankId) (m : Nat) (granted : Option LineId) (w : TankWork) : Settled :=
  (w.s.boundLines t).foldl (settleLine t m granted) { w := w, followers := [], mismatched := 0 }

/-- The head entry is removed, if settling its line did not remove it already. -/
def dropHead (t : TankId) (l : LineId) (m : Nat) (w : TankWork) : TankWork :=
  let tk := w.s.tank t
  { w with s := w.s.setTank t { tk with queue := tk.queue.erase (l, m) } }

/-! ### Adoption and changeover (R132, R134) -/

/-- An UNSET tank takes mix `m` without dumping and settles its lines (R132, steps 1 to 4). -/
def adoptMix (t : TankId) (m : Nat) (granted : Option LineId) (w : TankWork) : Settled :=
  let tk := w.s.tank t
  settle t m granted { w with s := w.s.setTank t { tk with mix := some m, batchSince := false } }

/-- A granted changeover to mix `m` (R134, steps 1 to 5). -/
def changeMix (t : TankId) (m : Nat) (granted : Option LineId) (w : TankWork) : Settled :=
  let tk := w.s.tank t
  let tk' : Tank :=
    { tk with waste := tk.waste + tk.contents, contents := 0, mix := some m, batchSince := false, changeMade := true }
  settle t m granted { w with s := w.s.setTank t tk' }

/-- The end of an adoption or changeover: the TANK report with the followers and the mismatched lines (R136). -/
def reportChange (t : TankId) (e : TankEvent) (before : State) (requester : Option LineId) (a : Settled) : TankWork :=
  { a.w with s := tankReport t e before requester a.followers a.mismatched a.w.s }

/-! ### The head of the queue (R131, R133) -/

/-- The lowest-numbered bound line other than the requester whose refusal timer is above 0 (R127, R133). -/
def State.refusingLine (s : State) (t : TankId) (requester : LineId) : Option LineId :=
  (s.boundLines t).find? (fun l => l != requester && (s.ctx l).any (fun c => decide (0 < c.refusalTimer)))

/-- The batch condition of R133. -/
def Tank.batchAllows (tk : Tank) : Bool := tk.batchSince || !tk.changeMade

/-- The head of a request is satisfied without changeover: the line's notice moves its step and clears its request (R128). -/
def satisfy (t : TankId) (l : LineId) (m : Nat) (w : TankWork) : TankWork :=
  match w.s.ctx l with
  | none => w
  | some c =>
    let k := (laterStep c.ladder 1 m).getD c.step
    { w.note l { step := some k, pend := some none, mismatch := none, reported := true } with
      reqs := w.reqs ++ [{ tank := t, line := l, mix := m, disposition := .satisfied, position := 0, step := k }] }

/-- Examine the head of a tank's queue, and each new head in turn (R131). A new head left by a granted or satisfied one is
examined in the same tank event, with one notice per line for the whole event, and its MIXREQ report after the event's TANK
reports (DEDUCED, log entry 43; R129 gives a withdrawal's examination an event of its own). Every round but the last removes
the head, so `fuel` above the length of the queue is enough. -/
def examine : Nat → TankId → TankWork → TankWork
  | 0, _, w => w
  | fuel + 1, t, w =>
    match (w.s.tank t).queue with
    | [] => w
    | (l, m) :: _ =>
      match (w.s.tank t).mix with
      | none => examine fuel t (dropHead t l m (reportChange t .adopt w.s (some l) (adoptMix t m (some l) w)))
      | some cur =>
        if cur = m then examine fuel t (satisfy t l m (dropHead t l m w))
        else if (w.s.refusingLine t l).isNone && (w.s.tank t).batchAllows then
          examine fuel t (dropHead t l m (reportChange t .changeover w.s (some l) (changeMix t m (some l) w)))
        else w

/-- Examine the head of a tank's queue (R131). -/
def examineHead (t : TankId) (w : TankWork) : TankWork := examine ((w.s.tank t).queue.length + 1) t w

/-- The finding of a head examination as QTANK gives it (R127): 0 queue empty, 1 grantable, 2 withheld by a refusal test
with the line, 3 withheld awaiting a batch. -/
def headFinding (s : State) (t : TankId) : Nat × Option LineId :=
  match (s.tank t).queue with
  | [] => (0, none)
  | (l, m) :: _ =>
    match (s.tank t).mix with
    | none => (1, none)
    | some cur =>
      if cur = m then (1, none)
      else
        match s.refusingLine t l with
        | some x => (2, some x)
        | none => if (s.tank t).batchAllows then (1, none) else (3, none)

/-- The tank answer after its result code (section 11.6). -/
def tankBytes (s : State) (t : TankId) : List Byte :=
  let tk := s.tank t
  u8 (s.tankState t).code ++ u8 (orZero tk.mix) ++ u32 tk.contents ++ u32 (s.reserve t) ++ u48 tk.delivered ++ u48 tk.drawn
    ++ u48 tk.waste ++ u48 tk.overdraw ++ flag tk.batchSince ++ flag tk.changeMade
    ++ counted
        (fun l => u8 (lineNo l) ++ u8 (lineStateCode (s.phase l)) ++ u8 (((s.ctx l).map Context.mix).getD 0))
        (s.boundLines t)
    ++ counted (fun e => u8 (lineNo e.1) ++ u8 e.2) tk.queue ++ u8 (headFinding s t).1 ++ u8 (orNoLine (headFinding s t).2)

/-! ### Draws and arrivals -/

/-- The tank takes a draw (R123): the contents cover what they can, the rest is overdraw. -/
def drawFrom (tk : Tank) (volume : Nat) : Tank :=
  { tk with contents := tk.contents - min volume tk.contents, drawn := tk.drawn + min volume tk.contents,
            overdraw := tk.overdraw + (volume - min volume tk.contents) }

/-- TANK_DRAW (R123). -/
def evTankDraw (t : TankId) (volume : Nat) (s : State) : State :=
  let s := s.taken (.tankDraw t volume)
  tankEvent t (fun w => { w with s := reportIfChanged t .draw w.s (w.s.setTank t (drawFrom (w.s.tank t) volume)) }) s

/-- Add an entry at the tail of the queue, or replace the mix of the line's entry, with the MIXREQ report QUEUED; an entry
that is now the head is examined (R128). -/
def enqueue (t : TankId) (l : LineId) (m step : Nat) (w : TankWork) : TankWork :=
  let tk := w.s.tank t
  let at_ := tk.queue.findIdx (fun e => e.1 == l)
  let report := fun (pos : Nat) =>
    { tank := t, line := l, mix := m, disposition := Disposition.queued, position := pos, step := step : MixReport }
  if at_ < tk.queue.length then
    { w with
      s := w.s.setTank t { tk with queue := tk.queue.map (fun e => if e.1 = l then (l, m) else e) }
      reqs := w.reqs ++ [report (at_ + 1)] }
  else
    let w : TankWork :=
      { w with
        s := w.s.setTank t { tk with queue := tk.queue ++ [(l, m)] }, reqs := w.reqs ++ [report (tk.queue.length + 1)] }
    if tk.queue.isEmpty then examineHead t w else w

/-- A line that may have an entry in this tank's queue: bound to the tank and not in DRAIN or ENDED (R128). -/
def Live.mayRequest (v : Live) (t : TankId) : Bool := v.ctx.tank == t && v.phase != .drain && v.phase != .ended

/-- MIX_REQUEST (R128). An arrival is discarded when the line no longer holds this mix as its pending request, or when a
notice on its way clears the request (R130, log entry 10). -/
def evMixRequest (t : TankId) (l : LineId) (m : Nat) (s : State) : State :=
  let s := s.taken (.mixRequest t l m)
  match s.live l with
  | none => s
  | some v =>
    if v.mayRequest t && v.ctx.pendingReq == some m then
      tankEvent t
        (fun w =>
          if (w.s.tank t).mix = some m then satisfy t l m w
          else if (s.line l).pending v.ctx = none then w
          else enqueue t l m ((s.line l).step v.ctx) w)
        s
    else s

/-- ADOPT (R132): the hand-off from a START on an UNSET tank. Where the tank's mix was set in between, a line whose mix it
is is notified, and another line's hand-off is taken as its request for its current step's mix where it
holds no request pending; one that a notice on its way clears without a report is still held (DEDUCED, log entry 21). -/
def evAdopt (t : TankId) (l : LineId) (m : Nat) (s : State) : State :=
  let s := s.taken (.adopt t l m)
  match (s.tank t).mix with
  | none => tankEvent t (fun w => reportChange t .adopt w.s (some l) (adoptMix t m none w)) s
  | some cur =>
    match s.live l with
    | none => s
    | some v =>
      let k := (s.line l).step v.ctx
      let own := (stepMix v.ctx.ladder k).getD 0
      if own = cur then sendNotice l Notice.plain s
      else if v.mayRequest t && ((s.line l).unreported v.ctx).isNone then
        tankEvent t
          (fun w =>
            enqueue t l own k (w.note l { step := none, pend := some (some own), mismatch := some true, reported := false })) s
      else s

/-- HEAD_EXAMINATION (R131). -/
def evHeadExamination (t : TankId) (s : State) : State := tankEvent t (examineHead t) (s.taken (.headExamination t))

/-! ### A line takes its tank's notice (R121) -/

/-- What a notice writes into the context: the moved step, and the request cleared, or recorded while the line may hold one. -/
def Notice.write (n : Notice) (v : Live) : Live :=
  { v with ctx :=
      { v.ctx with
        step := n.step.getD v.ctx.step
        pendingReq :=
          match n.pend with
          | none => v.ctx.pendingReq
          | some none => none
          | some (some m) => if v.phase = .drain ∨ v.phase = .ended then v.ctx.pendingReq else some m } }

/-- A line in STARVED examines its supply again (R67). -/
def reexamine (l : LineId) (s : State) : State :=
  match s.ctx l with
  | none => s
  | some c =>
    if s.supplies c then lineReport l .starved .inject none none (enterInject l c.lastPe s)
    else
      let s' := enterStarved l s
      if c.starve = some (s.starveCause c) then s' else lineReport l .starved .starved none none s'

/-- A line that a change of its tank's mix left mismatched, outside INJECT, RELIEF and STARVED, raises a request for its
current step's mix (R130). -/
def requestOwnMix (l : LineId) (n : Notice) (s : State) : State :=
  match s.ctx l with
  | none => s
  | some c =>
    match (s.tank c.tank).mix with
    | none => s
    | some m => if n.mismatch = some true ∧ m ≠ c.mix then raiseRequest l c.mix s else s

/-- The action of a line at a notice by its state (R121). -/
def actOnNotice (l : LineId) (n : Notice) (s : State) : State :=
  match s.live l with
  | none => s
  | some v =>
    match v.phase with
    | .inject | .relief => if s.supplies v.ctx then s else starve l v.phase s
    | .starved => reexamine l s
    | .bound | .hold | .localPanel => requestOwnMix l n s
    | .drain | .ended => s

/-- TANK_NOTICE (R121): the line takes its tank's oldest notice, then acts by its state. -/
def evTankNotice (l : LineId) (s : State) : State :=
  let s := s.taken (.tankNotice l)
  let n := (s.line l).notices.head?.getD Notice.plain
  let s := s.setLine l { s.line l with notices := (s.line l).notices.tail }
  match s.live l with
  | none => s
  | some v => actOnNotice l n (s.setLive l (n.write v))

end Sys2Proof.Machine
end

