-- ==== Sys2Proof/Machine/Sampling.lean ====
section
/-! DEFINITION. The sample event of a line (chapters 3, 5 and 6): the measurement steps, the cap, the ramp and the target,
the end and exit tests, the mix advance, the PI law, the bookkeeping and the trace, the drain, and the record of the pass. -/

namespace Sys2Proof.Machine

/-! ### Steps 1 to 4: measurement -/

/-- A loop current in range (R41). -/
def loopInRange (current : Nat) : Bool := inRange 3600 21000 current

/-- The gauge pressure of a current in range (R41). -/
def gaugePressure (span current : Nat) : Nat :=
  (clampI 0 span (trunc (((current : Int) - 4000) * (span : Int)) 16000)).toNat

/-- The p_g of a sample: converted when the current is in range, and otherwise the last p_g (R41, R42). -/
def samplePg (span current lastPg : Nat) : Nat := if loopInRange current then gaugePressure span current else lastPg

/-- The flow estimate (R48). -/
def flow (factor : Nat) (fe : FrontEnd) (now : Nat) : Nat :=
  if fe.pulses < 2 then 0
  else
    match fe.lastPulse with
    | none => 0
    | some last =>
      if Config.flowTimeout ≤ now - last then 0 else factor * 600 / max (fe.pLast.getD 1) (now - last)

/-- A flowmeter pulse at the front end at time `now` (R44). -/
def FrontEnd.pulse (fe : FrontEnd) (now : Nat) : FrontEnd :=
  { fe with
    count := min (fe.count + 1) Config.maxPulses
    pLast :=
      match fe.lastPulse with
      | none => fe.pLast
      | some last => some (max 1 (now - last))
    lastPulse := some now
    pulses := min (fe.pulses + 1) 2 }

/-- The density of the mix of a context's current step, read from the mix table (R49). -/
def State.density (s : State) (c : Context) : Nat :=
  ((tfind s.store.mixes c.mix).map (·.density)).getD (Config.unplannedDensity c.mix)

/-- The grout column head (R49). -/
def groutHead (density mid : Nat) : Nat := density * mid * 981 / 1000000

/-- The groundwater head (R50). -/
def waterHead (water : Nat) : Nat := 1000 * water * 981 / 1000000

/-- The effective pressure max(0, p_g + h_g − h_w) (R51); subtraction of naturals stops at 0. -/
def effective (pg hg hw : Nat) : Nat := pg + hg - hw

/-- The effective pressure of a sample of this context (R49 to R51). -/
def State.pe (s : State) (c : Context) (pg : Nat) : Nat :=
  effective pg (groutHead (s.density c) c.midDepth) (waterHead c.waterDepth)

/-- The values of steps 1 and 2 (R41, R42, R45, R48). -/
structure Reading where
  pg : Nat
  fault : Bool
  dv : Nat
  q : Nat
  deriving DecidableEq, Repr

/-- Steps 1 and 2 of a line with this last p_g. -/
def State.read (s : State) (l : LineId) (current lastPg : Nat) : Reading :=
  { pg := samplePg (s.lineCfg l).span current lastPg
    fault := !loopInRange current
    dv := (s.line l).fe.count * (s.lineCfg l).factor
    q := flow (s.lineCfg l).factor (s.line l).fe s.supply.now }

/-- The front end after the reading, and the sample timer restarted (R39, R42, R45). -/
def afterReading (l : LineId) (fault : Bool) (s : State) : State :=
  let x := s.line l
  s.setLine l { x with sampleTimer := some (s.lineCfg l).interval, fe := { x.fe with fault := fault, count := 0 } }

/-- The increment is added to V and, when it is not 0, handed to the tank as a draw (R45, R46). -/
def countVolume (l : LineId) (dv : Nat) (s : State) : State :=
  match s.ctx l with
  | none => s
  | some c =>
    let s := s.modCtx l (fun c => { c with vol := c.vol + dv })
    if dv = 0 then s else s.handOff (.tankDraw c.tank dv)

/-! ### Steps 5 and 6: cap, ramp and target -/

/-- The ramp step (R86). -/
def rampStep (ramp interval : Nat) : Nat := max 1 (ramp * interval / 1000)

/-- The intensity-limited pressure; none is unlimited (R87). -/
def intensityLimit (gin take : Nat) : Option Nat := if take = 0 then none else some (gin * 1000 / take)

/-- The smaller of a pressure and P_int, which takes no part when it is unlimited (R87). -/
def minInt (p : Nat) : Option Nat → Nat
  | none => p
  | some x => min p x

/-- The target (R88). -/
def targetOf (cap : Nat) (pint : Option Nat) (ramp : Nat) : Nat := min (minInt cap pint) ramp

/-- What a sample's tests read, beside the context. -/
structure Sampled where
  reading : Reading
  pe : Nat
  cap : Nat
  pint : Option Nat
  first : Bool
  interval : Nat
  deriving DecidableEq, Repr

/-- A context after step 4: the take anew (R52). -/
def Context.retake (c : Context) : Context := { c with take := takeOf c.vol c.length }

/-- A context after steps 5 and 6: last cap and last P_tgt, and P_ramp raised in INJECT (R86 to R88). -/
def Context.aim (c : Context) (p : Phase) (interval cap : Nat) : Context :=
  let ramp := if p = .inject then min (c.pRamp + rampStep c.limits.ramp interval) c.limits.pmax else c.pRamp
  { c with lastCap := cap, pRamp := ramp, lastPtgt := targetOf cap (intensityLimit c.limits.gin c.take) ramp }

/-! ### Step 7: tests -/

/-- Tests (a) and (b) (R89, R105). -/
def endTest (c : Context) (pe : Nat) : Option PassOutcome :=
  if c.limits.tmax ≤ c.take then some .volume
  else if c.limits.gin * 1000 ≤ pe * c.take then some .intensity
  else none

/-- A sample qualifies for refusal (R102). -/
def qualifies (c : Context) (m : Sampled) : Bool :=
  decide (m.reading.q ≤ c.limits.refFlow) && decide (c.lastPtgt ≤ m.pe + c.limits.refBand)
    && decide (minInt m.cap m.pint ≤ c.pRamp)

/-- The refusal timer after the qualification (R102). -/
def refusalTimerAfter (c : Context) (m : Sampled) : Nat := if qualifies c m then c.refusalTimer + m.interval else 0

/-- Test (d): over-limit (R89). -/
def overLimit (c : Context) (m : Sampled) : Bool := decide (m.cap + c.limits.overshoot < m.pe)

/-- Test (e): pressure break; the last values are those of the sample before (R92). -/
def pressureBreak (c : Context) (m : Sampled) : Bool :=
  !m.first && decide (m.pe + c.limits.breakDrop ≤ c.lastPe) && decide (c.lastQ ≤ m.reading.q)

/-- How a sample stands after step 7: whether the pass ended, and whether the refusal timer was broken (R103). -/
structure Verdict where
  s : State
  ended : Option PassOutcome
  broken : Bool

/-- Test (d) holds (R90): the relief is counted, and the line enters RELIEF or the stage ends UNSTABLE. -/
def relieve (l : LineId) (broken : Bool) (s : State) : Verdict :=
  match s.ctx l with
  | none => { s := s, ended := none, broken := broken }
  | some c =>
    let s := s.modCtx l (fun c => { c with reliefCount := c.reliefCount + 1 })
    if c.limits.reliefLimit < c.reliefCount + 1 then
      { s := enterDrain l s, ended := some .unstable, broken := broken }
    else
      { s := setPhase l .relief (fun c => { c with u := -1000 }) (exitInject l s), ended := none, broken := broken }

/-- Tests (c), (d) and (e) of an INJECT sample that (a) and (b) have not ended (R89, R102 to R104). -/
def injectTests (l : LineId) (m : Sampled) (s : State) : Verdict :=
  match s.ctx l with
  | none => { s := s, ended := none, broken := false }
  | some c =>
    let timer := refusalTimerAfter c m
    let broken := decide (0 < c.refusalTimer) && decide (timer = 0)
    let s := s.modCtx l (fun c => { c with refusalTimer := timer })
    if qualifies c m ∧ c.limits.refTime * 1000 ≤ timer then
      { s := enterDrain l s, ended := some .refusal, broken := broken }
    else if overLimit c m then relieve l broken s
    else if pressureBreak c m then
      { s := enterHold l .inject .brk (fun h => { h with brk := true }) s, ended := none, broken := broken }
    else { s := s, ended := none, broken := broken }

/-- The permit drop flag after the permit test of a LOCAL sample (R99). -/
def permitDropAfter (c : Context) (m : Sampled) (flag : Bool) : Bool :=
  if m.reading.fault then true
  else if overLimit c m then true
  else if m.pe ≤ m.cap then false
  else flag

/-- What step 7 does in a state that (a) and (b) have not ended: the tests of INJECT, the return test of RELIEF (R91), the
exit from a HOLD whose set has become empty (R98), the permit test of LOCAL (R99). -/
def stateTests (l : LineId) (p : Phase) (m : Sampled) (s : State) : Verdict :=
  match p with
  | .inject => injectTests l m s
  | .relief => { s := if m.pe ≤ m.cap then enterInject l m.pe s else s, ended := none, broken := false }
  | .hold =>
    { s := if (s.ctx l).any (fun c => c.hold.isEmpty) then leaveHold l m.pe (some .site) .decay s else s
      ended := none, broken := false }
  | .localPanel =>
    match s.ctx l with
    | none => { s := s, ended := none, broken := false }
    | some c =>
      { s := s.setLine l { s.line l with permitDrop := permitDropAfter c m (s.line l).permitDrop }
        ended := none, broken := false }
  | _ => { s := s, ended := none, broken := false }

/-- Step 7 of a sample in a started state (R85, R89). -/
def testSample (l : LineId) (p : Phase) (m : Sampled) (s : State) : Verdict :=
  match s.ctx l with
  | none => { s := s, ended := none, broken := false }
  | some c =>
    match endTest c m.pe with
    | some o => { s := enterDrain l s, ended := some o, broken := false }
    | none => stateTests l p m s

/-! ### Steps 8 and 9: mix advance and regulation -/

/-- The mix a step asks for when its take has earned the next one at low pressure (R93). -/
def earnedMix (c : Context) (m : Sampled) : Option Nat :=
  match stepAdvance c.ladder c.step with
  | none => none
  | some a =>
    if a ≤ c.take ∧ m.pe * 2 < m.cap ∧ c.pendingReq = none then stepMix c.ladder (c.step + 1) else none

/-- Step 8 (R93). -/
def advanceMix (l : LineId) (m : Sampled) (s : State) : State :=
  match s.ctx l with
  | none => s
  | some c =>
    match earnedMix c m with
    | none => s
    | some x => raiseRequest l x s

/-- Step 9: the velocity PI law (R94). -/
def Context.regulate (c : Context) (kp ki pe : Nat) : Context :=
  let e : Int := (c.lastPtgt : Int) - (pe : Int)
  let ePrev := if c.first then e else c.ePrev
  let du := trunc ((kp : Int) * (e - ePrev)) 32 + trunc ((ki : Int) * e) 256
  { c with u := clampI (-1000) 1000 (c.u + du), ePrev := e, first := false }

/-- Steps 8 and 9 run where an INJECT sample is still in INJECT after step 7 (R85). -/
def regulateSample (l : LineId) (p : Phase) (m : Sampled) (s : State) : State :=
  if p = .inject ∧ s.phase l = some .inject then
    (advanceMix l m s).modCtx l (fun c => c.regulate (s.lineCfg l).kp (s.lineCfg l).ki m.pe)
  else s

/-! ### Step 10: bookkeeping and trace -/

/-- Seconds from one uptime to a later one, on the 32-bit count (R112, R154). -/
def secondsSince (now start : Nat) : Nat := (now + 4294967296 - start) % 4294967296

/-- The running image of a line as a sample left it (R9, R96, R103). It holds the refusal timer (DESIGN CHOICE, log entry 32) and
not P_ramp, which R96 names and R9's list leaves out (DESIGN CHOICE, log entry 40). -/
def runningImage (s : State) (v : Live) : RunningImage :=
  { snap := snapshotOf s v.phase v.ctx.u v.ctx, maxPe := v.ctx.maxPe, reliefCount := v.ctx.reliefCount, step := v.ctx.step,
    elapsed := secondsSince s.uptime (v.ctx.startUptime.getD s.uptime), refusalTimer := v.ctx.refusalTimer }

/-- The volumes grow by the increment and, while the stage is ACTIVE, the running image is written (R9, R47). -/
def Stage.update (st : Stage) (dv : Nat) (img : RunningImage) : Stage :=
  { st with passVol := st.passVol + dv, cumVol := st.cumVol + dv,
            image := if st.status = .active then some img else st.image }

/-- The store update of a sample (R9, R47). -/
def storeUpdate (l : LineId) (dv : Nat) (s : State) : State :=
  match s.live l with
  | none => s
  | some v => s.modStage v.ctx.hole v.ctx.stage (fun st => st.update dv (runningImage s v))

/-- P_int as it travels: 0xFFFFFFFF stands for unlimited (R177). -/
def pintField : Option Nat → BitVec 32
  | none => 0xFFFFFFFF
  | some p => BitVec.ofNat 32 p

/-- The trace counter is advanced and a TRACE report queued every trace-count samples (R97). -/
def traceSample (l : LineId) (pint : BitVec 32) (s : State) : State :=
  let x := s.line l
  let n := (s.lineCfg l).trace
  if n = 0 then s
  else if x.traceCounter + 1 = n then
    match x.live with
    | none => s
    | some v =>
      (s.setLine l { x with traceCounter := 0 }).report (.trace
        { uptime := s.uptime, line := l, phase := v.phase, ctx := v.ctx, pint := pint, permit := s.permit l,
          permitDrop := x.permitDrop, fault := x.fe.fault })
  else s.setLine l { x with traceCounter := x.traceCounter + 1 }

/-- Step 10 of a sample taken in a started state (R96): max p_e, last values, store update and trace. -/
def closeSample (l : LineId) (m : Sampled) (s : State) : State :=
  let s := s.modCtx l (fun c =>
    { c with maxPe := max c.maxPe m.pe, lastPg := m.reading.pg, lastPe := m.pe, lastQ := m.reading.q })
  traceSample l (pintField m.pint) (storeUpdate l m.reading.dv s)

/-! ### The whole sample -/

/-- A SITE cause whose decay threshold this p_e is below (R71). -/
def Context.decayed (c : Context) (pe : Nat) : Bool := (c.hold.site.bind (·.decay)).any (fun d => decide (pe < d))

/-- The decay release after step 3 of a sample taken in HOLD (R71, R98). The release is reported here where other causes
remain; an emptied set is reported by the exit that closes the sample. Where test (a) or (b) then ends the stage, R98 lets the
release make no exit and R84 does not say whether it is reported: the model queues the report of HOLD to DRAIN alone, without
a cause or condition (DESIGN CHOICE, log entry 35). -/
def decaySite (l : LineId) (pe : Nat) (s : State) : State :=
  match s.live l with
  | none => s
  | some v =>
    if v.phase = .hold ∧ v.ctx.decayed pe then
      let s := s.modCtx l (fun c => { c with hold := c.hold.drop .site })
      if (v.ctx.hold.drop .site).isEmpty then s else lineReport l .hold .hold (some .site) (some .decay) s
    else s

/-- The states that a transducer fault takes into HOLD (R43). -/
def Phase.sensorHolds : Phase → Bool
  | .inject | .relief | .starved => true
  | _ => false

/-- Step 1's action on a faulted transducer (R43): the state the rest of the sample runs under, and the state. -/
def senseFault (l : LineId) (p : Phase) (fault : Bool) (s : State) : Phase × State :=
  if fault && p.sensorHolds then (.hold, enterHold l p .sensor (fun h => { h with sensor := true }) s) else (p, s)

/-- A sample taken in a started state (R85). -/
def startedSample (l : LineId) (p : Phase) (r : Reading) (s : State) : State :=
  let s := countVolume l r.dv (afterReading l r.fault s)
  let ps := senseFault l p r.fault s
  let p' := ps.1
  let s := ps.2
  match s.ctx l with
  | none => s
  | some c =>
    let pe := s.pe c r.pg
    let s := s.modCtx l Context.retake
    let s := decaySite l pe s
    let interval := (s.lineCfg l).interval
    let cap := s.cap c
    let s := s.modCtx l (fun c => c.aim p' interval cap)
    let m : Sampled :=
      { reading := r, pe := pe, cap := cap, pint := intensityLimit c.limits.gin (takeOf c.vol c.length), first := c.first,
        interval := interval }
    let v := testSample l p' m s
    let s := closeSample l m (regulateSample l p' m v.s)
    let s := if v.broken then s.handOff (.headExamination c.tank) else s
    match v.ended with
    | none => s
    | some o => fillLatch l o p' c.u s

/-- A sample taken in BOUND or ENDED: steps 1 to 3 for display, the increment discarded (R40, R45, R54). -/
def displaySample (l : LineId) (r : Reading) (s : State) : State :=
  match s.ctx l with
  | none => s
  | some c =>
    (afterReading l r.fault s).modCtx l (fun k => { k with lastPg := r.pg, lastPe := s.pe c r.pg, lastQ := r.q })

/-- The drain end test (R111): none while it runs on, else the drain-timeout flag. -/
def drainEnd (pg drainTime : Nat) : Option Bool :=
  if pg ≤ Config.drainPressure then some false else if Config.drainTimeout ≤ drainTime then some true else none

/-- The outcome record of a pass (R112). -/
def EndLatch.record (e : EndLatch) (duration : Nat) (timeout : Bool) : OutcomeRecord :=
  { outcome := e.outcome, finalTake := e.finalTake, maxPe := e.maxPe, finalPe := e.finalPe, finalProduct := e.finalProduct,
    finalStep := e.finalStep, reliefCount := e.reliefCount, duration := duration, drainTimeout := timeout,
    snapshot := e.snapshot }

/-- The status a pass leaves its stage with (R101). -/
def PassOutcome.status (o : PassOutcome) : StageStatus := if o.completes then .complete else .opened

/-- The whole write that ends a pass (R112). -/
def Stage.finish (st : Stage) (dv : Nat) (r : OutcomeRecord) : Stage :=
  { st with passVol := st.passVol + dv, cumVol := st.cumVol + dv, outcome := some r, status := r.outcome.status,
            image := none }

/-- The STAGE_END report at an entry to ENDED (R115). -/
def stageEndReport (l : LineId) (c : Context) (r : OutcomeRecord) (s : State) : State :=
  match s.stageRec c.hole c.stage with
  | none => s
  | some st =>
    s.report (.stageEnd
      { uptime := s.uptime, line := l, hole := c.hole, stage := c.stage, pass := c.pass, record := r, status := st.status,
        passVol := st.passVol, cumVol := st.cumVol, holeClosed := s.holeClosed c.hole })

/-- The end of a drain: the pass is written, the line enters ENDED, and TRACE and STAGE_END follow (R112, R115). -/
def finishDrain (l : LineId) (r : Reading) (e : EndLatch) (timeout : Bool) (pint : BitVec 32) (s : State) : State :=
  match s.ctx l with
  | none => s
  | some c =>
    let rec' := e.record (secondsSince s.uptime (c.startUptime.getD s.uptime)) timeout
    let s := s.modStage c.hole c.stage (fun st => st.finish r.dv rec')
    stageEndReport l c rec' (traceSample l pint (setPhase l .ended id s))

/-- A sample taken in DRAIN (R110, R111). The P_int of its trace is a free value (log entry 4). -/
def drainSample (l : LineId) (r : Reading) (e : EndLatch) (s : State) : State :=
  let s := countVolume l r.dv (afterReading l r.fault s)
  let e := { e with drainTime := e.drainTime + (s.lineCfg l).interval }
  let pint := Config.drainPint s.freeCount
  let s := { s with freeCount := s.freeCount + 1 }
  match s.live l with
  | none => s
  | some v =>
    let s := s.setLive l { v with ctx := { v.ctx with lastPg := r.pg, lastQ := r.q }, latch := some e }
    match drainEnd r.pg e.drainTime with
    | some timeout => finishDrain l r e timeout pint s
    | none => traceSample l pint (storeUpdate l r.dv s)

/-- The latch of a line in DRAIN. A line in DRAIN always holds one (R108); the value without one is that of an empty context. -/
def Live.endLatch (s : State) (v : Live) : EndLatch :=
  match v.latch with
  | some e => e
  | none => Machine.endLatch s .abort v.phase v.ctx.u v.ctx

/-- SAMPLE: the line's sample timer expires (R39, R40, R85). An IDLE line has no timer. -/
def evSample (l : LineId) (current : Nat) (s : State) : State :=
  match s.live l with
  | none => s
  | some v =>
    let r := s.read l current v.ctx.lastPg
    match v.phase with
    | .bound | .ended => displaySample l r s
    | .drain => drainSample l r (v.endLatch s) s
    | p => startedSample l p r s

end Sys2Proof.Machine
end

