-- ==== Sys2Proof/Machine/Field.lean ====
section
/-! DEFINITION. The field events of a line: the flowmeter pulse (R44), the expiry of its hold timer (R71), and its LOCAL key
switch (R78 to R81). -/

namespace Sys2Proof.Machine

/-- FLOWMETER_PULSE (R44), taken in every line state. -/
def evPulse (l : LineId) (s : State) : State :=
  let x := s.line l
  s.setLine l { x with fe := x.fe.pulse s.supply.now }

/-- The hold timer of the SITE cause of a line in HOLD, ms left (R56, R68). -/
def State.holdTimer (s : State) (l : LineId) : Option Nat :=
  (s.live l).bind (fun v => if v.phase = .hold then v.ctx.hold.site.bind (·.timer) else none)

/-- HOLD_TIMER_EXPIRY (R71): the SITE cause is released with condition TIMER. Without a timer there is no expiry. -/
def evHoldTimer (l : LineId) (s : State) : State :=
  match s.holdTimer l with
  | none => s
  | some _ => releaseCauses l (fun h => h.drop .site) (some .site) .timer s

/-- The states an asserted key takes to LOCAL (R78). -/
def Phase.entersLocal : Phase → Bool
  | .inject | .relief | .hold | .starved => true
  | _ => false

/-- The entry to LOCAL (R79). Its LINE report names no cause, also where the set that an entry from HOLD empties held exactly
one (R84 does not say; DESIGN CHOICE, log entry 42). -/
def enterLocal (l : LineId) (before : Phase) (s : State) : State :=
  let s := setPhase l .localPanel (fun c => { c with u := 0, hold := HoldSet.none, starve := none }) (exitIfInject l s)
  lineReport l before .localPanel none none (s.setLine l { s.line l with permitDrop := false })

/-- The zones of a set in TRIP with routing HOLD (R81). -/
def State.holdTrips (s : State) (zs : ZoneSet) : ZoneSet :=
  allZones.foldl
    (fun m z => if hasZone zs z && s.latched z && (s.zoneCfg z).routing == .hold then m ||| oneZone z else m) 0

/-- The hold cause set of a return from LOCAL (R81). -/
def State.returnSet (s : State) (zs : ZoneSet) : HoldSet :=
  { HoldSet.none with
    localKey := true
    heave := if s.holdTrips zs = 0 then none else some (s.holdTrips zs)
    gauge := allZones.any (fun z => hasZone zs z && s.zoneFault z)
    link := s.link.state == .lost1 }

/-- The return from LOCAL to HOLD (R81). -/
def leaveLocal (l : LineId) (s : State) : State :=
  let s' := setPhase l .hold (fun c => { c with u := 0, hold := s.returnSet c.zones }) s
  lineReport l .localPanel .hold (some .localKey) none (s'.setLine l { s'.line l with permitDrop := false })

/-- LOCAL_KEY_CHANGE (R78): the position is recorded in every state; the rest depends on the state. -/
def evLocalKey (l : LineId) (asserted : Bool) (s : State) : State :=
  let s := s.setLine l { s.line l with key := asserted }
  match s.phase l with
  | none => s
  | some p =>
    if asserted then (if p.entersLocal then enterLocal l p s else s)
    else if p = .localPanel then leaveLocal l s
    else s

end Sys2Proof.Machine
end

