-- ==== Sys2Proof/Decode.lean ====
section
/-! DEFINITION. Reading commands. The opcode table gives no row any bits, so no word spells a command and
`decodeTableWord` answers none. What the part itself reads is a FRAME: `decodeRequest` judges the form of a request's body
(R165, R178) and reads its fields (R177, R179), and `encodeBody` writes them. -/

namespace Sys2Proof

/-- The command a table word spells. No row of spec/opcode_table.json gives bits, so none does. -/
def decodeTableWord (_nbits _w : Nat) : Option Instr := none

/-! ### Reading fields (R177) -/

/-- A u16 from its two bytes. -/
def word16 (hi lo : Byte) : Nat := hi.toNat * 256 + lo.toNat

/-- A u32 from its four bytes. -/
def word32 (a b c d : Byte) : Nat := word16 a b * 65536 + word16 c d

/-- An s16 from its two bytes, two's complement. -/
def int16 (hi lo : Byte) : Int := if word16 hi lo < 32768 then (word16 hi lo : Int) else (word16 hi lo : Int) - 65536

/-- `n` u16 entries that make up the whole list. -/
def readU16s : Nat → List Byte → Option (List Nat)
  | 0, [] => some []
  | n + 1, a :: b :: rest => (readU16s n rest).map (word16 a b :: ·)
  | _, _ => none

/-- `n` ladder entries, each a mix and an advance take, that make up the whole list. -/
def readSteps : Nat → List Byte → Option (List (Nat × Nat))
  | 0, [] => some []
  | n + 1, m :: a :: b :: rest => (readSteps n rest).map ((m.toNat, word16 a b) :: ·)
  | _, _ => none

/-- An optional u16 and the bytes after it; a marker other than 0 and 1 is not admitted (R178). -/
def readOptU16 : List Byte → Option (Option Nat × List Byte)
  | m :: rest =>
    if m = 0 then some (none, rest)
    else if m = 1 then
      match rest with
      | a :: b :: rest => some (some (word16 a b), rest)
      | _ => none
    else none
  | [] => none

/-- A REDO marker (R178). -/
def readMarker (m : Byte) : Option Bool := if m = 0 then some false else if m = 1 then some true else none

/-! ### Bodies (section 11.4) -/

/-- The body of DEFHOLE after its neighbours: default set, zone mask, groundwater, locked flag. -/
def formDefholeTail (tag : Byte) (hole sec order : Nat) (collar : Int) (ns : List Nat) : List Byte → Option Instr
  | d :: z :: rest =>
    match readOptU16 rest with
    | some (g, [lk]) => some (.defhole tag hole sec order collar ns d.toNat z.toNat g lk.toNat)
    | _ => none
  | _ => none

/-- DEFHOLE: at most 2 neighbours. -/
def formDefhole (tag : Byte) : List Byte → Option Instr
  | h :: h' :: sec :: ord :: c :: c' :: k :: rest =>
    if 2 < k.toNat then none
    else
      match readU16s k.toNat (rest.take (2 * k.toNat)) with
      | some ns =>
        formDefholeTail tag (word16 h h') sec.toNat ord.toNat (int16 c c') ns (rest.drop (2 * k.toNat))
      | none => none
  | _ => none

/-- DEFLIM: at most 4 ladder steps. -/
def formDeflim (tag : Byte) : List Byte → Option Instr
  | set :: p :: p' :: g :: g' :: t :: t' :: o :: o' :: rl :: r :: r' :: rf :: b :: b' :: ti :: ti' :: d :: d' :: k :: rest =>
    if 4 < k.toNat then none
    else
      match readSteps k.toNat rest with
      | some l =>
        some (.deflim tag set.toNat (word16 p p') (word16 g g') (word16 t t') (word16 o o') rl.toNat (word16 r r') rf.toNat
          (word16 b b') (word16 ti ti') (word16 d d') l)
      | none => none
  | _ => none

/-- PAUSE: two optional fields. -/
def formPause (tag : Byte) : List Byte → Option Instr
  | l :: rest =>
    match readOptU16 rest with
    | some (h, rest') =>
      match readOptU16 rest' with
      | some (d, []) => some (.pause tag l.toNat h d)
      | _ => none
    | none => none
  | _ => none

/-- PROBE and BIND: line, hole, stage and the REDO marker. -/
def formBind (mk : Nat → Nat → Nat → Bool → Instr) : List Byte → Option Instr
  | [l, h, h', st, m] => (readMarker m).map (mk l.toNat (word16 h h') st.toNat)
  | _ => none

/-- A body of one u8. -/
def form1 (mk : Nat → Instr) : List Byte → Option Instr
  | [a] => some (mk a.toNat)
  | _ => none

/-- A body of one u16. -/
def form16 (mk : Nat → Instr) : List Byte → Option Instr
  | [a, b] => some (mk (word16 a b))
  | _ => none

/-- A body of two u8. -/
def form11 (mk : Nat → Nat → Instr) : List Byte → Option Instr
  | [a, b] => some (mk a.toNat b.toNat)
  | _ => none

/-- A body of a u8 and a u16. -/
def form1_16 (mk : Nat → Nat → Instr) : List Byte → Option Instr
  | [a, b, c] => some (mk a.toNat (word16 b c))
  | _ => none

/-- An empty body. -/
def form0 (i : Instr) : List Byte → Option Instr
  | [] => some i
  | _ => none

/-- DEFSTAGE. -/
def formDefstage (tag : Byte) : List Byte → Option Instr
  | [h, h', st, t, t', b, b', len, ls] =>
    some (.defstage tag (word16 h h') st.toNat (word16 t t') (word16 b b') len.toNat ls.toNat)
  | _ => none

/-- DEFBAND. -/
def formDefband (tag : Byte) : List Byte → Option Instr
  | [b, u, u', l, l', m, c, c'] => some (.defband tag b.toNat (int16 u u') (int16 l l') m.toNat (word16 c c'))
  | _ => none

/-- DEFMIX. -/
def formDefmix (tag : Byte) : List Byte → Option Instr
  | [m, r, r', d, d'] => some (.defmix tag m.toNat (word16 r r') (word16 d d'))
  | _ => none

/-- LINECFG. -/
def formLinecfg (tag : Byte) : List Byte → Option Instr
  | [l, t, i, i', kp, ki, f, f', s, s', n] =>
    some (.linecfg tag l.toNat t.toNat (word16 i i') kp.toNat ki.toNat (word16 f f') (word16 s s') n.toNat)
  | _ => none

/-- TANKCFG. -/
def formTankcfg (tag : Byte) : List Byte → Option Instr
  | [t, a, b, c, d] => some (.tankcfg tag t.toNat (word32 a b c d))
  | _ => none

/-- GAUGECFG. -/
def formGaugecfg (tag : Byte) : List Byte → Option Instr
  | [g, e, z, s, s'] => some (.gaugecfg tag g.toNat e.toNat z.toNat (word16 s s'))
  | _ => none

/-- ZONECFG. -/
def formZonecfg (tag : Byte) : List Byte → Option Instr
  | [z, w, w', t, t', d, r] => some (.zonecfg tag z.toNat (word16 w w') (word16 t t') d.toNat r.toNat)
  | _ => none

/-- LINKCFG. -/
def formLinkcfg (tag : Byte) : List Byte → Option Instr
  | [a, a', b, b', s] => some (.linkcfg tag (word16 a a') (word16 b b') s.toNat)
  | _ => none

/-- BATCH. -/
def formBatch (tag : Byte) : List Byte → Option Instr
  | [t, m, v, v'] => some (.batch tag t.toNat m.toNat (word16 v v'))
  | _ => none

/-- QSTAGE. -/
def formQstage (tag : Byte) : List Byte → Option Instr
  | [h, h', st] => some (.qstage tag (word16 h h') st.toNat)
  | _ => none

/-- What the link finds in a request frame (R165). -/
inductive Found where
  /-- No request has this kind. -/
  | unknown
  /-- The body is not of a form the kind admits. -/
  | malformed
  /-- A request of good form. -/
  | request (i : Instr)
  deriving DecidableEq, Repr

/-- A judged form as what the link found. -/
def found : Option Instr → Found
  | none => .malformed
  | some i => .request i

/-- Judge a frame of kind 0x01..0x3F (R165, R178). -/
def decodeRequest (kind tag : Byte) (body : List Byte) : Found :=
  match kind.toNat with
  | 0x01 => found (form1 (.defsec tag) body)
  | 0x02 => found (formDefhole tag body)
  | 0x03 => found (formDefstage tag body)
  | 0x04 => found (formDeflim tag body)
  | 0x05 => found (formDefband tag body)
  | 0x06 => found (formDefmix tag body)
  | 0x07 => found (form1_16 (.lock tag) body)
  | 0x08 => found (form1_16 (.unlock tag) body)
  | 0x09 => found (form1 (.purge tag) body)
  | 0x0A => found (form0 (.wipe tag) body)
  | 0x10 => found (formLinecfg tag body)
  | 0x11 => found (formTankcfg tag body)
  | 0x12 => found (formGaugecfg tag body)
  | 0x13 => found (formZonecfg tag body)
  | 0x14 => found (formLinkcfg tag body)
  | 0x18 => found (formBind (.probe tag) body)
  | 0x19 => found (formBind (.bind tag) body)
  | 0x1A => found (form1 (.start tag) body)
  | 0x1B => found (formPause tag body)
  | 0x1C => found (form1 (.resume tag) body)
  | 0x1D => found (form1 (.abort tag) body)
  | 0x1E => found (form1 (.release tag) body)
  | 0x20 => found (formBatch tag body)
  | 0x21 => found (form1 (.empty tag) body)
  | 0x24 => found (form11 (.zero tag) body)
  | 0x25 => found (form1 (.hclear tag) body)
  | 0x28 => found (form0 (.status tag) body)
  | 0x29 => found (form0 (.clearsafe tag) body)
  | 0x30 => found (form1 (.qline tag) body)
  | 0x31 => found (form1 (.qtank tag) body)
  | 0x32 => found (form11 (.qgauge tag) body)
  | 0x33 => found (formQstage tag body)
  | 0x34 => found (form16 (.qhole tag) body)
  | 0x35 => found (form1 (.qlim tag) body)
  | 0x36 => found (form1 (.qband tag) body)
  | 0x37 => found (form1 (.qmix tag) body)
  | _ => .unknown

/-! ### Writing requests -/

/-- The kind byte of a request (section 11.4); none for an event. -/
def requestKind : Instr → Option Byte
  | .defsec .. => some 0x01 | .defhole .. => some 0x02 | .defstage .. => some 0x03 | .deflim .. => some 0x04
  | .defband .. => some 0x05 | .defmix .. => some 0x06 | .lock .. => some 0x07 | .unlock .. => some 0x08
  | .purge .. => some 0x09 | .wipe .. => some 0x0A | .linecfg .. => some 0x10 | .tankcfg .. => some 0x11
  | .gaugecfg .. => some 0x12 | .zonecfg .. => some 0x13 | .linkcfg .. => some 0x14 | .probe .. => some 0x18
  | .bind .. => some 0x19 | .start .. => some 0x1A | .pause .. => some 0x1B | .resume .. => some 0x1C
  | .abort .. => some 0x1D | .release .. => some 0x1E | .batch .. => some 0x20 | .empty .. => some 0x21
  | .zero .. => some 0x24 | .hclear .. => some 0x25 | .status .. => some 0x28 | .clearsafe .. => some 0x29
  | .qline .. => some 0x30 | .qtank .. => some 0x31 | .qgauge .. => some 0x32 | .qstage .. => some 0x33
  | .qhole .. => some 0x34 | .qlim .. => some 0x35 | .qband .. => some 0x36 | .qmix .. => some 0x37
  | .byteArrival .. | .gapTimerExpiry | .frameSent | .t1Expiry | .t2Expiry | .sample .. | .holdTimerExpiry ..
  | .localKeyChange .. | .flowmeterPulse .. | .tankDraw .. | .mixRequest .. | .adopt .. | .headExamination ..
  | .tankNotice .. | .gaugeConversion .. | .supplyFailure | .powerOn .. | .batteryChange .. | .loopOpen | .loopClosed => none

/-- The tag of a request; 0 for an event. -/
def requestTag : Instr → Byte
  | .defsec t .. | .defhole t .. | .defstage t .. | .deflim t .. | .defband t .. | .defmix t .. | .lock t .. | .unlock t ..
  | .purge t .. | .wipe t | .qstage t .. | .qhole t .. | .qlim t .. | .qband t .. | .qmix t .. | .linecfg t .. | .probe t ..
  | .bind t .. | .start t .. | .pause t .. | .resume t .. | .abort t .. | .release t .. | .tankcfg t .. | .batch t ..
  | .empty t .. | .qtank t .. | .gaugecfg t .. | .zonecfg t .. | .zero t .. | .hclear t .. | .qgauge t .. | .qline t ..
  | .linkcfg t .. | .clearsafe t | .status t => t
  | .byteArrival .. | .gapTimerExpiry | .frameSent | .t1Expiry | .t2Expiry | .sample .. | .holdTimerExpiry ..
  | .localKeyChange .. | .flowmeterPulse .. | .tankDraw .. | .mixRequest .. | .adopt .. | .headExamination ..
  | .tankNotice .. | .gaugeConversion .. | .supplyFailure | .powerOn .. | .batteryChange .. | .loopOpen | .loopClosed => 0

open Machine in
/-- An optional u16 of a request: the value follows only when the marker is 1 (R177). -/
def optU16 : Option Nat → List Byte
  | none => [0]
  | some v => 1 :: u16 v

open Machine in
/-- The body of a request (section 11.4); empty for an event. -/
def encodeBody : Instr → List Byte
  | .defsec _ s => u8 s
  | .defhole _ h s o c ns d z g lk =>
    u16 h ++ u8 s ++ u8 o ++ s16 c ++ counted u16 ns ++ u8 d ++ u8 z ++ optU16 g ++ u8 lk
  | .defstage _ h st t b len ls => u16 h ++ u8 st ++ u16 t ++ u16 b ++ u8 len ++ u8 ls
  | .deflim _ set p g t o rl r rf b ti d l =>
    u8 set ++ u16 p ++ u16 g ++ u16 t ++ u16 o ++ u8 rl ++ u16 r ++ u8 rf ++ u16 b ++ u16 ti ++ u16 d
      ++ counted (fun x => u8 x.1 ++ u16 x.2) l
  | .defband _ b u l m c => u8 b ++ s16 u ++ s16 l ++ u8 m ++ u16 c
  | .defmix _ m r d => u8 m ++ u16 r ++ u16 d
  | .lock _ k n => u8 k ++ u16 n
  | .unlock _ k n => u8 k ++ u16 n
  | .purge _ s => u8 s
  | .wipe _ => []
  | .qstage _ h st => u16 h ++ u8 st
  | .qhole _ h => u16 h
  | .qlim _ s => u8 s
  | .qband _ b => u8 b
  | .qmix _ m => u8 m
  | .linecfg _ l t i kp ki f s n => u8 l ++ u8 t ++ u16 i ++ u8 kp ++ u8 ki ++ u16 f ++ u16 s ++ u8 n
  | .probe _ l h st r => u8 l ++ u16 h ++ u8 st ++ flag r
  | .bind _ l h st r => u8 l ++ u16 h ++ u8 st ++ flag r
  | .start _ l => u8 l
  | .pause _ l h d => u8 l ++ optU16 h ++ optU16 d
  | .resume _ l => u8 l
  | .abort _ l => u8 l
  | .release _ l => u8 l
  | .tankcfg _ t r => u8 t ++ u32 r
  | .batch _ t m v => u8 t ++ u8 m ++ u16 v
  | .empty _ t => u8 t
  | .qtank _ t => u8 t
  | .gaugecfg _ g e z s => u8 g ++ u8 e ++ u8 z ++ u16 s
  | .zonecfg _ z w t d r => u8 z ++ u16 w ++ u16 t ++ u8 d ++ u8 r
  | .zero _ k n => u8 k ++ u8 n
  | .hclear _ z => u8 z
  | .qgauge _ k n => u8 k ++ u8 n
  | .qline _ l => u8 l
  | .linkcfg _ a b s => u16 a ++ u16 b ++ u8 s
  | .clearsafe _ => []
  | .status _ => []
  | .byteArrival .. | .gapTimerExpiry | .frameSent | .t1Expiry | .t2Expiry | .sample .. | .holdTimerExpiry ..
  | .localKeyChange .. | .flowmeterPulse .. | .tankDraw .. | .mixRequest .. | .adopt .. | .headExamination ..
  | .tankNotice .. | .gaugeConversion .. | .supplyFailure | .powerOn .. | .batteryChange .. | .loopOpen | .loopClosed => []

/-- A request as the frame the site sends (R163). -/
def encodeFrame (i : Instr) : Option (List Byte) :=
  (requestKind i).map (fun k => Machine.frameBytes k (requestTag i) (encodeBody i))

end Sys2Proof
end

