-- ==== Sys2Proof/Machine/Plan.lean ====
section
/-! DEFINITION. The requests of the plan store (chapter 1): what each does to the state once its frame is taken, and what it
answers. A request's checks run in the order of its rule, and the first that fails is the answer (R1). -/

namespace Sys2Proof.Machine

/-- An accepted request with this answer body. -/
def accept (s : State) (body : List Byte) : State × Reply := (s, { result := .ok, body := body })

/-- An accepted request; OK_ADJUSTED when a value was clamped. -/
def acceptAdjusted (s : State) (adjusted : Bool) (body : List Byte) : State × Reply :=
  (s, { result := if adjusted then .okAdjusted else .ok, body := body })

/-! ### Sections and holes -/

/-- DEFSEC (R2). -/
def reqDefsec (sec : Nat) (s : State) : State × Reply :=
  if !inRange 1 8 sec then deny s .range
  else if (tfind s.store.secs sec).isSome then accept s []
  else accept (s.modStore (fun p => { p with secs := tput p.secs sec { locked := false } })) []

/-- A hole's fields lie in their ranges (R3, R5). -/
def holeInRange (hole sec order : Nat) (collar : Int) (neighbours : List Nat) (dfltSet zoneMask : Nat)
    (groundwater : Option Nat) : Bool :=
  inRange 1 9999 hole && inRange 1 8 sec && inRange 1 4 order && inRangeI (-30000) 30000 collar
    && decide (neighbours.length ≤ 2) && neighbours.all (fun y => inRange 1 9999 y) && decide neighbours.Nodup
    && !neighbours.contains hole && decide (dfltSet ≤ 24) && decide (zoneMask < 16) && groundwater.all (fun g => decide (g ≤ 2000))

/-- At least one stage of a hole is not PLANNED: the hole has history (R5, R19). -/
def State.hasHistory (s : State) (hole : Nat) : Bool := (s.stagesOf hole).any (fun p => p.2.status != .planned)

/-- Two hole records differ in a field that history protects: any but neighbours, zone set and locked (R5). -/
def Hole.differsFixed (x y : Hole) : Bool :=
  !(x.sec == y.sec && x.order == y.order && x.collar == y.collar && x.dfltSet == y.dfltSet
    && x.groundwater == y.groundwater)

/-- DEFHOLE, once its fields are in range (R5, checks 2 to 5). -/
def storeHole (hole : Nat) (h : Hole) (s : State) : State × Reply :=
  if (tfind s.store.secs h.sec).isNone then deny s .notPlanned
  else
    match tfind s.store.holes hole with
    | some old =>
      if (s.boundOn hole).isSome then deny s .inUse
      else if s.hasHistory hole && old.differsFixed h then deny s .protectd
      else accept (s.modStore (fun p => { p with holes := tput p.holes hole h })) []
    | none =>
      if Config.maxHoles ≤ s.store.holes.length then deny s .full
      else accept (s.modStore (fun p => { p with holes := tput p.holes hole h })) []

/-- DEFHOLE (R5). -/
def reqDefhole (hole sec order : Nat) (collar : Int) (neighbours : List Nat) (dfltSet zoneMask : Nat)
    (groundwater : Option Nat) (locked : Nat) (s : State) : State × Reply :=
  match holeInRange hole sec order collar neighbours dfltSet zoneMask groundwater, flagOf locked with
  | true, some lk =>
    storeHole hole
      { sec := sec, order := order, collar := collar, neighbours := neighbours, dfltSet := refOf dfltSet,
        zones := BitVec.ofNat 4 zoneMask, groundwater := groundwater, locked := lk } s
  | _, _ => deny s .range

/-! ### Stages -/

/-- A stage's fixed fields lie in their ranges (R6, R10). -/
def stageInRange (hole stage top bottom length limitSet : Nat) : Bool :=
  inRange 1 9999 hole && inRange 1 24 stage && decide (top ≤ 1999) && inRange (top + 1) 2000 bottom && inRange 10 200 length
    && decide (bottom - top ≤ length) && decide (limitSet ≤ 24)

/-- A stage as DEFSTAGE creates it (R6). -/
def Stage.fresh (top bottom length : Nat) (limitSet : Option Nat) : Stage :=
  { top := top, bottom := bottom, length := length, limitSet := limitSet, status := .planned, prior := none, pass := 1,
    passVol := 0, cumVol := 0, outcome := none, image := none }

/-- The depth interval overlaps that of another stage of the hole (R10, check 5). -/
def State.overlapsStage (s : State) (hole stage top bottom : Nat) : Bool :=
  (s.stagesOf hole).any (fun p => p.1 != stage && decide (p.2.top < bottom) && decide (top < p.2.bottom))

/-- DEFSTAGE (R10). -/
def reqDefstage (hole stage top bottom length limitSet : Nat) (s : State) : State × Reply :=
  if !stageInRange hole stage top bottom length limitSet then deny s .range
  else if (tfind s.store.holes hole).isNone then deny s .notPlanned
  else if (s.boundOn hole).isSome then deny s .inUse
  else
    match s.stageRec hole stage with
    | some old =>
      if old.status ≠ .planned then deny s .protectd
      else if s.overlapsStage hole stage top bottom then deny s .range
      else
        accept (s.modStage hole stage
          (fun st => { st with top := top, bottom := bottom, length := length, limitSet := refOf limitSet })) []
    | none =>
      if s.overlapsStage hole stage top bottom then deny s .range
      else if Config.maxStages ≤ s.store.stages.length then deny s .full
      else
        accept (s.modStore (fun p =>
          { p with stages := tput p.stages (stageKey hole stage) (Stage.fresh top bottom length (refOf limitSet)) })) []

/-! ### Limit sets and the push -/

/-- The lines whose context draws on a limit set (R14). -/
def State.drawsOn (s : State) (set : Nat) (l : LineId) : Bool := (s.ctx l).any (fun c => c.setNo == set)

/-- Write the lowered protected values into every context of the set (R14, R33). -/
def pushLimits (set : Nat) (old new : Limits) (s : State) : State :=
  allLines.foldl
    (fun s l => s.modCtx l (fun c => if c.setNo = set then { c with limits := old.push new c.limits } else c)) s

/-- DEFLIM on limits and a ladder in range (R13, checks 2 and 3; R14). -/
def storeLimits (set : Nat) (new : Limits) (ladder : List LadderStep) (s : State) : State × Reply :=
  if !ladder.all (fun x => (tfind s.store.mixes x.mix).isSome) then deny s .notPlanned
  else
    match tfind s.store.sets set with
    | none =>
      accept (s.modStore (fun p => { p with sets := tput p.sets set { limits := new, ladder := ladder, used := false } }))
        (u8 0)
    | some old =>
      if old.used && old.limits.loosens new then deny s .protectd
      else
        let s' := s.modStore (fun p => { p with sets := tput p.sets set { limits := new, ladder := ladder, used := old.used } })
        if old.used && old.limits.lowers new then
          accept (pushLimits set old.limits new s') (u8 (lineMask (s.drawsOn set)).toNat)
        else accept s' (u8 0)

/-- DEFLIM (R13, R14). -/
def reqDeflim (set pmax gin tmax overshoot reliefLimit ramp refFlow refBand refTime breakDrop : Nat)
    (ladder : List (Nat × Nat)) (s : State) : State × Reply :=
  let new : Limits :=
    { pmax := pmax, gin := gin, tmax := tmax, overshoot := overshoot, reliefLimit := reliefLimit, ramp := ramp,
      refFlow := refFlow, refBand := refBand, refTime := refTime, breakDrop := breakDrop }
  if inRange 1 24 set && new.inRange && ladderWellFormed (ladderOf ladder) then storeLimits set new (ladderOf ladder) s
  else deny s .range

/-! ### Depth bands -/

/-- A band's fields lie in their ranges (R15, R16). -/
def bandInRange (band : Nat) (upper lower : Int) (mask cap : Nat) : Bool :=
  inRange 1 4 band && inRangeI (-30000) 30000 upper && inRangeI (-30000) 30000 lower && decide (lower < upper)
    && decide (mask < 256) && inRange 100 8000 cap

/-- The band cap of a context's stage over the bands now planned (R16). -/
def State.bandCapNow (s : State) (c : Context) : Option Nat :=
  match tfind s.store.holes c.hole, s.stageRec c.hole c.stage with
  | some h, some st => bandCapOf s.store.bands h st
  | _, _ => none

/-- A newly computed band cap is written into a context that holds none or a greater one (R16). -/
def capApplies (new held : Option Nat) : Bool :=
  match new, held with
  | some _, none => true
  | some x, some y => decide (x < y)
  | none, _ => false

/-- The lines whose context takes a lower band cap from the bands now planned (R16). -/
def State.takesBand (s : State) (l : LineId) : Bool := (s.ctx l).any (fun c => capApplies (s.bandCapNow c) c.bandCap)

/-- Write the band caps now planned where they apply (R16, R33). -/
def pushBands (s : State) : State :=
  allLines.foldl
    (fun x l => x.modCtx l (fun c => if capApplies (s.bandCapNow c) c.bandCap then { c with bandCap := s.bandCapNow c } else c))
    s

/-- DEFBAND (R16). -/
def reqDefband (band : Nat) (upper lower : Int) (mask cap : Nat) (s : State) : State × Reply :=
  if !bandInRange band upper lower mask cap then deny s .range
  else
    let s' := s.modStore (fun p =>
      { p with bands :=
          if mask = 0 then tdel p.bands band
          else tput p.bands band { upper := upper, lower := lower, mask := BitVec.ofNat 8 mask, cap := cap } })
    accept (pushBands s') (u8 (lineMask s'.takesBand).toNat)

/-! ### Mixes -/

/-- A tank holds this mix, or it is current in a live context (R17). -/
def State.mixHeld (s : State) (mix : Nat) : Bool :=
  allTanks.any (fun t => (s.tank t).mix == some mix) || allLines.any (fun l => (s.ctx l).any (fun c => c.mix == mix))

/-- DEFMIX (R17). -/
def reqDefmix (mix ratio density : Nat) (s : State) : State × Reply :=
  if !(inRange 1 8 mix && inRange 40 500 ratio && inRange 1100 2200 density) then deny s .range
  else if (tfind s.store.mixes mix).isSome && s.mixHeld mix then deny s .inUse
  else accept (s.modStore (fun p => { p with mixes := tput p.mixes mix { ratio := ratio, density := density } })) []

/-! ### Locks and removal -/

/-- Write the locked flag of a target (R18): kind 1 a section, kind 2 a hole. -/
def setLock (kind number : Nat) (lk : Bool) (s : State) : State × Reply :=
  match kind with
  | 1 =>
    if !inRange 1 8 number then deny s .range
    else if (tfind s.store.secs number).isNone then deny s .notPlanned
    else accept (s.modStore (fun p => { p with secs := tput p.secs number { locked := lk } })) []
  | 2 =>
    if !inRange 1 9999 number then deny s .range
    else if (tfind s.store.holes number).isNone then deny s .notPlanned
    else accept (s.modStore (fun p => { p with holes := tmod p.holes number (fun h => { h with locked := lk }) })) []
  | _ => deny s .range

/-- LOCK (R18). -/
def reqLock (kind number : Nat) (s : State) : State × Reply := setLock kind number true s

/-- UNLOCK (R18). -/
def reqUnlock (kind number : Nat) (s : State) : State × Reply := setLock kind number false s

/-- The holes PURGE removes: those of the section whose stages are all PLANNED (R19). -/
def State.purged (s : State) (sec : Nat) : List Nat :=
  (s.store.holes.filter (fun p => p.2.sec == sec && !s.hasHistory p.1)).map (·.1)

/-- PURGE (R19). -/
def reqPurge (sec : Nat) (s : State) : State × Reply :=
  if !inRange 1 8 sec then deny s .range
  else if (tfind s.store.secs sec).isNone then deny s .notPlanned
  else
    let gone := s.purged sec
    let holes := s.store.holes.filter (fun p => !gone.contains p.1)
    let stages := s.store.stages.filter (fun p => !gone.contains (p.1 / 32))
    let empty := !holes.any (fun p => p.2.sec == sec)
    let s' := s.modStore (fun p =>
      { p with holes := holes, stages := stages, secs := if empty then tdel p.secs sec else p.secs })
    accept s' (u8 gone.length ++ u16 (s.store.stages.length - stages.length) ++ flag empty)

/-! ### Plan queries (R21) -/

/-- Answer a query of a table by the record under a key. -/
def query {α : Type} (ok : Bool) (found : Option α) (body : α → List Byte) (s : State) : State × Reply :=
  if !ok then deny s .range
  else
    match found with
    | none => deny s .notPlanned
    | some x => accept s (body x)

/-- QSTAGE. -/
def reqQstage (hole stage : Nat) (s : State) : State × Reply :=
  query (inRange 1 9999 hole && inRange 1 24 stage) (s.stageRec hole stage) (Stage.bytes hole stage) s

/-- QHOLE. -/
def reqQhole (hole : Nat) (s : State) : State × Reply :=
  query (inRange 1 9999 hole) (tfind s.store.holes hole) (holeBytes s hole) s

/-- QLIM. -/
def reqQlim (set : Nat) (s : State) : State × Reply := query (inRange 1 24 set) (tfind s.store.sets set) LimitSet.bytes s

/-- QBAND. -/
def reqQband (band : Nat) (s : State) : State × Reply := query (inRange 1 4 band) (tfind s.store.bands band) Band.bytes s

/-- QMIX. -/
def reqQmix (mix : Nat) (s : State) : State × Reply := query (inRange 1 8 mix) (tfind s.store.mixes mix) Mix.bytes s

end Sys2Proof.Machine
end

