-- ==== Sys2Proof/Machine/LineRequests.lean ====
section
/-! DEFINITION. The requests of a line (chapters 2 and 4): LINECFG, PROBE, BIND, START, PAUSE, RESUME, ABORT, RELEASE and
QLINE. -/

namespace Sys2Proof.Machine

/-! ### Configuration -/

/-- A line's configuration as stored, each field clamped (R59). -/
def LineCfg.clamped (tank : TankId) (interval kp ki factor span trace : Nat) : LineCfg :=
  { tank := tank, interval := nearestInterval interval, kp := clampN 0 255 kp, ki := clampN 0 255 ki,
    factor := clampN 1 1000 factor, span := clampN 1000 16000 span, trace := clampN 0 255 trace }

/-- LINECFG (R59). -/
def reqLinecfg (line tank interval kp ki factor span trace : Nat) (s : State) : State × Reply :=
  match lineOf line, tankOf tank with
  | some l, some t =>
    if (s.live l).isSome then deny s .state
    else
      let asked : LineCfg :=
        { tank := t, interval := interval, kp := kp, ki := ki, factor := factor, span := span, trace := trace }
      let new := LineCfg.clamped t interval kp ki factor span trace
      acceptAdjusted (s.modStore (fun p => { p with lineCfg := p.lineCfg.set l new })) (decide (new ≠ asked)) new.bytes
  | _, _ => deny s .range

/-! ### PROBE and BIND -/

/-- PROBE (R30). -/
def reqProbe (line hole stage : Nat) (redo : Bool) (s : State) : State × Reply :=
  match admission s line hole stage redo with
  | .error d => (s, { result := d.result, body := u16 d.value ++ u8 d.qualifier })
  | .ok (_, r) => accept s r.bytes

/-- A stage as an accepted BIND leaves it (R7, R8, R62). -/
def Stage.bound (st : Stage) (redo : Bool) : Stage :=
  if redo then
    { st with status := .bound, prior := some { status := st.status, redo := some (st.pass, st.passVol) },
              pass := st.pass + 1, passVol := 0 }
  else { st with status := .bound, prior := some { status := st.status, redo := none } }

/-- A line as an accepted BIND leaves it (R31, R38, R39, R62, R97). -/
def Line.bound (x : Line) (c : Context) (interval : Nat) : Line :=
  { x with live := some { phase := .bound, ctx := c, latch := none }, permitDrop := false, sampleTimer := some interval,
           traceCounter := 0, fe := FrontEnd.fresh, notices := [] }

/-- What an accepted BIND makes (R62). -/
def bindLine (l : LineId) (hole stage : Nat) (redo : Bool) (r : Resolution) (s : State) : State :=
  let s := s.modStage hole stage (fun st => st.bound redo)
  let s := s.modStore (fun p => { p with sets := tmod p.sets r.setNo (fun x => { x with used := true }) })
  s.setLine l ((s.line l).bound (r.context hole stage) (s.lineCfg l).interval)

/-- BIND (R60, R62). -/
def reqBind (line hole stage : Nat) (redo : Bool) (s : State) : State × Reply :=
  match admission s line hole stage redo with
  | .error d => deny s d.result
  | .ok (l, r) => accept (bindLine l hole stage redo r s) r.bytes

/-! ### START -/

/-- A zone of the set bars a START: TRIP with routing STOP or HOLD, or a faulted enabled gauge (R63, check 5). -/
def State.startBarred (s : State) (zs : ZoneSet) : Bool :=
  allZones.any (fun z => hasZone zs z && (s.zoneBars z || s.zoneFault z))

/-- The states in which an asserted LOCAL key refuses START (R63, check 2). R117 has START in ENDED refused STATE, and R63 and
R78 have it refused LOCAL while the key stands asserted: the model follows R63 (DESIGN CHOICE, log entry 36). -/
def keyBarsStart : Option Phase → Bool
  | none | some .bound | some .ended => true
  | _ => false

/-- The checks of START after the line number (R63); none when all pass. -/
def startDenial (s : State) (l : LineId) : Option Result :=
  if s.phase l = some .localPanel ∨ (keyBarsStart (s.phase l) ∧ (s.line l).key) then some .localKey
  else
    match s.live l with
    | none => some .state
    | some v =>
      if v.phase ≠ .bound then some .state
      else if s.supply.loopOpen then some .estop
      else if s.startBarred v.ctx.zones then some .heave
      else if (s.line l).fe.fault then some .sensor
      else none

/-- The line settles its current step against its tank's mix (R64, step 4). -/
def settleStep (l : LineId) (c : Context) (s : State) : State :=
  match (s.tank c.tank).mix with
  | none => s.handOff (.adopt c.tank l c.mix)
  | some m =>
    if m = c.mix then s
    else
      match laterStep c.ladder c.step m with
      | some k => s.modCtx l (fun c => { c with step := k })
      | none => raiseRequest l c.mix s

/-- What an accepted START makes (R64). -/
def startLine (l : LineId) (c : Context) (s : State) : State :=
  let s := s.modStage c.hole c.stage (fun st => { st with status := .active, prior := none })
  let s := s.modCtx l (fun c => { c with startUptime := some s.uptime })
  let s := s.setLine l { s.line l with fe := { FrontEnd.fresh with fault := (s.line l).fe.fault } }
  let s := injectOrStarve l c.lastPe (settleStep l c s)
  if s.phase l = some .starved then lineReport l .bound .starved none none s else s

/-- The START answer: state entered, current step, starve cause (section 11.4). -/
def startBytes (s : State) (l : LineId) : List Byte :=
  match s.live l with
  | none => []
  | some v => u8 v.phase.code ++ u8 v.ctx.step ++ u8 (starveCode v.ctx.starve)

/-- START (R63, R64). -/
def reqStart (line : Nat) (s : State) : State × Reply :=
  match lineOf line with
  | none => deny s .range
  | some l =>
    match startDenial s l with
    | some r => deny s r
    | none =>
      match s.ctx l with
      | none => deny s .state
      | some c => let s' := startLine l c s; accept s' (startBytes s' l)

/-! ### PAUSE and RESUME -/

/-- The hold cause mask of a line's context. -/
def holdBytes (s : State) (l : LineId) : List Byte :=
  match s.ctx l with
  | none => u8 0
  | some c => u8 c.hold.mask

/-- A decay threshold stands above the last p_e (R73). -/
def decayMet (decay : Option Nat) (lastPe : Nat) : Bool := decay.any (fun d => decide (lastPe < d))

/-- PAUSE on a line in one of the four states (R72, R73). -/
def pauseLine (l : LineId) (v : Live) (site : SiteHold) (s : State) : State :=
  let add := fun h : HoldSet => { h with site := some site }
  let s := if v.phase = .hold then addCause l .site add s else enterHold l v.phase .site add s
  if decayMet site.decay v.ctx.lastPe then releaseCauses l (fun h => h.drop .site) (some .site) .decay s else s

/-- The states that take PAUSE (R72). -/
def Phase.pausable : Phase → Bool
  | .inject | .relief | .starved | .hold => true
  | _ => false

/-- PAUSE (R72, R73). -/
def reqPause (line : Nat) (holdTime decay : Option Nat) (s : State) : State × Reply :=
  match lineOf line, holdTime.all (inRange 1 3600), decay.all (inRange 1 20000) with
  | some l, true, true =>
    match s.live l with
    | none => deny s .state
    | some v =>
      if v.phase = .localPanel then deny s .localKey
      else if !v.phase.pausable then deny s .state
      else
        let s' := pauseLine l v { timer := holdTime.map (· * 1000), decay := decay } s
        accept s' (holdBytes s' l)
  | _, _, _ => deny s .range

/-- What RESUME leaves in a set: GAUGE alone (R74). -/
def HoldSet.resumed (h : HoldSet) : HoldSet := { HoldSet.none with gauge := h.gauge }

/-- The causes RESUME releases (R74). -/
def HoldSet.resumable (h : HoldSet) : List Cause := h.causes.filter (fun c => c != .gauge)

/-- The cause a release names: the one released, or none when more than one is (R84). -/
def oneCause : List Cause → Option Cause
  | [c] => some c
  | _ => none

/-- The set holds HEAVE and a zone of its release data is in TRIP (R74, check 4). -/
def State.heaveStands (s : State) (h : HoldSet) : Bool :=
  h.heave.any (fun zs => allZones.any (fun z => hasZone zs z && s.latched z))

/-- RESUME on a line in HOLD whose checks pass (R74). Where the set holds nothing to release, nothing is reported. -/
def resumeLine (l : LineId) (h : HoldSet) (s : State) : State :=
  if h.resumable.isEmpty then s else releaseCauses l HoldSet.resumed (oneCause h.resumable) .resume s

/-- RESUME (R74). -/
def reqResume (line : Nat) (s : State) : State × Reply :=
  match lineOf line with
  | none => deny s .range
  | some l =>
    match s.live l with
    | none => deny s .state
    | some v =>
      if v.phase = .localPanel then deny s .localKey
      else if v.phase ≠ .hold then deny s .state
      else if s.heaveStands v.ctx.hold then (s, { result := .heave, body := holdBytes s l })
      else if v.ctx.hold.sensor && (s.line l).fe.fault then (s, { result := .sensor, body := holdBytes s l })
      else let s' := resumeLine l v.ctx.hold s; accept s' (holdBytes s' l)

/-! ### ABORT, RELEASE, QLINE -/

/-- ABORT of a BOUND line: the stage is restored, the pending request withdrawn, the context destroyed (R75, R129). -/
def abortBound (l : LineId) (c : Context) (s : State) : State :=
  let x := s.line l
  let s := s.modStage c.hole c.stage Stage.restored
  withdrawalReport l x c 0 (unbind l (dropRequest l c s))

/-- ABORT (R75). -/
def reqAbort (line : Nat) (s : State) : State × Reply :=
  match lineOf line with
  | none => deny s .range
  | some l =>
    match s.live l with
    | none => deny s .state
    | some v =>
      if v.phase.started then accept (drainLine l .abort s) []
      else if v.phase = .bound then accept (abortBound l v.ctx s) []
      else deny s .state

/-- RELEASE (R76). -/
def reqRelease (line : Nat) (s : State) : State × Reply :=
  match lineOf line with
  | none => deny s .range
  | some l =>
    match s.phase l with
    | some .localPanel => deny s .localKey
    | some .ended => if (s.line l).key then deny s .localKey else accept (unbind l s) []
    | _ => deny s .state

/-- QLINE (R37). -/
def reqQline (line : Nat) (s : State) : State × Reply :=
  match lineOf line with
  | none => deny s .range
  | some l => accept s (lineBytes s l)

end Sys2Proof.Machine
end

