-- ==== Sys2Proof/Machine/TankRequests.lean ====
section
/-! DEFINITION. The requests of a tank (section 7.3): TANKCFG, BATCH, EMPTY and QTANK. -/

namespace Sys2Proof.Machine

/-- Write a tank's reserve. -/
def State.setReserve (s : State) (t : TankId) (r : Nat) : State :=
  s.modStore (fun p => { p with reserve := p.reserve.set t r })

/-- A reserve is written and the tank judged against it (R124). -/
def changeReserve (t : TankId) (r : Nat) (e : TankEvent) (s : State) : State :=
  tankEvent t (fun w => { w with s := reportIfChanged t e w.s (w.s.setReserve t r) }) s

/-- TANKCFG (R124). -/
def reqTankcfg (tank reserve : Nat) (s : State) : State × Reply :=
  match tankOf tank with
  | none => deny s .range
  | some t =>
    let r := clampN 20000 500000 reserve
    acceptAdjusted (changeReserve t r .tankcfg s) (decide (r ≠ reserve)) (u32 r)

/-- The excess of a delivery over the capacity, which goes to waste (R125). -/
def overflowOf (tk : Tank) (volume : Nat) : Nat := tk.contents + volume - Config.tankCapacity

/-- A delivery of `volume` mL into a tank (R125, steps 2 to 4). -/
def deliver (tk : Tank) (volume : Nat) : Tank :=
  { tk with delivered := tk.delivered + volume, contents := tk.contents + volume - overflowOf tk volume,
            waste := tk.waste + overflowOf tk volume, batchSince := true }

/-- A delivery into a tank inside its event. -/
def deliverWork (t : TankId) (volume : Nat) (w : TankWork) : TankWork :=
  { w with s := w.s.setTank t (deliver (w.s.tank t) volume) }

/-- What an accepted BATCH makes (R125, R136): an UNSET tank's adoption and delivery make one TANK report.
A changeover that its head examination grants queues a TANK report of its own, behind that of the delivery where there is one
(R136 names two reports for an EMPTY alone; DESIGN CHOICE, log entry 45). Each gives as the amount sent to waste by the event
what was sent to waste between its own before and after: the changeover's report the dumped charge alone, without the overflow
of the delivery (DESIGN CHOICE, log entry 45). -/
def batchWork (t : TankId) (mix volume : Nat) (w : TankWork) : TankWork :=
  match (w.s.tank t).mix with
  | none =>
    let a := adoptMix t mix none w
    examineHead t (reportChange t .adopt w.s none { a with w := deliverWork t volume a.w })
  | some _ =>
    let d := deliverWork t volume w
    examineHead t { d with s := reportIfChanged t .batch w.s d.s }

/-- BATCH (R125). Check 3 answers CONFLICT also where the first taking of a repeated BATCH has, by its own head examination,
changed the tank over to another mix, though R182's table says OK for a BATCH taken again (DESIGN CHOICE, log entry 39). -/
def reqBatch (tank mix volume : Nat) (s : State) : State × Reply :=
  match tankOf tank, inRange 1 8 mix && inRange 1 1500 volume with
  | some t, true =>
    if (tfind s.store.mixes mix).isNone then deny s .notPlanned
    else if (s.tank t).mix.any (fun m => m != mix) then deny s .conflict
    else
      let s' := tankEvent t (batchWork t mix (volume * 1000)) s
      accept s' (u32 (s'.tank t).contents ++ u32 (overflowOf (s.tank t) (volume * 1000)) ++ u8 (s'.tankState t).code)
  | _, _ => deny s .range

/-- A tank dumped by EMPTY (R126). -/
def Tank.dumped (tk : Tank) : Tank :=
  { tk with waste := tk.waste + tk.contents, contents := 0, mix := none, batchSince := false }

/-- What EMPTY makes (R126, R136). -/
def emptyWork (t : TankId) (w : TankWork) : TankWork :=
  examineHead t { w with s := reportIfChanged t .empty w.s (w.s.setTank t (w.s.tank t).dumped) }

/-- EMPTY (R126). -/
def reqEmpty (tank : Nat) (s : State) : State × Reply :=
  match tankOf tank with
  | none => deny s .range
  | some t => accept (tankEvent t (emptyWork t) s) (u32 (s.tank t).contents)

/-- QTANK (R127). -/
def reqQtank (tank : Nat) (s : State) : State × Reply :=
  match tankOf tank with
  | none => deny s .range
  | some t => accept s (tankBytes s t)

end Sys2Proof.Machine
end

