-- ==== Sys2Proof/Machine/Uplift.lean ====
section
/-! DEFINITION. The uplift monitor (chapter 8): the scanner, the judgement of zones, the actions on lines and their reports,
the requests GAUGECFG, ZONECFG, ZERO, HCLEAR and QGAUGE, and the completion of a conversion.

An event of the monitor queues the gauge's HEAVE report first, then the zones' in the order of their numbers (R152), and
acts on the lines, whose own reports follow (R149). -/

namespace Sys2Proof.Machine

/-! ### The scanner (R140) -/

/-- The next enabled gauge above `g`, wrapping from the highest to the lowest. -/
def State.nextGauge (s : State) (g : GaugeId) : Option GaugeId :=
  ((allGauges.filter (fun x => decide (g < x))) ++ (allGauges.filter (fun x => decide (x ≤ g)))).find?
    (fun x => (s.gaugeCfg x).enabled)

/-- The lowest-numbered enabled gauge. -/
def State.firstGauge (s : State) : Option GaugeId := allGauges.find? (fun x => (s.gaugeCfg x).enabled)

/-- A dwell on a gauge, or an idle scanner. -/
def dwellOn (g : Option GaugeId) : Option Scan := g.map (fun x => { gauge := x, left := Config.dwellTime })

/-! ### Zones (R145 to R148) -/

/-- A gauge taking part stands at or beyond `limit`. -/
def State.someAtOrBeyond (s : State) (z : ZoneId) (limit : Nat) : Bool :=
  (s.partGauges z).any (fun g => (s.displacement g).any (fun d => decide ((limit : Int) ≤ d)))

/-- The level below which every gauge must fall for a zone to leave WARN: warn less its hysteresis (R145). -/
def warnRelease (warn : Nat) : Nat := warn - warn / 10

/-- The warn judgement of a zone that is not in TRIP (R145). -/
def judgeWarn (z : ZoneId) (s : State) : State :=
  if s.latched z then s
  else
    s.setWarned z
      (if s.warned z then s.someAtOrBeyond z (warnRelease (s.zoneCfg z).warn) else s.someAtOrBeyond z (s.zoneCfg z).warn)

/-- The gauge with the largest displacement among those taking part, the lowest-numbered of equals (R152). -/
def State.largest (s : State) (z : ZoneId) : Option (GaugeId × Int) :=
  (s.partGauges z).foldl
    (fun best g =>
      match s.displacement g, best with
      | none, b => b
      | some d, none => some (g, d)
      | some d, some (b, e) => if e < d then some (g, d) else some (b, e))
    none

/-- Queue a zone's HEAVE report where its state has changed since `before` (R152). -/
def zoneReport (z : ZoneId) (e : HeaveEvent) (before : State) (acts : List (LineId × LineAction)) (s : State) : State :=
  if before.zoneState z = s.zoneState z then s
  else
    s.report (.zoneHeave
      { uptime := s.uptime, event := e, zone := z, before := before.zoneState z, after := s.zoneState z,
        routing := (s.zoneCfg z).routing, largest := s.largest z, faulted := s.faultedGauges z, lines := acts })

/-- Queue a gauge's HEAVE report where its fault status has changed since `before` (R152). -/
def gaugeReport (g : GaugeId) (e : HeaveEvent) (zone : ZoneId) (before : State) (acts : List (LineId × LineAction)) (s : State) :
    State :=
  if (before.gauge g).fault = (s.gauge g).fault then s
  else
    s.report (.gaugeHeave
      { uptime := s.uptime, event := e, gauge := g, zone := zone, fault := (s.gauge g).fault,
        reading := (s.gauge g).reading, lines := acts })

/-! ### Actions on lines (R149, R151) -/

/-- The action of a trip with this routing on a line in this state (R149, R152). A line in HOLD is named with HEAVE zone
added, also where its HEAVE release data holds the zone already (DESIGN CHOICE, log entry 46). -/
def tripAction (r : Routing) (p : Phase) : Option LineAction :=
  match r with
  | .stop => if p.started then some .drain else none
  | .hold =>
    match p with
    | .inject | .relief | .starved => some .holdHeave
    | .hold => some .heaveZoneAdded
    | _ => none
  | .report => none

/-- The lines of a zone that its trip acts on, with the action, in the order of their numbers (R149), in which the HEAVE report
lists them too (R152, R181; DESIGN CHOICE, log entry 38). -/
def State.tripActions (s : State) (z : ZoneId) : List (LineId × LineAction) :=
  (s.linesOf z).filterMap (fun l => ((s.phase l).bind (tripAction (s.zoneCfg z).routing)).map (fun a => (l, a)))

/-- The routing of a zone in TRIP acts on its lines, in the order of their numbers (R149). -/
def routeTrip (z : ZoneId) (s : State) : State :=
  match (s.zoneCfg z).routing with
  | .stop => (s.linesOf z).foldl (fun s l => drainLine l .heave s) s
  | .hold => (s.linesOf z).foldl (fun s l => imposeCause l .heave (fun h => h.addHeave z) s) s
  | .report => s

/-- The action of a gauge fault on a line (R151, R152). -/
def faultAction (v : Live) : Option LineAction :=
  match v.phase with
  | .inject | .relief | .starved => some .holdGauge
  | .hold => if v.ctx.hold.gauge then none else some .gaugeAdded
  | _ => none

/-- The lines of a zone that a gauge fault acts on, in the order of their numbers, also in the HEAVE report (R152, R181; DESIGN
CHOICE, log entry 38). -/
def State.faultActions (s : State) (z : ZoneId) : List (LineId × LineAction) :=
  (s.linesOf z).filterMap (fun l => ((s.live l).bind faultAction).map (fun a => (l, a)))

/-- A gauge fault acts on its zone's lines (R151), in the order of their numbers (R151 gives none; DESIGN CHOICE, log entry
47). -/
def holdForGauge (z : ZoneId) (s : State) : State :=
  (s.linesOf z).foldl (fun s l => imposeCause l .gauge (fun h => { h with gauge := true }) s) s

/-- The lines that hold GAUGE and whose zones hold no faulted enabled gauge (R151). -/
def State.gaugeClear (s : State) : List LineId :=
  allLines.filter (fun l =>
    s.holdsCause l .gauge && (s.ctx l).any (fun c => !allZones.any (fun z => hasZone c.zones z && s.zoneFault z)))

/-- A cleared fault releases GAUGE (R151), in the order of the lines' numbers (R151 gives none; DESIGN CHOICE, log entry 47). -/
def releaseGauge (ls : List LineId) (s : State) : State :=
  ls.foldl (fun s l => releaseCauses l (fun h => h.drop .gauge) (some .gauge) .gaugeClear s) s

/-- Of the lines an event acts on, those of a zone: what the report of the zone, or of a gauge of it, names (R152). -/
def State.onZone (s : State) (z : ZoneId) (acts : List (LineId × LineAction)) : List (LineId × LineAction) :=
  acts.filter (fun a => (s.ctx a.1).any (fun c => hasZone c.zones z))

/-- The lines a fault change of gauge `g` since `before` acts on: those of `zone` for a fault, the cleared ones otherwise. In a
HEAVE report they stand before those of a trip at the same conversion (R152; DESIGN CHOICE, log entry 38). -/
def faultChangeActions (g : GaugeId) (zone : ZoneId) (before : State) (s : State) : List (LineId × LineAction) :=
  if (before.gauge g).fault = (s.gauge g).fault then []
  else if (s.gauge g).fault then s.faultActions zone
  else s.gaugeClear.map (fun l => (l, .gaugeReleased))

/-- The action of a fault change of gauge `g` since `before` (R151). -/
def actOnFaultChange (g : GaugeId) (zone : ZoneId) (before : State) (s : State) : State :=
  if (before.gauge g).fault = (s.gauge g).fault then s
  else if (s.gauge g).fault then holdForGauge zone s
  else releaseGauge s.gaugeClear s

/-! ### A conversion (R141, R147) -/

/-- The reading of an in-range count (R141). -/
def readingOf (span count : Nat) : Int := trunc (((count : Int) - 32768) * (span : Int)) 32768

/-- A count that is a rail reading (R141). -/
def isRail (count : Nat) : Bool := count == 0 || count == 65535

/-- A gauge after a rail reading (R141). -/
def Gauge.railed (x : Gauge) : Gauge := { x with trips := 0, rail := 1, fault := x.fault || x.rail == 1 }

/-- The trip count after an in-range reading with displacement `d` (R147). -/
def tripsAfter (trips : Nat) (d : Int) (trip : Nat) : Nat := if (trip : Int) ≤ d then min (trips + 1) 2 else 0

/-- A gauge after an in-range conversion (R141, R147). -/
def Gauge.converted (x : Gauge) (r baseline : Int) (trip : Nat) : Gauge :=
  { reading := some r, fault := false, rail := 0, trips := tripsAfter x.trips (r - baseline) trip }

/-- The gauge under dwell after its conversion. -/
def State.convert (s : State) (g : GaugeId) (count : Nat) : Gauge :=
  if isRail count then (s.gauge g).railed
  else
    (s.gauge g).converted (readingOf (s.gaugeCfg g).span count) (s.gaugeCfg g).baseline
      (s.zoneCfg (s.gaugeCfg g).zone).trip

/-- A conversion trips its zone: it raises the count to 2 and the zone is in NORMAL or WARN (R147). -/
def tripsZone (before : State) (g : GaugeId) (after : Gauge) : Bool :=
  !before.latched (before.gaugeCfg g).zone && decide ((before.gauge g).trips < 2) && decide (after.trips = 2)

/-- Set a zone's trip latch (R147). -/
def latchTrip (z : ZoneId) (s : State) : State := (s.setLatch z true).setWarned z false

/-- The conversion of gauge `g` (R141, R145, R147, R149, R151, R152). -/
def convertGauge (g : GaugeId) (count : Nat) (s : State) : State :=
  let z := (s.gaugeCfg g).zone
  let x := s.convert g count
  let s1 := s.setGauge g x
  let trip := tripsZone s g x
  let s2 := if trip then latchTrip z s1 else judgeWarn z s1
  let acts := s2.onZone z (faultChangeActions g z s s2 ++ if trip then s2.tripActions z else [])
  let s3 := gaugeReport g .reading z s acts s2
  let s4 := zoneReport z .reading s acts s3
  let s5 := actOnFaultChange g z s s4
  if trip then routeTrip z s5 else s5

/-- GAUGE_CONVERSION (R141): the conversion of the gauge under dwell, then a dwell on the next enabled gauge (R140). -/
def evGaugeConversion (count : Nat) (s : State) : State :=
  match s.scan with
  | none => s
  | some x =>
    let s := convertGauge x.gauge count s
    { s with scan := dwellOn (s.nextGauge x.gauge) }

/-! ### GAUGECFG (R139) -/

/-- A started line has one of the zones in its zone set (R139, R142). -/
def State.zonesStarted (s : State) (y z : ZoneId) : Bool := s.zoneStarted y || s.zoneStarted z

/-- The configuration GAUGECFG stores: a change of zone or span sets the baseline to 0 (R139). -/
def GaugeCfg.write (old : GaugeCfg) (enabled : Bool) (zone : ZoneId) (span : Nat) : GaugeCfg :=
  { enabled := enabled, zone := zone, span := span,
    baseline := if old.zone = zone ∧ old.span = span then old.baseline else 0 }

/-- The gauge's other fields after GAUGECFG (R139): a change of zone or span, and a disabling, clear them. -/
def Gauge.reconfigured (x : Gauge) (old new : GaugeCfg) : Gauge :=
  if old.zone ≠ new.zone ∨ old.span ≠ new.span ∨ (old.enabled ∧ !new.enabled) then Gauge.fresh else x

/-- The scanner after GAUGECFG (R140). -/
def State.rescan (s : State) (g : GaugeId) : Option Scan :=
  match s.scan with
  | none => if (s.gaugeCfg g).enabled then dwellOn (some g) else none
  | some x => if x.gauge = g ∧ !(s.gaugeCfg g).enabled then dwellOn (s.nextGauge g) else some x

/-- The zones a GAUGECFG judges, in the order of their numbers, once each (R139, R152). -/
def zonesToJudge (y z : ZoneId) : List ZoneId := allZones.filter (fun x => x == y || x == z)

/-- What an accepted GAUGECFG that changes the record makes (R139, R146, R151, R152). -/
def configureGauge (g : GaugeId) (new : GaugeCfg) (s : State) : State :=
  let old := s.gaugeCfg g
  let s1 := (s.setGaugeCfg g new).setGauge g ((s.gauge g).reconfigured old new)
  let s2 := { s1 with scan := s1.rescan g }
  let zs := zonesToJudge old.zone new.zone
  let s3 := zs.foldl (fun x z => judgeWarn z x) s2
  let acts := faultChangeActions g old.zone s s3
  let s4 := gaugeReport g .gaugecfg old.zone s (s3.onZone old.zone acts) s3
  let s5 := zs.foldl (fun x z => zoneReport z .gaugecfg s (s3.onZone z acts) x) s4
  actOnFaultChange g old.zone s s5

/-- GAUGECFG (R139). A span out of range that clamps to the stored record changes nothing and answers OK_ADJUSTED (DESIGN
CHOICE, log entry 44). -/
def reqGaugecfg (gauge enabled zone span : Nat) (s : State) : State × Reply :=
  match gaugeOf gauge, flagOf enabled, zoneOf zone with
  | some g, some en, some z =>
    let sp := clampN 1000 10000 span
    let old := s.gaugeCfg g
    let new := old.write en z sp
    if old.enabled = en ∧ old.zone = z ∧ old.span = sp then acceptAdjusted s (decide (sp ≠ span)) (u16 sp)
    else if (old.enabled || en) && s.zonesStarted old.zone z then deny s .inUse
    else acceptAdjusted (configureGauge g new s) (decide (sp ≠ span)) (u16 sp)
  | _, _, _ => deny s .range

/-! ### ZONECFG (R144) -/

/-- A zone's configuration as stored: warn, then trip above it, then derate, each clamped (R144). -/
def ZoneCfg.clamped (warn trip derate : Nat) (routing : Routing) : ZoneCfg :=
  { warn := clampN 10 2000 warn, trip := max (clampN 11 10000 trip) (clampN 10 2000 warn + 1),
    derate := clampN 30 100 derate, routing := routing }

/-- A re-routing from HOLD to REPORT takes the zone out of every HEAVE cause that holds it (R149). -/
def unrouteHold (z : ZoneId) (s : State) : State :=
  allLines.foldl
    (fun s l => s.modCtx l (fun c => { c with hold := { c.hold with heave := c.hold.heave.map (fun zs => zs &&& ~~~(oneZone z)) } }))
    s

/-- A new routing acts at once on a zone in TRIP (R144, R149). -/
def reroute (z : ZoneId) (old : Routing) (s : State) : State :=
  if old = (s.zoneCfg z).routing ∨ !s.latched z then s
  else if old = .hold ∧ (s.zoneCfg z).routing = .report then unrouteHold z s
  else routeTrip z s

/-- ZONECFG (R144). -/
def reqZonecfg (zone warn trip derate routing : Nat) (s : State) : State × Reply :=
  match zoneOf zone, routingOf routing with
  | some z, some r =>
    let new := ZoneCfg.clamped warn trip derate r
    let asked : ZoneCfg := { warn := warn, trip := trip, derate := derate, routing := r }
    let s1 := judgeWarn z (s.setZoneCfg z new)
    let s2 := zoneReport z .zonecfg s [] s1
    acceptAdjusted (reroute z (s.zoneCfg z).routing s2) (decide (new ≠ asked))
      (u16 new.warn ++ u16 new.trip ++ u8 new.derate ++ u8 new.routing.code)
  | _, _ => deny s .range

/-! ### ZERO, HCLEAR, QGAUGE -/

/-- Set a gauge's baseline to its reading (R142). -/
def zeroGauge (g : GaugeId) (s : State) : State :=
  match (s.gauge g).reading with
  | none => s
  | some r => (s.setGaugeCfg g { s.gaugeCfg g with baseline := r }).setGauge g { s.gauge g with trips := 0 }

/-- ZERO of one gauge (R142). -/
def zeroOne (g : GaugeId) (s : State) : State × Reply :=
  if !s.takesPart g then deny s .state
  else if s.zoneStarted (s.gaugeCfg g).zone then deny s .inUse
  else
    let z := (s.gaugeCfg g).zone
    let s' := zoneReport z .zero s [] (judgeWarn z (zeroGauge g s))
    accept s' (s16 (s'.gaugeCfg g).baseline)

/-- ZERO of a zone (R142). -/
def zeroZone (z : ZoneId) (s : State) : State × Reply :=
  if s.zoneStarted z then deny s .inUse
  else
    let gs := s.partGauges z
    let s' := zoneReport z .zero s [] (judgeWarn z (gs.foldl (fun s g => zeroGauge g s) s))
    accept s' (counted (fun g => u8 (g.val + 1) ++ s16 (s'.gaugeCfg g).baseline) gs)

/-- ZERO (R142): kind 1 a gauge, kind 2 a zone. -/
def reqZero (kind number : Nat) (s : State) : State × Reply :=
  match kind with
  | 1 => match gaugeOf number with | none => deny s .range | some g => zeroOne g s
  | 2 => match zoneOf number with | none => deny s .range | some z => zeroZone z s
  | _ => deny s .range

/-- The trip counts of the gauges taking part in a zone stand at 0 after its HCLEAR (R148). -/
def zeroTrips (gs : List GaugeId) (s : State) : State :=
  gs.foldl (fun s g => s.setGauge g { s.gauge g with trips := 0 }) s

/-- Clear a zone's trip latch and judge it by the current readings (R148). -/
def clearLatch (z : ZoneId) (s : State) : State :=
  (zeroTrips (s.partGauges z) ((s.setLatch z false).setWarned z (s.someAtOrBeyond z (warnRelease (s.zoneCfg z).warn))))

/-- HCLEAR (R148). -/
def reqHclear (zone : Nat) (s : State) : State × Reply :=
  match zoneOf zone with
  | none => deny s .range
  | some z =>
    if !s.latched z then deny s .state
    else if s.someAtOrBeyond z (s.zoneCfg z).trip then deny s .active
    else
      let s' := zoneReport z .hclear s [] (clearLatch z s)
      accept s' (u8 (s'.zoneState z).code)

/-- QGAUGE (R153): kind 1 a gauge, kind 2 a zone. -/
def reqQgauge (kind number : Nat) (s : State) : State × Reply :=
  match kind with
  | 1 => match gaugeOf number with | none => deny s .range | some g => accept s (gaugeBytes s g)
  | 2 => match zoneOf number with | none => deny s .range | some z => accept s (zoneBytes s z)
  | _ => deny s .range

end Sys2Proof.Machine
end

