-- ==== Sys2Proof/Machine/Supply.lean ====
section
/-! DEFINITION. Supply and stop supervision (chapter 9): the loss of supply, power-on with the conversions of the plan store
(R23), the battery, the emergency-stop loop; and WIPE (R20), which returns the configuration to its defaults. -/

namespace Sys2Proof.Machine

/-! ### Loss of supply (R155) -/

/-- SUPPLY_FAILURE (R155): everything that is not backed is lost. The model's own hand-offs are lost with it; the commands
that wait in `pending` stay, and are not taken until power-on (log entry 13). What is lost stands at its power-on value, and
the battery, backup and loop senses and the clock at their last values, until POWER_ON writes them; nothing reads them in
between, and the manual gives them no value there (DESIGN CHOICE, log entry 34). -/
def loseSupply (s : State) : State :=
  { store := s.store,
    lines := Vector.replicate 6 (Line.fresh false),
    tanks := Vector.replicate 2 Tank.fresh,
    gauges := Vector.replicate 16 Gauge.fresh,
    zoneWarn := Vector.replicate 4 false,
    scan := none,
    link :=
      { framer := .hunt, gap := none, answers := [], reports := [], tx := none, missed := false, state := .ok, t1 := none,
        t2 := none, safeLatch := false },
    supply := { s.supply with failed := true },
    handoffs := [],
    freeCount := s.freeCount,
    pending := s.pending }

/-! ### Power-on (R23, R156) -/

/-- The final mix step of a POWER conversion: the image's, or a free value where there is none (log entry 5). -/
def powerStep (count key : Nat) (image : Option RunningImage) : Nat :=
  match image with
  | some x => x.step
  | none => Config.powerFinalStep count key

/-- The snapshot of a stage that had taken no sample since START (R23). -/
def Snapshot.zero : Snapshot :=
  { uptime := 0, phase := .inject, pg := 0, pe := 0, q := 0, vol := 0, take := 0, ptgt := 0, cap := 0, u := 0 }

/-- The running image whose every value is zero. -/
def RunningImage.zero : RunningImage :=
  { snap := Snapshot.zero, maxPe := 0, reliefCount := 0, step := 0, elapsed := 0, refusalTimer := 0 }

/-- The outcome record of a POWER conversion (R23). -/
def powerRecord (finalStep : Nat) (x : RunningImage) : OutcomeRecord :=
  { outcome := .power, finalTake := x.snap.take, maxPe := x.maxPe, finalPe := x.snap.pe,
    finalProduct := x.snap.pe * x.snap.take, finalStep := finalStep, reliefCount := x.reliefCount, duration := x.elapsed,
    drainTimeout := false, snapshot := some x.snap }

/-- A stage after the conversions of a power-on with backup good (R7, R23). -/
def Stage.powered (count key : Nat) (st : Stage) : Stage :=
  match st.status with
  | .bound => st.restored
  | .active =>
    { st with status := .opened, image := none,
              outcome := some (powerRecord (powerStep count key st.image) (st.image.getD RunningImage.zero)) }
  | _ => st

/-- The number of stages with a status. -/
def Store.countStatus (p : Store) (x : StageStatus) : Nat := (p.stages.filter (fun q => q.2.status == x)).length

/-- The store after power-on (R23). -/
def Store.powered (p : Store) (lost : Bool) (count : Nat) : Store :=
  if lost then Store.dflt (Vector.replicate 4 false)
  else { p with stages := p.stages.map (fun q => (q.1, q.2.powered count q.1)) }

/-- The SUPPLY report of an event (R160, R181). -/
def supplyReport (e : SupplyEvent) (converted restored : Nat) (drained : LineSet) (s : State) : State :=
  s.report (.supply
    { uptime := s.uptime, event := e, failed := s.supply.failed, batteryLow := s.supply.batteryLow,
      loopOpen := s.supply.loopOpen, backupLost := s.supply.backupLost, converted := converted, restored := restored,
      drained := drained })

/-- Every block at its power-on state over this store (R156), before the SUPPLY report. -/
def powerState (store : Store) (batteryLow backupLost loopIsOpen : Bool) (keys : LineSet) (freeCount : Nat)
    (pending : List Instr) : State :=
  { store := store,
    lines := Vector.ofFn (fun l => Line.fresh (keys.getLsbD l.val)),
    tanks := Vector.replicate 2 Tank.fresh,
    gauges := Vector.replicate 16 Gauge.fresh,
    zoneWarn := Vector.replicate 4 false,
    scan := dwellOn (allGauges.find? (fun g => store.gaugeCfg[g].enabled)),
    link :=
      { framer := .hunt, gap := none, answers := [], reports := [], tx := none, missed := false, state := .ok,
        t1 := some (store.linkCfg.t1 * 1000), t2 := none, safeLatch := false },
    supply := { failed := false, batteryLow := batteryLow, backupLost := backupLost, loopOpen := loopIsOpen, now := 0 },
    handoffs := [],
    freeCount := freeCount,
    pending := pending }

/-- POWER_ON (R156). -/
def evPowerOn (batteryLow backupLost loopIsOpen : Bool) (keys : LineSet) (s : State) : State :=
  supplyReport .powerOn (if backupLost then 0 else s.store.countStatus .active)
    (if backupLost then 0 else s.store.countStatus .bound) 0
    (powerState (s.store.powered backupLost s.freeCount) batteryLow backupLost loopIsOpen keys (s.freeCount + 1) s.pending)

/-! ### Battery and loop -/

/-- BATTERY_CHANGE (R157). A sensed status that is no change is no event. -/
def evBattery (low : Bool) (s : State) : State :=
  if s.supply.batteryLow = low then s
  else supplyReport .battery 0 0 0 { s with supply := { s.supply with batteryLow := low } }

/-- LOOP_OPEN (R82, R158): the SUPPLY report, then each line in the order of its number. -/
def evLoopOpen (s : State) : State :=
  if s.supply.loopOpen then s
  else
    let s1 := supplyReport .loopOpen 0 0 (lineMask s.started) { s with supply := { s.supply with loopOpen := true } }
    allLines.foldl (fun s l => drainLine l .estop s) s1

/-- LOOP_CLOSED (R83, R159): no line changes state. -/
def evLoopClosed (s : State) : State :=
  if s.supply.loopOpen then supplyReport .loopClosed 0 0 0 { s with supply := { s.supply with loopOpen := false } } else s

/-! ### WIPE (R20) -/

/-- Queue the HEAVE reports of the gauge faults a WIPE clears (R20, R152). -/
def wipeGaugeReports (before : State) (s : State) : State :=
  allGauges.foldl (fun s g => gaugeReport g .wipe (before.gaugeCfg g).zone before [] s) s

/-- Judge every zone against the default thresholds (R143). -/
def wipeZones (s : State) : State := allZones.foldl (fun s z => judgeWarn z s) s

/-- Queue the HEAVE reports of the zones a WIPE changes (R152). -/
def wipeZoneReports (before : State) (s : State) : State := allZones.foldl (fun s z => zoneReport z .wipe before [] s) s

/-- Queue the TANK reports of the tanks whose state the default reserve changes (R20, R136). -/
def wipeTankReports (before : State) (s : State) : State := allTanks.foldl (fun s t => reportIfChanged t .wipe before s) s

/-- What an accepted WIPE makes (R20). No line is bound, so no notice has a line to go to. -/
def wipeAll (s : State) : State :=
  let s1 := { s with store := Store.dflt s.store.tripLatch, gauges := Vector.replicate 16 Gauge.fresh, scan := none }
  wipeTankReports s (wipeZoneReports s (wipeGaugeReports s (wipeZones s1)))

/-- WIPE (R20). -/
def reqWipe (s : State) : State × Reply :=
  if allLines.any (fun l => (s.live l).isSome) then deny s .busy else accept (wipeAll s) []

end Sys2Proof.Machine
end

