-- ==== Sys2Proof/Machine/Link.lean ====
section
/-! DEFINITION. The site link (chapter 10): its own requests, the supervision of the site computer, the taking of a request,
the receive framer, and the transmitter. -/

namespace Sys2Proof.Machine

/-! ### The link's own requests -/

/-- The link configuration as stored, each value clamped (R174). -/
def LinkCfg.clamped (t1 t2 safe : Nat) : LinkCfg :=
  { t1 := clampN 5 120 t1, t2 := clampN 5 600 t2, safe := clampN 25 75 safe }

/-- LINKCFG (R174). -/
def reqLinkcfg (t1 t2 safe : Nat) (s : State) : State × Reply :=
  let new := LinkCfg.clamped t1 t2 safe
  let asked : LinkCfg := { t1 := t1, t2 := t2, safe := safe }
  acceptAdjusted (s.modStore (fun p => { p with linkCfg := new })) (decide (new ≠ asked))
    (u16 new.t1 ++ u16 new.t2 ++ u8 new.safe)

/-- Queue a LINK report; the link state and the safe latch after are those of the state as it stands (R176). -/
def linkReport (e : LinkEvent) (before : LinkState) (acts : List (LineId × LineAction)) (s : State) : State :=
  s.report (.link
    { uptime := s.uptime, event := e, before := before, after := s.link.state, latch := s.link.safeLatch, lines := acts })

/-- CLEARSAFE (R173). -/
def reqClearsafe (s : State) : State × Reply :=
  if s.link.safeLatch then
    accept (linkReport .safeClear s.link.state [] (s.modLink (fun k => { k with safeLatch := false }))) (flag true)
  else accept s (flag false)

/-- STATUS (R175). -/
def reqStatus (s : State) : State × Reply := accept (s.modLink (fun k => { k with missed := false })) (statusBytes s)

/-! ### Supervision (R169 to R172) -/

/-- T1 is reloaded with the configured time (R169). -/
def reloadT1 (s : State) : State := s.modLink (fun k => { k with t1 := some (s.store.linkCfg.t1 * 1000) })

/-- The link becomes OK with T1 loaded and T2 stopped, and its restore is reported (R172). -/
def restoreLink (acts : List (LineId × LineAction)) (s : State) : State :=
  linkReport .restore s.link.state acts ((reloadT1 s).modLink (fun k => { k with state := .ok, t2 := none }))

/-- The lines that hold a LINK cause. -/
def State.linkHeld (s : State) : List LineId := allLines.filter (fun l => s.holdsCause l .link)

/-- The supervision takes a valid frame (R169, R172). -/
def superviseFrame (s : State) : State :=
  match s.link.state with
  | .ok => reloadT1 s
  | .lost1 =>
    s.linkHeld.foldl (fun s l => releaseCauses l (fun h => h.drop .link) (some .link) .linkRestore s)
      (restoreLink (s.linkHeld.map (fun l => (l, .linkReleased))) s)
  | .lost2 => restoreLink [] s

/-- The action of a first expiry on a line (R170, R176). -/
def linkAction (v : Live) : Option LineAction :=
  match v.phase with
  | .inject | .relief | .starved => some .holdLink
  | .hold => if v.ctx.hold.link then none else some .linkAdded
  | _ => none

/-- The lines that satisfy `f`, with the action it gives, in the order of their numbers. -/
def State.actions (s : State) (f : Live → Option LineAction) : List (LineId × LineAction) :=
  allLines.filterMap (fun l => ((s.live l).bind f).map (fun a => (l, a)))

/-- T1_EXPIRY (R170), taken in OK. -/
def evT1Expiry (s : State) : State :=
  if s.link.state = .ok then
    let s1 := s.modLink (fun k =>
      { k with state := .lost1, t1 := none, t2 := some (s.store.linkCfg.t2 * 1000) })
    allLines.foldl (fun s l => imposeCause l .link (fun h => { h with link := true }) s)
      (linkReport .t1Expiry .ok (s.actions linkAction) s1)
  else s

/-- T2_EXPIRY (R171), taken in LOST1. -/
def evT2Expiry (s : State) : State :=
  if s.link.state = .lost1 then
    let s1 := s.modLink (fun k => { k with state := .lost2, t2 := none, safeLatch := true })
    allLines.foldl (fun s l => drainLine l .link s)
      (linkReport .t2Expiry .lost1 (s.actions (fun v => if v.phase.started then some .drain else none)) s1)
  else s

/-! ### Taking a request (R165, R166) -/

/-- The kind of the answer to a request of this kind (R165). -/
def answerKind (kind : Byte) : Byte := kind + 0x80

/-- The owning block's part of a request whose frame the supervision has taken: not taken while 8 answers wait, and
otherwise made and answered in the same event (R165, R166). -/
def dispatch (kind tag : Byte) (f : State → State × Reply) (s : State) : State :=
  if s.link.answers.length < Config.maxAnswers then
    (f s).1.answer { kind := answerKind kind, tag := tag, reply := (f s).2 }
  else s

/-- A valid frame carrying a request in good form is taken (R165): supervision first, then the request. -/
def takeRequest (kind tag : Byte) (f : State → State × Reply) (s : State) : State := dispatch kind tag f (superviseFrame s)

/-- The owning block's effect of a request (R165). The events are no requests, and no frame carries one. -/
def handle : Instr → State → State × Reply
  | .defsec _ sec => reqDefsec sec
  | .defhole _ h sec o c ns d z g lk => reqDefhole h sec o c ns d z g lk
  | .defstage _ h st t b len ls => reqDefstage h st t b len ls
  | .deflim _ set p g t o rl r rf b ti d l => reqDeflim set p g t o rl r rf b ti d l
  | .defband _ b u l m c => reqDefband b u l m c
  | .defmix _ m r d => reqDefmix m r d
  | .lock _ k n => reqLock k n
  | .unlock _ k n => reqUnlock k n
  | .purge _ sec => reqPurge sec
  | .wipe _ => reqWipe
  | .qstage _ h st => reqQstage h st
  | .qhole _ h => reqQhole h
  | .qlim _ set => reqQlim set
  | .qband _ b => reqQband b
  | .qmix _ m => reqQmix m
  | .linecfg _ l t i kp ki f sp n => reqLinecfg l t i kp ki f sp n
  | .probe _ l h st r => reqProbe l h st r
  | .bind _ l h st r => reqBind l h st r
  | .start _ l => reqStart l
  | .pause _ l h d => reqPause l h d
  | .resume _ l => reqResume l
  | .abort _ l => reqAbort l
  | .release _ l => reqRelease l
  | .tankcfg _ t r => reqTankcfg t r
  | .batch _ t m v => reqBatch t m v
  | .empty _ t => reqEmpty t
  | .qtank _ t => reqQtank t
  | .gaugecfg _ g e z sp => reqGaugecfg g e z sp
  | .zonecfg _ z w t d r => reqZonecfg z w t d r
  | .zero _ k n => reqZero k n
  | .hclear _ z => reqHclear z
  | .qgauge _ k n => reqQgauge k n
  | .qline _ l => reqQline l
  | .linkcfg _ a b sp => reqLinkcfg a b sp
  | .clearsafe _ => reqClearsafe
  | .status _ => reqStatus
  | .byteArrival .. | .gapTimerExpiry | .frameSent | .t1Expiry | .t2Expiry | .sample .. | .holdTimerExpiry ..
  | .localKeyChange .. | .flowmeterPulse .. | .tankDraw .. | .mixRequest .. | .adopt .. | .headExamination ..
  | .tankNotice .. | .gaugeConversion .. | .supplyFailure | .powerOn .. | .batteryChange .. | .loopOpen | .loopClosed =>
    fun s => deny s .unknown

/-- What the link does with a request frame by what it finds in it (R165). -/
def handleFound (found : Found) (s : State) : State × Reply :=
  match found with
  | .unknown => deny s .unknown
  | .malformed => deny s .format
  | .request i => handle i s

/-- A kind that can be a request (R165). -/
def isRequestKind (kind : Byte) : Bool := inRange 0x01 0x3F kind.toNat

/-- A valid frame is taken (R165): supervision first; a kind that is no request is discarded. -/
def takeFrame (kind tag : Byte) (body : List Byte) (s : State) : State :=
  if isRequestKind kind then takeRequest kind tag (handleFound (decodeRequest kind tag body)) s else superviseFrame s

/-! ### The framer (R162, R164) -/

/-- The framer in this state with the gap timer restarted. -/
def framing (f : Framer) (s : State) : State := s.modLink (fun k => { k with framer := f, gap := some Config.gapTime })

/-- The framer back in HUNT with no gap timer. -/
def hunting (s : State) : State := s.modLink (fun k => { k with framer := .hunt, gap := none })

/-- The frame is judged at its second check byte (R164): the check runs over length, kind, tag and body. -/
def judgeFrame (n : Byte) (got : List Byte) (first second : Byte) (s : State) : State :=
  if crcBytes (crc (n :: got)) = [first, second] then
    match got with
    | kind :: tag :: body => takeFrame kind tag body (hunting s)
    | _ => hunting s
  else hunting s

/-- A data byte in COLLECT (R162). -/
def collect (n : Byte) (got : List Byte) (b : Byte) (s : State) : State :=
  if (got ++ [b]).length = n.toNat then framing (.check n (got ++ [b]) none) s else framing (.collect n (got ++ [b])) s

/-- A byte without a stop-bit error (R162). -/
def takeByte (b : Byte) (s : State) : State :=
  match s.link.framer with
  | .hunt => if b = Config.startByte then framing .length s else s
  | .length => if inRange 2 242 b.toNat then framing (.collect b []) s else hunting s
  | .collect n got => collect n got b s
  | .check n got none => framing (.check n got (some b)) s
  | .check n got (some first) => judgeFrame n got first b s

/-- BYTE_ARRIVAL (R162): a stop-bit error discards the partial frame in any state. -/
def evByte (b : Byte) (stopError : Bool) (s : State) : State := if stopError then hunting s else takeByte b s

/-- GAP_TIMER_EXPIRY (R164): the partial frame is discarded. -/
def evGap (s : State) : State := hunting s

/-- FRAME_SENT (R168): the transmitter has sent its frame; the arbiter acts at the close of the event. -/
def evFrameSent (s : State) : State := s.modLink (fun k => { k with tx := none })

end Sys2Proof.Machine
end

