-- ==== Sys2Proof/Machine/Clock.lean ====
section
/-! DEFINITION. What the part does of itself when no command waits (log entry 2): it takes the oldest event that one of its
blocks has handed to another; else the expiry of a timer that has run down; else its clock goes on by one millisecond.
SAMPLE and GAUGE_CONVERSION carry values that come from the field, so they are commands only: their timers stand at 0. -/

namespace Sys2Proof.Machine

/-- A timer that runs and has run down. -/
def isDue (t : Option Nat) : Bool := t == some 0

/-- The expiry that is due, if one is: T1, T2, the gap timer, then the hold timers in the order of the lines. -/
def State.dueExpiry (s : State) : Option Instr :=
  if isDue s.link.t1 then some .t1Expiry
  else if isDue s.link.t2 then some .t2Expiry
  else if isDue s.link.gap then some .gapTimerExpiry
  else (allLines.find? (fun l => isDue (s.holdTimer l))).map .holdTimerExpiry

/-- The event the part takes of itself while no command waits. -/
def State.ownEvent (s : State) : Option Instr :=
  if s.supply.failed then none
  else
    match s.handoffs with
    | h :: _ => some h
    | [] => s.dueExpiry

/-- A running timer counts down by 1 ms, to 0. -/
def countDown (t : Option Nat) : Option Nat := t.map (· - 1)

/-- A hold cause set with its hold timer counted down. -/
def HoldSet.countDown (h : HoldSet) : HoldSet :=
  { h with site := h.site.map (fun x => { x with timer := Machine.countDown x.timer }) }

/-- A line with its timers counted down. -/
def Line.countDown (x : Line) : Line :=
  { x with
    live := x.live.map (fun v => { v with ctx := { v.ctx with hold := v.ctx.hold.countDown } })
    sampleTimer := Machine.countDown x.sampleTimer }

/-- The clock goes on by 1 ms (R38, R154) and every running timer counts down (R39, R71, R140, R164, R169). Without supply it
stands still. -/
def tick (s : State) : State :=
  if s.supply.failed then s
  else
    { s with
      lines := s.lines.map Line.countDown
      scan := s.scan.map (fun x => { x with left := x.left - 1 })
      link := { s.link with gap := countDown s.link.gap, t1 := countDown s.link.t1, t2 := countDown s.link.t2 }
      supply := { s.supply with now := s.supply.now + 1 } }

end Sys2Proof.Machine
end

