-- ==== Sys2Proof/Machine/FieldCommands.lean ====
section
/-! DEFINITION. The field events of a line, and the commands of supply and stop supervision: one meaning for each, taken as one whole event (R100). -/

namespace Sys2Proof.Machine

/-- SAMPLE (R85). -/
def execSample (line : LineId) (current : Nat) (s : State) : Host.Outcome State Fault Refusal :=
  takeEvent (evSample line current) s

/-- HOLD_TIMER_EXPIRY (R71). -/
def execHoldTimerExpiry (line : LineId) (s : State) : Host.Outcome State Fault Refusal :=
  takeEvent (evHoldTimer line) s

/-- LOCAL_KEY_CHANGE (R78). -/
def execLocalKeyChange (line : LineId) (asserted : Bool) (s : State) : Host.Outcome State Fault Refusal :=
  takeEvent (evLocalKey line asserted) s

/-- FLOWMETER_PULSE (R44). -/
def execFlowmeterPulse (line : LineId) (s : State) : Host.Outcome State Fault Refusal :=
  takeEvent (evPulse line) s

/-- SUPPLY_FAILURE (R155). -/
def execSupplyFailure (s : State) : Host.Outcome State Fault Refusal :=
  takeEvent loseSupply s

/-- POWER_ON (R156). Power-on is taken while the supply is FAILED. -/
def execPowerOn (batteryLow backupLost loopIsOpen : Bool) (keys : LineSet)
    (s : State) : Host.Outcome State Fault Refusal :=
  .next (startFrame (evPowerOn batteryLow backupLost loopIsOpen keys s))

/-- BATTERY_CHANGE (R157). -/
def execBatteryChange (low : Bool) (s : State) : Host.Outcome State Fault Refusal :=
  takeEvent (evBattery low) s

/-- LOOP_OPEN (R158). -/
def execLoopOpen (s : State) : Host.Outcome State Fault Refusal :=
  takeEvent evLoopOpen s

/-- LOOP_CLOSED (R159). -/
def execLoopClosed (s : State) : Host.Outcome State Fault Refusal :=
  takeEvent evLoopClosed s

end Sys2Proof.Machine
end

