-- ==== Sys2Proof/Machine/LineCommands.lean ====
section
/-! DEFINITION. The requests of a line: one meaning for each, taken as one whole event (R100). -/

namespace Sys2Proof.Machine

/-- LINECFG (R59). -/
def execLinecfg (tag : Byte) (line tank interval kp ki factor span trace : Nat)
    (s : State) : Host.Outcome State Fault Refusal :=
  takeEvent (takeRequest 0x10 tag (reqLinecfg line tank interval kp ki factor span trace)) s

/-- PROBE (R30). -/
def execProbe (tag : Byte) (line hole stage : Nat) (redo : Bool) (s : State) : Host.Outcome State Fault Refusal :=
  takeEvent (takeRequest 0x18 tag (reqProbe line hole stage redo)) s

/-- BIND (R62). -/
def execBind (tag : Byte) (line hole stage : Nat) (redo : Bool) (s : State) : Host.Outcome State Fault Refusal :=
  takeEvent (takeRequest 0x19 tag (reqBind line hole stage redo)) s

/-- START (R64). -/
def execStart (tag : Byte) (line : Nat) (s : State) : Host.Outcome State Fault Refusal :=
  takeEvent (takeRequest 0x1A tag (reqStart line)) s

/-- PAUSE (R72). -/
def execPause (tag : Byte) (line : Nat) (holdTime decay : Option Nat) (s : State) : Host.Outcome State Fault Refusal :=
  takeEvent (takeRequest 0x1B tag (reqPause line holdTime decay)) s

/-- RESUME (R74). -/
def execResume (tag : Byte) (line : Nat) (s : State) : Host.Outcome State Fault Refusal :=
  takeEvent (takeRequest 0x1C tag (reqResume line)) s

/-- ABORT (R75). -/
def execAbort (tag : Byte) (line : Nat) (s : State) : Host.Outcome State Fault Refusal :=
  takeEvent (takeRequest 0x1D tag (reqAbort line)) s

/-- RELEASE (R76). -/
def execRelease (tag : Byte) (line : Nat) (s : State) : Host.Outcome State Fault Refusal :=
  takeEvent (takeRequest 0x1E tag (reqRelease line)) s

/-- QLINE (R37). -/
def execQline (tag : Byte) (line : Nat) (s : State) : Host.Outcome State Fault Refusal :=
  takeEvent (takeRequest 0x30 tag (reqQline line)) s

end Sys2Proof.Machine
end

