-- ==== Sys2Proof/Machine/LinkCommands.lean ====
section
/-! DEFINITION. The commands of the site link: one meaning for each, taken as one whole event (R100). -/

namespace Sys2Proof.Machine

/-- LINKCFG (R174). -/
def execLinkcfg (tag : Byte) (t1 t2 safe : Nat) (s : State) : Host.Outcome State Fault Refusal :=
  takeEvent (takeRequest 0x14 tag (reqLinkcfg t1 t2 safe)) s

/-- CLEARSAFE (R173). -/
def execClearsafe (tag : Byte) (s : State) : Host.Outcome State Fault Refusal :=
  takeEvent (takeRequest 0x29 tag reqClearsafe) s

/-- STATUS (R175). -/
def execStatus (tag : Byte) (s : State) : Host.Outcome State Fault Refusal :=
  takeEvent (takeRequest 0x28 tag reqStatus) s

/-- BYTE_ARRIVAL (R162). -/
def execByteArrival (byte : Byte) (stopError : Bool) (s : State) : Host.Outcome State Fault Refusal :=
  takeEvent (evByte byte stopError) s

/-- GAP_TIMER_EXPIRY (R164). -/
def execGapTimerExpiry (s : State) : Host.Outcome State Fault Refusal :=
  takeEvent evGap s

/-- FRAME_SENT (R168). -/
def execFrameSent (s : State) : Host.Outcome State Fault Refusal :=
  takeEvent evFrameSent s

/-- T1_EXPIRY (R170). -/
def execT1Expiry (s : State) : Host.Outcome State Fault Refusal :=
  takeEvent evT1Expiry s

/-- T2_EXPIRY (R171). -/
def execT2Expiry (s : State) : Host.Outcome State Fault Refusal :=
  takeEvent evT2Expiry s

end Sys2Proof.Machine
end

