-- ==== Sys2Proof/Machine/PlanCommands.lean ====
section
/-! DEFINITION. The commands of the plan store: one meaning for each, taken as one whole event (R100). -/

namespace Sys2Proof.Machine

/-- DEFSEC (R2). -/
def execDefsec (tag : Byte) (sec : Nat) (s : State) : Host.Outcome State Fault Refusal :=
  takeEvent (takeRequest 0x01 tag (reqDefsec sec)) s

/-- DEFHOLE (R5). -/
def execDefhole (tag : Byte) (hole sec order : Nat) (collar : Int) (neighbours : List Nat) (dfltSet zoneMask : Nat) (groundwater : Option Nat) (locked : Nat)
    (s : State) : Host.Outcome State Fault Refusal :=
  takeEvent (takeRequest 0x02 tag (reqDefhole hole sec order collar neighbours dfltSet zoneMask groundwater locked)) s

/-- DEFSTAGE (R10). -/
def execDefstage (tag : Byte) (hole stage top bottom length limitSet : Nat)
    (s : State) : Host.Outcome State Fault Refusal :=
  takeEvent (takeRequest 0x03 tag (reqDefstage hole stage top bottom length limitSet)) s

/-- DEFLIM (R13). -/
def execDeflim (tag : Byte) (set pmax gin tmax overshoot reliefLimit ramp refFlow refBand refTime breakDrop : Nat) (ladder : List (Nat × Nat))
    (s : State) : Host.Outcome State Fault Refusal :=
  takeEvent (takeRequest 0x04 tag (reqDeflim set pmax gin tmax overshoot reliefLimit ramp refFlow refBand refTime breakDrop ladder)) s

/-- DEFBAND (R16). -/
def execDefband (tag : Byte) (band : Nat) (upper lower : Int) (mask cap : Nat)
    (s : State) : Host.Outcome State Fault Refusal :=
  takeEvent (takeRequest 0x05 tag (reqDefband band upper lower mask cap)) s

/-- DEFMIX (R17). -/
def execDefmix (tag : Byte) (mix ratio density : Nat) (s : State) : Host.Outcome State Fault Refusal :=
  takeEvent (takeRequest 0x06 tag (reqDefmix mix ratio density)) s

/-- LOCK (R18). -/
def execLock (tag : Byte) (kind number : Nat) (s : State) : Host.Outcome State Fault Refusal :=
  takeEvent (takeRequest 0x07 tag (reqLock kind number)) s

/-- UNLOCK (R18). -/
def execUnlock (tag : Byte) (kind number : Nat) (s : State) : Host.Outcome State Fault Refusal :=
  takeEvent (takeRequest 0x08 tag (reqUnlock kind number)) s

/-- PURGE (R19). -/
def execPurge (tag : Byte) (sec : Nat) (s : State) : Host.Outcome State Fault Refusal :=
  takeEvent (takeRequest 0x09 tag (reqPurge sec)) s

/-- WIPE (R20). -/
def execWipe (tag : Byte) (s : State) : Host.Outcome State Fault Refusal :=
  takeEvent (takeRequest 0x0A tag reqWipe) s

/-- QSTAGE (R21). -/
def execQstage (tag : Byte) (hole stage : Nat) (s : State) : Host.Outcome State Fault Refusal :=
  takeEvent (takeRequest 0x33 tag (reqQstage hole stage)) s

/-- QHOLE (R21). -/
def execQhole (tag : Byte) (hole : Nat) (s : State) : Host.Outcome State Fault Refusal :=
  takeEvent (takeRequest 0x34 tag (reqQhole hole)) s

/-- QLIM (R21). -/
def execQlim (tag : Byte) (set : Nat) (s : State) : Host.Outcome State Fault Refusal :=
  takeEvent (takeRequest 0x35 tag (reqQlim set)) s

/-- QBAND (R21). -/
def execQband (tag : Byte) (band : Nat) (s : State) : Host.Outcome State Fault Refusal :=
  takeEvent (takeRequest 0x36 tag (reqQband band)) s

/-- QMIX (R21). -/
def execQmix (tag : Byte) (mix : Nat) (s : State) : Host.Outcome State Fault Refusal :=
  takeEvent (takeRequest 0x37 tag (reqQmix mix)) s

end Sys2Proof.Machine
end

