-- ==== Sys2Proof/Machine/TankCommands.lean ====
section
/-! DEFINITION. The requests of a tank, and the events its lines hand to it: one meaning for each, taken as one whole event (R100). -/

namespace Sys2Proof.Machine

/-- TANKCFG (R124). -/
def execTankcfg (tag : Byte) (tank reserve : Nat) (s : State) : Host.Outcome State Fault Refusal :=
  takeEvent (takeRequest 0x11 tag (reqTankcfg tank reserve)) s

/-- BATCH (R125). -/
def execBatch (tag : Byte) (tank mix volume : Nat) (s : State) : Host.Outcome State Fault Refusal :=
  takeEvent (takeRequest 0x20 tag (reqBatch tank mix volume)) s

/-- EMPTY (R126). -/
def execEmpty (tag : Byte) (tank : Nat) (s : State) : Host.Outcome State Fault Refusal :=
  takeEvent (takeRequest 0x21 tag (reqEmpty tank)) s

/-- QTANK (R127). -/
def execQtank (tag : Byte) (tank : Nat) (s : State) : Host.Outcome State Fault Refusal :=
  takeEvent (takeRequest 0x31 tag (reqQtank tank)) s

/-- TANK_DRAW (R123). -/
def execTankDraw (tank : TankId) (volume : Nat) (s : State) : Host.Outcome State Fault Refusal :=
  takeEvent (evTankDraw tank volume) s

/-- MIX_REQUEST (R128). -/
def execMixRequest (tank : TankId) (line : LineId) (mix : Nat) (s : State) : Host.Outcome State Fault Refusal :=
  takeEvent (evMixRequest tank line mix) s

/-- ADOPT (R132). -/
def execAdopt (tank : TankId) (line : LineId) (mix : Nat) (s : State) : Host.Outcome State Fault Refusal :=
  takeEvent (evAdopt tank line mix) s

/-- HEAD_EXAMINATION (R131). -/
def execHeadExamination (tank : TankId) (s : State) : Host.Outcome State Fault Refusal :=
  takeEvent (evHeadExamination tank) s

/-- TANK_NOTICE (R121). -/
def execTankNotice (line : LineId) (s : State) : Host.Outcome State Fault Refusal :=
  takeEvent (evTankNotice line) s

end Sys2Proof.Machine
end

