-- ==== Sys2Proof/Machine/UpliftCommands.lean ====
section
/-! DEFINITION. The commands of the uplift monitor: one meaning for each, taken as one whole event (R100). -/

namespace Sys2Proof.Machine

/-- GAUGECFG (R139). -/
def execGaugecfg (tag : Byte) (gauge enabled zone span : Nat) (s : State) : Host.Outcome State Fault Refusal :=
  takeEvent (takeRequest 0x12 tag (reqGaugecfg gauge enabled zone span)) s

/-- ZONECFG (R144). -/
def execZonecfg (tag : Byte) (zone warn trip derate routing : Nat) (s : State) : Host.Outcome State Fault Refusal :=
  takeEvent (takeRequest 0x13 tag (reqZonecfg zone warn trip derate routing)) s

/-- ZERO (R142). -/
def execZero (tag : Byte) (kind number : Nat) (s : State) : Host.Outcome State Fault Refusal :=
  takeEvent (takeRequest 0x24 tag (reqZero kind number)) s

/-- HCLEAR (R148). -/
def execHclear (tag : Byte) (zone : Nat) (s : State) : Host.Outcome State Fault Refusal :=
  takeEvent (takeRequest 0x25 tag (reqHclear zone)) s

/-- QGAUGE (R153). -/
def execQgauge (tag : Byte) (kind number : Nat) (s : State) : Host.Outcome State Fault Refusal :=
  takeEvent (takeRequest 0x32 tag (reqQgauge kind number)) s

/-- GAUGE_CONVERSION (R141). -/
def execGaugeConversion (count : Nat) (s : State) : Host.Outcome State Fault Refusal :=
  takeEvent (evGaugeConversion count) s

end Sys2Proof.Machine
end

