-- ==== Sys2Proof/Machine/Dispatch.lean ====
section
/-! DEFINITION. What each command does: one arm per command, each a direct call of its meaning. -/

namespace Sys2Proof.Machine

/-- The effect of a command on everything but the queue of waiting commands. -/
def exec (i : Instr) (s : State) : Host.Outcome State Fault Refusal :=
  match i with
  | .defsec tag sec => Sys2Proof.Machine.execDefsec tag sec s
  | .defhole tag hole sec order collar neighbours dfltSet zoneMask groundwater locked => Sys2Proof.Machine.execDefhole tag hole sec order collar neighbours dfltSet zoneMask groundwater locked s
  | .defstage tag hole stage top bottom length limitSet => Sys2Proof.Machine.execDefstage tag hole stage top bottom length limitSet s
  | .deflim tag set pmax gin tmax overshoot reliefLimit ramp refFlow refBand refTime breakDrop ladder => Sys2Proof.Machine.execDeflim tag set pmax gin tmax overshoot reliefLimit ramp refFlow refBand refTime breakDrop ladder s
  | .defband tag band upper lower mask cap => Sys2Proof.Machine.execDefband tag band upper lower mask cap s
  | .defmix tag mix ratio density => Sys2Proof.Machine.execDefmix tag mix ratio density s
  | .lock tag kind number => Sys2Proof.Machine.execLock tag kind number s
  | .unlock tag kind number => Sys2Proof.Machine.execUnlock tag kind number s
  | .purge tag sec => Sys2Proof.Machine.execPurge tag sec s
  | .wipe tag => Sys2Proof.Machine.execWipe tag s
  | .qstage tag hole stage => Sys2Proof.Machine.execQstage tag hole stage s
  | .qhole tag hole => Sys2Proof.Machine.execQhole tag hole s
  | .qlim tag set => Sys2Proof.Machine.execQlim tag set s
  | .qband tag band => Sys2Proof.Machine.execQband tag band s
  | .qmix tag mix => Sys2Proof.Machine.execQmix tag mix s
  | .linecfg tag line tank interval kp ki factor span trace => Sys2Proof.Machine.execLinecfg tag line tank interval kp ki factor span trace s
  | .probe tag line hole stage redo => Sys2Proof.Machine.execProbe tag line hole stage redo s
  | .bind tag line hole stage redo => Sys2Proof.Machine.execBind tag line hole stage redo s
  | .start tag line => Sys2Proof.Machine.execStart tag line s
  | .pause tag line holdTime decay => Sys2Proof.Machine.execPause tag line holdTime decay s
  | .resume tag line => Sys2Proof.Machine.execResume tag line s
  | .abort tag line => Sys2Proof.Machine.execAbort tag line s
  | .release tag line => Sys2Proof.Machine.execRelease tag line s
  | .tankcfg tag tank reserve => Sys2Proof.Machine.execTankcfg tag tank reserve s
  | .batch tag tank mix volume => Sys2Proof.Machine.execBatch tag tank mix volume s
  | .empty tag tank => Sys2Proof.Machine.execEmpty tag tank s
  | .qtank tag tank => Sys2Proof.Machine.execQtank tag tank s
  | .gaugecfg tag gauge enabled zone span => Sys2Proof.Machine.execGaugecfg tag gauge enabled zone span s
  | .zonecfg tag zone warn trip derate routing => Sys2Proof.Machine.execZonecfg tag zone warn trip derate routing s
  | .zero tag kind number => Sys2Proof.Machine.execZero tag kind number s
  | .hclear tag zone => Sys2Proof.Machine.execHclear tag zone s
  | .qgauge tag kind number => Sys2Proof.Machine.execQgauge tag kind number s
  | .qline tag line => Sys2Proof.Machine.execQline tag line s
  | .linkcfg tag t1 t2 safe => Sys2Proof.Machine.execLinkcfg tag t1 t2 safe s
  | .clearsafe tag => Sys2Proof.Machine.execClearsafe tag s
  | .status tag => Sys2Proof.Machine.execStatus tag s
  | .byteArrival byte stopError => Sys2Proof.Machine.execByteArrival byte stopError s
  | .gapTimerExpiry => Sys2Proof.Machine.execGapTimerExpiry s
  | .frameSent => Sys2Proof.Machine.execFrameSent s
  | .t1Expiry => Sys2Proof.Machine.execT1Expiry s
  | .t2Expiry => Sys2Proof.Machine.execT2Expiry s
  | .sample line current => Sys2Proof.Machine.execSample line current s
  | .holdTimerExpiry line => Sys2Proof.Machine.execHoldTimerExpiry line s
  | .localKeyChange line asserted => Sys2Proof.Machine.execLocalKeyChange line asserted s
  | .flowmeterPulse line => Sys2Proof.Machine.execFlowmeterPulse line s
  | .tankDraw tank volume => Sys2Proof.Machine.execTankDraw tank volume s
  | .mixRequest tank line mix => Sys2Proof.Machine.execMixRequest tank line mix s
  | .adopt tank line mix => Sys2Proof.Machine.execAdopt tank line mix s
  | .headExamination tank => Sys2Proof.Machine.execHeadExamination tank s
  | .tankNotice line => Sys2Proof.Machine.execTankNotice line s
  | .gaugeConversion count => Sys2Proof.Machine.execGaugeConversion count s
  | .supplyFailure => Sys2Proof.Machine.execSupplyFailure s
  | .powerOn batteryLow backupLost loopIsOpen keys => Sys2Proof.Machine.execPowerOn batteryLow backupLost loopIsOpen keys s
  | .batteryChange low => Sys2Proof.Machine.execBatteryChange low s
  | .loopOpen => Sys2Proof.Machine.execLoopOpen s
  | .loopClosed => Sys2Proof.Machine.execLoopClosed s

end Sys2Proof.Machine
end

