-- ==== Sys2Proof/WellFormed.lean ====
section
/-! DEFINITION. Well-formed commands: the operands of a request fit the widths in which its frame carries them (section
11.4), and the operands of an event lie in the ranges the field or the handing block gives them (R41, R45, R141). What a
request's own rule judges (a line number 0, a flag 2) is well formed here and refused there (R178). -/

namespace Sys2Proof

/-- Fits a u8. -/
def fits8 (n : Nat) : Bool := decide (n < 256)
/-- Fits a u16. -/
def fits16 (n : Nat) : Bool := decide (n < 65536)
/-- Fits a u32. -/
def fits32 (n : Nat) : Bool := decide (n < 4294967296)
/-- Fits an s16. -/
def fitsS16 (n : Int) : Bool := decide (-32768 ≤ n) && decide (n ≤ 32767)
/-- An optional u16 fits. -/
def fitsOpt16 (n : Option Nat) : Bool := n.all fits16
/-- A mix code (R17). -/
def isMixCode (n : Nat) : Bool := decide (1 ≤ n) && decide (n ≤ 8)

/-- A command is well formed. -/
def Instr.wellFormed : Instr → Bool
  | .defsec _ s => fits8 s
  | .defhole _ h s o c ns d z g lk =>
    fits16 h && fits8 s && fits8 o && fitsS16 c && decide (ns.length ≤ 2) && ns.all fits16 && fits8 d && fits8 z
      && fitsOpt16 g && fits8 lk
  | .defstage _ h st t b len ls => fits16 h && fits8 st && fits16 t && fits16 b && fits8 len && fits8 ls
  | .deflim _ set p g t o rl r rf b ti d l =>
    fits8 set && fits16 p && fits16 g && fits16 t && fits16 o && fits8 rl && fits16 r && fits8 rf && fits16 b && fits16 ti
      && fits16 d && decide (l.length ≤ 4) && l.all (fun x => fits8 x.1 && fits16 x.2)
  | .defband _ b u l m c => fits8 b && fitsS16 u && fitsS16 l && fits8 m && fits16 c
  | .defmix _ m r d => fits8 m && fits16 r && fits16 d
  | .lock _ k n => fits8 k && fits16 n
  | .unlock _ k n => fits8 k && fits16 n
  | .purge _ s => fits8 s
  | .wipe _ => true
  | .qstage _ h st => fits16 h && fits8 st
  | .qhole _ h => fits16 h
  | .qlim _ s => fits8 s
  | .qband _ b => fits8 b
  | .qmix _ m => fits8 m
  | .linecfg _ l t i kp ki f s n =>
    fits8 l && fits8 t && fits16 i && fits8 kp && fits8 ki && fits16 f && fits16 s && fits8 n
  | .probe _ l h st _ => fits8 l && fits16 h && fits8 st
  | .bind _ l h st _ => fits8 l && fits16 h && fits8 st
  | .start _ l => fits8 l
  | .pause _ l h d => fits8 l && fitsOpt16 h && fitsOpt16 d
  | .resume _ l => fits8 l
  | .abort _ l => fits8 l
  | .release _ l => fits8 l
  | .tankcfg _ t r => fits8 t && fits32 r
  | .batch _ t m v => fits8 t && fits8 m && fits16 v
  | .empty _ t => fits8 t
  | .qtank _ t => fits8 t
  | .gaugecfg _ g e z s => fits8 g && fits8 e && fits8 z && fits16 s
  | .zonecfg _ z w t d r => fits8 z && fits16 w && fits16 t && fits8 d && fits8 r
  | .zero _ k n => fits8 k && fits8 n
  | .hclear _ z => fits8 z
  | .qgauge _ k n => fits8 k && fits8 n
  | .qline _ l => fits8 l
  | .linkcfg _ a b s => fits16 a && fits16 b && fits8 s
  | .clearsafe _ => true
  | .status _ => true
  | .byteArrival _ _ => true
  | .gapTimerExpiry => true
  | .frameSent => true
  | .t1Expiry => true
  | .t2Expiry => true
  | .sample _ i => decide (i ≤ 25000)
  | .holdTimerExpiry _ => true
  | .localKeyChange _ _ => true
  | .flowmeterPulse _ => true
  | .tankDraw _ v => decide (1 ≤ v) && decide (v ≤ 65535000)
  | .mixRequest _ _ m => isMixCode m
  | .adopt _ _ m => isMixCode m
  | .headExamination _ => true
  | .tankNotice _ => true
  | .gaugeConversion c => fits16 c
  | .supplyFailure => true
  | .powerOn _ _ _ _ => true
  | .batteryChange _ => true
  | .loopOpen => true
  | .loopClosed => true

end Sys2Proof
end

