-- ==== Sys2Proof/Safety.lean ====
section
/-! DEFINITION. The terms claims are stated in: what the transmitter still has to send, when a request is taken plainly, how
a taken request or event leaves the link, and the invariants of the part that make a run safe. -/

namespace Sys2Proof.Machine

/-! ### What the part has to send -/

/-- The answers not yet sent in full, oldest first: the one in transmission, if it is an answer, then those that wait. -/
def State.answersOut (s : State) : List Answer :=
  (match s.link.tx with
   | some (.answer a) => [a]
   | _ => []) ++ s.link.answers

/-- The reports not yet sent in full, oldest first: the one in transmission, if it is a report, then those that wait. -/
def State.reportsOut (s : State) : List Report :=
  (match s.link.tx with
   | some (.report r) => [r]
   | _ => []) ++ s.link.reports

/-- `n` more reports fit into the report queue (R167). -/
def State.roomFor (s : State) (n : Nat) : Prop := s.link.reports.length + n ≤ Config.maxReports

/-- A request is taken with no more from the supervision than T1's reload: the supply is good, the link is OK and fewer than
8 answers wait (R155, R166, R169). -/
structure State.Listening (s : State) : Prop where
  good : s.supply.failed = false
  ok : s.link.state = .ok
  room : s.link.answers.length < Config.maxAnswers

/-- From `s` to `t` the link has changed in nothing but T1, which is `t1`, the reports, and the answers. -/
structure LinkKept (s t : State) (t1 : Option Nat) : Prop where
  framer : t.link.framer = s.link.framer
  gap : t.link.gap = s.link.gap
  state : t.link.state = s.link.state
  t1 : t.link.t1 = t1
  t2 : t.link.t2 = s.link.t2
  safeLatch : t.link.safeLatch = s.link.safeLatch

/-- From `s` to `t` a request was taken in OK and answered (R165, R168, R169): T1 is reloaded, and the answer of this kind
and tag, with this result and body, stands behind the answers before it. The reports are left open. -/
structure AnsweredBy (s t : State) (kind tag : Byte) (result : Result) (body : List Byte) : Prop where
  link : LinkKept s t (some (s.store.linkCfg.t1 * 1000))
  answers : t.answersOut = s.answersOut ++ [{ kind := kind, tag := tag, reply := { result := result, body := body } }]

/-- As `AnsweredBy`, with exactly these reports queued behind those before, and the missed flag as it was. -/
structure Answered (s t : State) (kind tag : Byte) (result : Result) (body : List Byte) (reports : List Report) : Prop where
  by_ : AnsweredBy s t kind tag result body
  reports : t.reportsOut = s.reportsOut ++ reports
  missed : t.link.missed = s.link.missed

/-- The request, taken in `s`, is answered so and changes nothing else of the part: nothing but the link moves, and no report
is queued. -/
def AnswersOnly (c : Instr) (s : State) (kind tag : Byte) (result : Result) (body : List Byte) : Prop :=
  ∃ t, exec c s = .next t ∧ t = { s with link := t.link } ∧ Answered s t kind tag result body []

/-- From `s` to `t` an event was taken that is no request: nothing is answered, and exactly these reports are queued. -/
structure Reported (s t : State) (reports : List Report) : Prop where
  link : LinkKept s t s.link.t1
  answers : t.answersOut = s.answersOut
  reports : t.reportsOut = s.reportsOut ++ reports
  missed : t.link.missed = s.link.missed

/-! ### What a line enters -/

/-- What a line with this context enters when it leaves BOUND, HOLD or STARVED with the effective pressure `pe` (R64 to R67,
R70): INJECT where its tank holds the current step's mix above the reserve, and STARVED otherwise, with cause MIX, and a
request for the current step's mix where none is pending, where the tank holds another mix. An entry to INJECT
clears the starve cause (log entry 41). -/
def State.entry (s : State) (c : Context) (pe : Nat) : Phase × Context :=
  match (s.tank c.tank).mix with
  | none => (.starved, { c with u := 0, starve := some .supply })
  | some m =>
    if m ≠ c.mix then
      (.starved, { c with u := 0, starve := some .mix, pendingReq := some (c.pendingReq.getD c.mix) })
    else if s.reserve c.tank < (s.tank c.tank).contents then
      (.inject, { c with pRamp := pe, u := 0, first := true, starve := none })
    else (.starved, { c with u := 0, starve := some .supply })

/-- The hand-off of a line whose context has gone from `before` to `after`: its mix request, if it has raised one. -/
def raised (l : LineId) (before after : Context) : List Instr :=
  if before.pendingReq.isSome then []
  else match after.pendingReq with
    | none => []
    | some m => [.mixRequest after.tank l m]

/-- The hand-off of a line that leaves this state: out of INJECT its tank is notified (R65). -/
def leaving (p : Phase) (c : Context) : List Instr := if p = .inject then [.headExamination c.tank] else []

/-! ### What an ending leaves -/

/-- From `s` to `t` a line that held `v` has entered DRAIN with outcome `o` at an event that is no sample (R77, R107 to R109):
the entry actions are made, the end latch holds the values of the line's latest sample, the notices on their way say nothing more
of its request (log entry 26), and the permit is open. -/
structure Drained (s t : State) (l : LineId) (v : Live) (o : PassOutcome) : Prop where
  live : t.live l = some
    { phase := .drain
      ctx := { v.ctx with
        u := -1000, hold := HoldSet.none, starve := none, refusalTimer := 0
        pendingReq := none }
      latch := some
        { outcome := o, finalTake := v.ctx.take, finalPe := v.ctx.lastPe, finalProduct := v.ctx.lastPe * v.ctx.take,
          maxPe := v.ctx.maxPe, finalStep := v.ctx.step, reliefCount := v.ctx.reliefCount
          snapshot := some
            { uptime := s.uptime, phase := v.phase, pg := v.ctx.lastPg, pe := v.ctx.lastPe, q := v.ctx.lastQ,
              vol := v.ctx.vol, take := v.ctx.take, ptgt := v.ctx.lastPtgt, cap := v.ctx.lastCap, u := v.ctx.u }
          drainTime := 0 } }
  permitDrop : (t.line l).permitDrop = false
  notices : (t.line l).notices = (s.line l).notices.map (fun n => { n with pend := none })
  permit : t.permit l = false

/-- A LINE report of line `l` (R84). -/
def lineChange (s : State) (l : LineId) (before after : Phase) (cause : Option Cause) (hold : HoldSet)
    (starve : Option StarveCause) (cond : Option Release) : Report :=
  .line { uptime := s.uptime, line := l, before := before, after := after, cause := cause, hold := hold, starve := starve,
          cond := cond }

/-- The bytes taken one after another, each as a BYTE_ARRIVAL without a stop-bit error. -/
def feed (bytes : List Byte) (s : State) : Host.Outcome State Fault Refusal :=
  bytes.foldl
    (fun o b =>
      match o with
      | .next s => exec (.byteArrival b false) s
      | stop => stop)
    (.next s)

/-! ### What a tank event leaves -/

/-- From `s` to `t` tank `k` has sent a plain notice to each of its bound lines, behind those the line has not taken (R121, log
entry 9). -/
structure Notified (s t : State) (k : TankId) : Prop where
  lines : ∀ l, t.line l =
    if (s.ctx l).any (fun c => c.tank == k) then
      { s.line l with notices := (s.line l).notices ++ [Notice.plain] }
    else s.line l
  handed : t.handoffs = s.handoffs ++ (s.boundLines k).map .tankNotice

/-- The step that a line bound to tank `k` moves to when it follows mix `m`: the step of `m`, where its ladder holds `m` at its
current step or a later one (R130). -/
def State.followedStep (s : State) (k : TankId) (m : Nat) (l : LineId) : Option Nat :=
  (s.ctx l).bind (fun c => if c.tank = k then laterStep c.ladder ((s.line l).step c) m else none)

/-- A line bound to tank `k` follows mix `m` (R130). -/
def State.follows (s : State) (k : TankId) (m : Nat) (l : LineId) : Bool := (s.followedStep k m l).isSome

/-- The followers of a change of tank `k` to mix `m`, each with its step, in the order of the lines' numbers (R136). -/
def State.followers (s : State) (k : TankId) (m : Nat) : List (LineId × Nat) :=
  allLines.filterMap (fun l => (s.followedStep k m l).map (fun j => (l, j)))

/-- The lines that a change of tank `k` to mix `m` leaves mismatched (R130, R136). -/
def State.mismatched (s : State) (k : TankId) (m : Nat) : LineSet :=
  lineMask (fun l => (s.ctx l).any (fun c => c.tank == k) && !s.follows k m l)

/-- The entries a change of tank `k` to mix `m` leaves in a queue: those of the lines that do not follow (R130). -/
def State.leftIn (s : State) (k : TankId) (m : Nat) (queue : List (LineId × Nat)) : List (LineId × Nat) :=
  queue.filter (fun q => !s.follows k m q.1)

/-- The MIXREQ reports of a change of tank `k` to mix `m` over this queue, in the order of the lines' numbers: GRANTED for the
requester, SATISFIED for a follower whose entry named `m`, WITHDRAWN for one whose entry named another mix (R130, R137). -/
def State.settledReports (s : State) (k : TankId) (m : Nat) (queue : List (LineId × Nat)) (granted : Option LineId) :
    List Report :=
  allLines.flatMap (fun l =>
    match s.followedStep k m l with
    | none => []
    | some j =>
      (queue.find? (fun q => q.1 == l)).toList.map (fun q =>
        .mixreq
          { tank := k, line := l, mix := q.2, position := 0, step := j
            disposition := if granted = some l then .granted else if q.2 = m then .satisfied else .withdrawn }))

/-- From `s` to `t` tank `k` has settled its bound lines against mix `m` (R130, R121): each has one notice more, a follower's
with the step of `m` and its request cleared, reported where this queue held an entry of the line, another's with the mismatch,
handed over in the order of the lines' numbers. -/
structure SettledOn (s t : State) (k : TankId) (m : Nat) (queue : List (LineId × Nat)) : Prop where
  lines : ∀ l, t.line l =
    if (s.ctx l).any (fun c => c.tank == k) then
      { s.line l with notices := (s.line l).notices ++
          [match s.followedStep k m l with
           | some j =>
             { step := some j, pend := some none, mismatch := some false, reported := queue.any (fun q => q.1 == l) }
           | none => { step := none, pend := none, mismatch := some true, reported := false }] }
    else s.line l
  handed : t.handoffs = s.handoffs ++ (s.boundLines k).map .tankNotice

/-- Another line bound to tank `k` than `l` is proving refusal, which withholds a changeover that `l` asks for (R133). -/
def State.refuses (s : State) (k : TankId) (l : LineId) : Prop :=
  ∃ x c, x ≠ l ∧ s.ctx x = some c ∧ c.tank = k ∧ 0 < c.refusalTimer

/-- The tank awaits a batch before it may change over again (R133). -/
def Tank.awaits (tk : Tank) : Prop := tk.batchSince = false ∧ tk.changeMade = true

/-- A tank after a changeover to mix `m` that leaves this queue (R134). -/
def Tank.changedOver (tk : Tank) (m : Nat) (queue : List (LineId × Nat)) : Tank :=
  { tk with waste := tk.waste + tk.contents, contents := 0, mix := some m, batchSince := false, changeMade := true,
            queue := queue }

/-- A TANK report of tank `k` as it stands in `t` after it stood as in `s` (R136). -/
def tankChange (s t : State) (k : TankId) (e : TankEvent) (requester : Option LineId) (followers : List (LineId × Nat))
    (mismatched : LineSet) : Report :=
  .tank
    { uptime := s.uptime, tank := k, event := e, stateBefore := s.tankState k, stateAfter := t.tankState k,
      mixBefore := (s.tank k).mix, mixAfter := (t.tank k).mix, contents := (t.tank k).contents, reserve := t.reserve k,
      delivered := (t.tank k).delivered, drawn := (t.tank k).drawn, waste := (t.tank k).waste,
      overdraw := (t.tank k).overdraw, wasteNow := (t.tank k).waste - (s.tank k).waste, requester := requester,
      followers := followers, mismatched := mismatched }

/-! ### What an event from outside leaves on every line -/

/-- What each line that is not IDLE hands over, in the order of the lines' numbers. -/
def State.handedBy (s : State) (f : LineId → Live → List Instr) : List Instr :=
  allLines.flatMap (fun l => (s.live l).elim [] (f l))

/-- From `s` to `t` a hold cause from outside was imposed on the lines whose context satisfies `on` (R69, R149, R151, R170): in
INJECT, RELIEF and STARVED they enter HOLD with it, those out of INJECT having their tank examine its queue; in HOLD they add
it; and nothing else of any line or tank changes. -/
structure HeldOn (s t : State) (on : Context → Bool) (add : HoldSet → HoldSet) : Prop where
  entered : ∀ l v, s.live l = some v → on v.ctx = true → v.phase = .inject ∨ v.phase = .relief ∨ v.phase = .starved →
    t.live l = some
      { phase := .hold, latch := v.latch
        ctx := { v.ctx with
          hold := add HoldSet.none, u := 0, starve := none
          refusalTimer := if v.phase = .inject then 0 else v.ctx.refusalTimer } }
  added : ∀ l v, s.live l = some v → on v.ctx = true → v.phase = .hold →
    t.live l = some { v with ctx := { v.ctx with hold := add v.ctx.hold } }
  kept : ∀ l, (∀ v, s.live l = some v → on v.ctx = true → v.phase ∉ [Phase.inject, .relief, .starved, .hold]) →
    t.live l = s.live l
  others : ∀ l, t.line l = { s.line l with live := t.live l }
  tanks : t.tanks = s.tanks
  handed : t.handoffs = s.handoffs ++ s.handedBy (fun _ v => if on v.ctx then leaving v.phase v.ctx else [])

/-- A line in HOLD holds this cause alone. -/
def Live.holdsOnly (v : Live) (cause : Cause) : Bool :=
  v.phase == .hold && v.ctx.hold.holds cause && (v.ctx.hold.drop cause).isEmpty

/-- From `s` to `t` a hold cause was released on the lines that hold it and whose context satisfies `on` (R70, R151, R172): a
line whose set is then empty leaves HOLD from its last p_e, with its mix request if it raises one; and nothing else of any line
or tank changes. -/
structure ReleasedOn (s t : State) (on : Context → Bool) (cause : Cause) : Prop where
  left : ∀ l v, s.live l = some v → on v.ctx = true → v.holdsOnly cause = true →
    let e := s.entry { v.ctx with hold := v.ctx.hold.drop cause } v.ctx.lastPe
    t.live l = some { phase := e.1, ctx := e.2, latch := v.latch }
  stayed : ∀ l v, s.live l = some v → on v.ctx = true → v.phase = .hold → v.ctx.hold.holds cause = true →
    (v.ctx.hold.drop cause).isEmpty = false →
    t.live l = some { v with ctx := { v.ctx with hold := v.ctx.hold.drop cause } }
  kept : ∀ l, (∀ v, s.live l = some v → on v.ctx = true → v.phase = .hold → v.ctx.hold.holds cause = false) →
    t.live l = s.live l
  others : ∀ l, t.line l = { s.line l with live := t.live l }
  tanks : t.tanks = s.tanks
  handed : t.handoffs = s.handoffs ++ s.handedBy (fun l v =>
    if on v.ctx && v.holdsOnly cause then
      raised l v.ctx (s.entry { v.ctx with hold := v.ctx.hold.drop cause } v.ctx.lastPe).2
    else [])

/-- A line is in a started state and its context satisfies `on`. -/
def State.startedOn (s : State) (on : Context → Bool) (l : LineId) : Bool :=
  (s.live l).any (fun v => v.phase.started && on v.ctx)

/-- The queue of tank `k` without the entries of the lines that satisfy `p` and are bound to it. -/
def State.queueWithout (s : State) (k : TankId) (p : LineId → Bool) : List (LineId × Nat) :=
  (s.tank k).queue.filter (fun q => !(p q.1 && (s.ctx q.1).any (fun c => c.tank == k)))

/-- From `s` to `t` the started lines whose context satisfies `on` were drained with this outcome, one after another in the
order of their numbers, and every other line stands as it was (R77, R82, R129, R149, R171): their entries have left the tanks'
queues, nothing else of a tank has changed, and a tank examines its queue for each line that left INJECT and for each entry
that left as the head. -/
structure DrainedOn (s t : State) (on : Context → Bool) (o : PassOutcome) : Prop where
  drained : ∀ l v, s.live l = some v → on v.ctx = true → v.phase.started = true → Drained s t l v o
  kept : ∀ l, (∀ v, s.live l = some v → on v.ctx = true → v.phase.started = false) → t.line l = s.line l
  others : ∀ l, (t.line l).key = (s.line l).key ∧ (t.line l).fe = (s.line l).fe ∧
    (t.line l).sampleTimer = (s.line l).sampleTimer ∧ (t.line l).traceCounter = (s.line l).traceCounter
  tanks : ∀ k, t.tank k = { s.tank k with queue := s.queueWithout k (s.startedOn on) }
  handed : t.handoffs = s.handoffs ++ s.handedBy (fun l v =>
    if v.phase.started && on v.ctx then
      leaving v.phase v.ctx ++
        (if (s.queueWithout v.ctx.tank (fun x => decide (x < l) && s.startedOn on x)).head?.any (fun q => q.1 == l) then
          [.headExamination v.ctx.tank] else [])
    else [])

/-- From `s` to `t` the routing `r` of zone `z` has acted on the zone's lines (R149). -/
def Routed (s t : State) (z : ZoneId) : Routing → Prop
  | .stop => DrainedOn s t (fun c => hasZone c.zones z) .heave
  | .hold => HeldOn s t (fun c => hasZone c.zones z) (fun h => { h with heave := some (h.heave.getD 0 ||| oneZone z) })
  | .report => t.lines = s.lines ∧ t.tanks = s.tanks ∧ t.handoffs = s.handoffs

/-! ### What a sample leaves -/

/-- The running image of a line in this state with this context (R9, R103; log entries 32 and 40). -/
def State.imageOf (s : State) (p : Phase) (c : Context) : RunningImage :=
  { snap :=
      { uptime := s.uptime, phase := p, pg := c.lastPg, pe := c.lastPe, q := c.lastQ, vol := c.vol, take := c.take,
        ptgt := c.lastPtgt, cap := c.lastCap, u := c.u }
    maxPe := c.maxPe, reliefCount := c.reliefCount, step := c.step
    elapsed := secondsSince s.uptime (c.startUptime.getD s.uptime), refusalTimer := c.refusalTimer }

/-- From `s` to `t` the store update of a sample was made (R9, R47): the stage of this context has grown by `dv` and, while
ACTIVE, shows the line in state `p` with this context; every other stage stands as it was. -/
def StageSampled (s t : State) (p : Phase) (c : Context) (dv : Nat) : Prop :=
  ∀ k, tfind t.store.stages k = (tfind s.store.stages k).map (fun st =>
    if k = stageKey c.hole c.stage then
      { st with
        passVol := st.passVol + dv, cumVol := st.cumVol + dv
        image := if st.status = .active then some (s.imageOf p c) else st.image }
    else st)

/-- The trace counter of a line after a sample that advances it (R97). -/
def State.nextTrace (s : State) (l : LineId) : Nat :=
  if (s.lineCfg l).trace = 0 then (s.line l).traceCounter
  else if (s.line l).traceCounter + 1 = (s.lineCfg l).trace then 0
  else (s.line l).traceCounter + 1

/-- The TRACE report of a sample from `s` to `t` that leaves the line in state `p` with this context, where one is due: when
the counter reaches a trace count that is not 0 (R97). -/
def traceReports (s t : State) (l : LineId) (p : Phase) (c : Context) (pint : BitVec 32) : List Report :=
  if (s.lineCfg l).trace ≠ 0 ∧ (s.line l).traceCounter + 1 = (s.lineCfg l).trace then
    [.trace
      { uptime := s.uptime, line := l, phase := p, ctx := c, pint := pint, permit := t.permit l
        permitDrop := (t.line l).permitDrop, fault := (t.line l).fe.fault }]
  else []

/-- P_int as a TRACE report carries it (R87, R177). -/
def tracedInt (gin take : Nat) : BitVec 32 := if take = 0 then 0xFFFFFFFF else BitVec.ofNat 32 (gin * 1000 / take)

/-- From `s` to `t` a sample at this current has left line `l`, which held `v` in a started state, in state `p` with context `x`:
the store update, the draw, the hand-offs `handed` after it, the trace counter, and these reports with the TRACE report that is
due behind them (R9, R46, R97). -/
def SampledTo (s t : State) (l : LineId) (v : Live) (current : Nat) (p : Phase) (x : Context) (handed : List Instr)
    (reports : List Report) : Prop :=
  let dv := (s.read l current v.ctx.lastPg).dv
  t = { s with
    store := { s.store with stages := t.store.stages }
    lines := s.lines.set l
      { s.line l with
        live := some { phase := p, ctx := x, latch := v.latch }
        sampleTimer := some (s.lineCfg l).interval
        traceCounter := s.nextTrace l
        fe := { (s.line l).fe with fault := !loopInRange current, count := 0 } }
    handoffs := s.handoffs ++ (if dv = 0 then [] else [.tankDraw v.ctx.tank dv]) ++ handed
    link := t.link } ∧
  StageSampled s t p x dv ∧
  Reported s t (reports ++ traceReports s t l p x (tracedInt x.limits.gin x.take))

/-- The reports of a line that held `v` in state `p` and enters DRAIN at a sample, before a TRACE report (R84, R129, R137):
the LINE report of an exit from HOLD, STARVED or LOCAL, and the MIXREQ report of the request withdrawn, unless the
tank has reported its end (log entry 26). -/
def drainReports (s : State) (l : LineId) (v : Live) (p : Phase) : List Report :=
  (if p = .hold ∨ p = .starved ∨ p = .localPanel then [lineChange s l p .drain none HoldSet.none none none] else []) ++
    ((s.line l).unreported v.ctx).toList.map (fun m => Report.mixreq
      { tank := v.ctx.tank, line := l, mix := m, disposition := .withdrawn, position := 0, step := v.ctx.step })

/-- From `s` to `t` a sample at this current has drained line `l`, which held `v`, with this end latch and context `x` (R77, R89,
R108, R129): the store update and the draw; its request has left the tank's queue, and the tank examines its queue where the line
left INJECT, where its entry was the head, and where the hand-offs `noticed` say; these reports are queued, then that of TRACE. -/
structure DrainedAtSample (s t : State) (l : LineId) (v : Live) (current : Nat) (e : EndLatch) (x : Context)
    (noticed : List Instr) (reports : List Report) : Prop where
  state : t = { s with
    store := { s.store with stages := t.store.stages }
    lines := s.lines.set l
      { s.line l with
        live := some { phase := .drain, ctx := x, latch := some e }
        permitDrop := false
        sampleTimer := some (s.lineCfg l).interval
        traceCounter := s.nextTrace l
        fe := { (s.line l).fe with fault := !loopInRange current, count := 0 }
        notices := (s.line l).notices.map (fun n => { n with pend := none }) }
    tanks := s.tanks.set v.ctx.tank
      { s.tank v.ctx.tank with queue := (s.tank v.ctx.tank).queue.filter (fun q => q.1 != l) }
    handoffs := s.handoffs ++
      (if (s.read l current v.ctx.lastPg).dv = 0 then []
        else [.tankDraw v.ctx.tank (s.read l current v.ctx.lastPg).dv]) ++
      leaving v.phase v.ctx ++
      (if (s.tank v.ctx.tank).queue.head?.any (fun q => q.1 == l) then [.headExamination v.ctx.tank] else []) ++ noticed
    link := t.link }
  stage : StageSampled s t .drain x (s.read l current v.ctx.lastPg).dv
  link : LinkKept s t s.link.t1
  answers : t.answersOut = s.answersOut
  reports : s.roomFor 4 → Reported s t (reports ++ traceReports s t l .drain x (tracedInt x.limits.gin x.take))

/-! ### What an event of the uplift monitor leaves -/

/-- A gauge takes part in a zone with this displacement (R138). -/
def State.takesPartAt (s : State) (z : ZoneId) (g : GaugeId) (d : Int) : Prop :=
  (s.gaugeCfg g).enabled = true ∧ (s.gaugeCfg g).zone = z ∧ (s.gauge g).fault = false ∧
    ∃ r, (s.gauge g).reading = some r ∧ d = r - (s.gaugeCfg g).baseline

/-- Some gauge taking part in the zone stands at or beyond `limit`. -/
def State.reaches (s : State) (z : ZoneId) (limit : Nat) : Prop := ∃ g d, s.takesPartAt z g d ∧ (limit : Int) ≤ d

/-- From `s` to `t` the zones of `judged` have been judged against warn, with the gauges and thresholds of `t`, and no other
zone has (R145, R146). -/
structure Judged (s t : State) (judged : ZoneId → Prop) : Prop where
  latch : ∀ z, t.latched z = s.latched z
  enters : ∀ z, judged z → s.latched z = false → s.warned z = false →
    (t.warned z = true ↔ t.reaches z (t.zoneCfg z).warn)
  leaves : ∀ z, judged z → s.latched z = false → s.warned z = true →
    (t.warned z = true ↔ t.reaches z ((t.zoneCfg z).warn - (t.zoneCfg z).warn / 10))
  kept : ∀ z, ¬judged z ∨ s.latched z = true → t.warned z = s.warned z

/-- The scanner dwells on the next enabled gauge above `g`, wrapping from G16 to G1, or is idle where none is enabled (R140). -/
def State.movedOn (s : State) (g : GaugeId) : Prop :=
  (s.scan = none ∧ ∀ n, (s.gaugeCfg n).enabled = false) ∨
    ∃ n, s.scan = some { gauge := n, left := Config.dwellTime } ∧ (s.gaugeCfg n).enabled = true ∧
      ∀ m, (s.gaugeCfg m).enabled = true → (n - g - 1).val ≤ (m - g - 1).val

/-- A HEAVE report of zone `z` as it stands in `t` after it stood as in `s` (R152). -/
def zoneChange (s t : State) (z : ZoneId) (e : HeaveEvent) (acts : List (LineId × LineAction)) : Report :=
  .zoneHeave
    { uptime := s.uptime, event := e, zone := z, before := s.zoneState z, after := t.zoneState z,
      routing := (t.zoneCfg z).routing, largest := t.largest z, faulted := t.faultedGauges z, lines := acts }

/-- The HEAVE reports of those of the zones `zs` whose state has changed from `s` to `t`, in this order, with the lines of
each that the event acted on (R152). -/
def zoneChanges (s t : State) (zs : List ZoneId) (e : HeaveEvent) (acts : ZoneId → List (LineId × LineAction)) : List Report :=
  (zs.filter (fun z => s.zoneState z != t.zoneState z)).map (fun z => zoneChange s t z e (acts z))

/-- A HEAVE report of gauge `g` as it stands in `t`, for zone `z` (R152). -/
def gaugeChange (s t : State) (g : GaugeId) (z : ZoneId) (e : HeaveEvent) (acts : List (LineId × LineAction)) : Report :=
  .gaugeHeave
    { uptime := s.uptime, event := e, gauge := g, zone := z, fault := (t.gauge g).fault, reading := (t.gauge g).reading,
      lines := acts }

/-- No zone of the context holds a faulted enabled gauge (R151). -/
def State.faultFree (s : State) (c : Context) : Bool := allZones.all (fun y => !(hasZone c.zones y && s.zoneFault y))

/-- The lines of zone `z` that the release of GAUGE acts on, where `t` gives the gauges (R151, R152). -/
def State.gaugeReleases (s t : State) (z : ZoneId) : List (LineId × LineAction) :=
  (allLines.filter (fun l =>
    s.holdsCause l .gauge && (s.ctx l).any (fun c => hasZone c.zones z && t.faultFree c))).map (fun l => (l, .gaugeReleased))

/-! ### What a valid frame leaves of a lost link -/

/-- From `s` to `r` the link was restored, at the start of the taking of a valid frame (R172): it is OK with T1 loaded and T2
stopped, the restore is reported, and from LOST1 every LINK cause is released. -/
structure Restored (s r : State) : Prop where
  frame : r = { s with lines := r.lines, handoffs := r.handoffs, link := r.link }
  state : r.link.state = .ok
  t1 : r.link.t1 = some (s.store.linkCfg.t1 * 1000)
  t2 : r.link.t2 = none
  safeLatch : r.link.safeLatch = s.link.safeLatch
  framer : r.link.framer = s.link.framer ∧ r.link.gap = s.link.gap
  answers : r.link.answers = s.link.answers ∧ r.link.tx = s.link.tx
  fromLost1 : s.link.state = .lost1 → ReleasedOn s r (fun _ => true) .link
  fromLost2 : s.link.state = .lost2 → r.lines = s.lines ∧ r.handoffs = s.handoffs
  reports : s.roomFor 1 → ∃ rs, (s.link.state = .lost2 → rs = []) ∧ r.reportsOut = s.reportsOut ++
    .link { uptime := s.uptime, event := .restore, before := s.link.state, after := .ok, latch := s.link.safeLatch
            lines := if s.link.state = .lost1 then s.linkHeld.map (fun l => (l, .linkReleased)) else [] } :: rs

/-! ### Invariants -/

/-- The account of a tank (R122): delivered = drawn + waste + contents, and contents within the capacity. -/
def Tank.balanced (t : Tank) : Prop := t.delivered = t.drawn + t.waste + t.contents ∧ t.contents ≤ Config.tankCapacity

/-- Every tank balances (R122). -/
def State.balanced (s : State) : Prop := ∀ t : TankId, (s.tank t).balanced

/-- An UNSET tank holds no contents (R120). -/
def State.unsetEmpty (s : State) : Prop := ∀ t : TankId, (s.tank t).mix = none → (s.tank t).contents = 0

/-- At most 8 answers and 32 reports wait (R166, R167), and an idle transmitter finds both queues empty (R168). -/
structure State.queuesBounded (s : State) : Prop where
  answers : s.link.answers.length ≤ Config.maxAnswers
  reports : s.link.reports.length ≤ Config.maxReports
  idle : s.link.tx = none → s.link.answers = [] ∧ s.link.reports = []

/-- The request queues of the tanks (R27, R128): a bound line's tank is the one its configuration names, a queue holds a line at
most once, and an entry's line is bound to the tank and not in DRAIN or ENDED. -/
structure State.requestsKept (s : State) : Prop where
  attached : ∀ l c, s.ctx l = some c → c.tank = (s.lineCfg l).tank
  once : ∀ k : TankId, ((s.tank k).queue.map (fun q => q.1)).Nodup
  owned : ∀ k : TankId, ∀ q ∈ (s.tank k).queue, ∃ v, s.live q.1 = some v ∧ v.ctx.tank = k ∧ v.phase ≠ .drain ∧
    v.phase ≠ .ended

/-- The drive demand lies in −1000..+1000 and is positive only in INJECT (R57). -/
def State.demandsKept (s : State) : Prop :=
  ∀ l v, s.live l = some v → -1000 ≤ v.ctx.u ∧ v.ctx.u ≤ 1000 ∧ (v.phase ≠ .inject → v.ctx.u ≤ 0)

/-- A line is in HOLD exactly when its hold cause set is not empty (R68). -/
def State.holdsMatch (s : State) : Prop := ∀ l v, s.live l = some v → (v.phase = .hold ↔ v.ctx.hold.isEmpty = false)

/-- No line is in a started state while the loop is open or the link is LOST2 (R158, R171). -/
def State.stopped (s : State) : Prop := s.supply.loopOpen = true ∨ s.link.state = .lost2 → ∀ l, s.started l = false

/-- The guard of the zones on their lines (R70, R149). For a line whose zone set holds a zone in TRIP: with routing STOP the
line is in no started state; with routing HOLD it is in LOCAL or not started, or it is in HOLD and its HEAVE cause names
the zone. -/
def State.guarded (s : State) : Prop :=
  ∀ l v z, s.live l = some v → hasZone v.ctx.zones z = true → s.latched z = true →
    ((s.zoneCfg z).routing = .stop → v.phase.started = false) ∧
    ((s.zoneCfg z).routing = .hold →
      v.phase.started = false ∨ v.phase = .localPanel ∨
        (v.phase = .hold ∧ ∃ zs, v.ctx.hold.heave = some zs ∧ hasZone zs z = true))

/-- Every bound line's hole and stage are planned, and the stage is no longer PLANNED (R7, R31). -/
def State.boundPlanned (s : State) : Prop :=
  ∀ l c, s.ctx l = some c →
    (tfind s.store.holes c.hole).isSome = true ∧ 1 ≤ c.stage ∧ c.stage ≤ 24 ∧
      ∃ st, s.stageRec c.hole c.stage = some st ∧ st.status ≠ .planned

/-- The two laws of BIND (R61): no hole is bound on two lines, and no two lines are bound to neighbouring holes. -/
def State.bindingLaws (s : State) : Prop :=
  ∀ l k c d, l ≠ k → s.ctx l = some c → s.ctx k = some d → c.hole ≠ d.hole ∧ s.neighbours c.hole d.hole = false

/-- Every key of a table lies in a range. -/
def keysIn {α : Type} (lo hi : Nat) (t : Table α) : Prop := ∀ p ∈ t, lo ≤ p.1 ∧ p.1 ≤ hi

/-- The plan tables hold no duplicate keys, keep their key ranges, and keep the capacities of holes and stages (R1). -/
structure Store.canonical (p : Store) : Prop where
  secs : tsorted p.secs = true ∧ keysIn 1 8 p.secs
  holes : tsorted p.holes = true ∧ keysIn 1 9999 p.holes ∧ p.holes.length ≤ Config.maxHoles
  stages : tsorted p.stages = true ∧ p.stages.length ≤ Config.maxStages ∧
    ∀ q ∈ p.stages, 1 ≤ q.1 / 32 ∧ q.1 / 32 ≤ 9999 ∧ 1 ≤ q.1 % 32 ∧ q.1 % 32 ≤ 24
  sets : tsorted p.sets = true ∧ keysIn 1 24 p.sets
  bands : tsorted p.bands = true ∧ keysIn 1 4 p.bands
  mixes : tsorted p.mixes = true ∧ keysIn 1 8 p.mixes

/-- The configuration of a line lies in its ranges (R59). -/
def LineCfg.valid (c : LineCfg) : Prop :=
  c.interval ∈ [100, 200, 500, 1000] ∧ c.kp ≤ 255 ∧ c.ki ≤ 255 ∧ (1 ≤ c.factor ∧ c.factor ≤ 1000) ∧
    (1000 ≤ c.span ∧ c.span ≤ 16000) ∧ c.trace ≤ 255

/-- The configuration of a zone lies in its ranges, its trip above its warn (R143). -/
def ZoneCfg.valid (c : ZoneCfg) : Prop :=
  (10 ≤ c.warn ∧ c.warn ≤ 2000) ∧ c.warn < c.trip ∧ c.trip ≤ 10000 ∧ (30 ≤ c.derate ∧ c.derate ≤ 100)

/-- Every configuration record lies in its ranges (R59, R124, R138, R143, R174). -/
structure Store.configValid (p : Store) : Prop where
  lines : ∀ l : LineId, (p.lineCfg[l]).valid
  tanks : ∀ t : TankId, 20000 ≤ p.reserve[t] ∧ p.reserve[t] ≤ 500000
  gauges : ∀ g : GaugeId, 1000 ≤ (p.gaugeCfg[g]).span ∧ (p.gaugeCfg[g]).span ≤ 10000
  zones : ∀ z : ZoneId, (p.zoneCfg[z]).valid
  link : (5 ≤ p.linkCfg.t1 ∧ p.linkCfg.t1 ≤ 120) ∧ (5 ≤ p.linkCfg.t2 ∧ p.linkCfg.t2 ≤ 600) ∧
    (25 ≤ p.linkCfg.safe ∧ p.linkCfg.safe ≤ 75)

end Sys2Proof.Machine
end

