-- ==== Sys2Proof/Certificates/Slice0/Obligations.lean ====
section
/-! DEFINITION. The statements about the GI-6 that are to be proved. Each docstring names the rules of spec/ it rests on, and
the log entry where a clause rests on a choice of the model's.

The statements are about one event each. A request is stated where the part LISTENS (supply good, link OK, fewer than 8
answers waiting), which is where nothing but T1's reload comes before it; `RequestAnsweredOnce` says what every request does
to the link. Throughout, the hand-offs of an event stand behind those that wait, in the model's order (log entries 7 and 15),
and a value stands exact, at whatever size (log entry 11). -/

section

open Sys2Proof Sys2Proof.Machine

/-! ### Steps, reset, supply -/

/-- The block's step (log entry 2): it takes the command at the front of the queue, with the queue's rest. With no command
waiting it takes the event a block has handed over first, else the expiry that is due, else its clock goes on by 1 ms and
every running timer, of samples, holds, the dwell, the gap, T1 and T2, counts down (R38, R39, R71, R140, R154, R164, R169). -/
def Obligations.StepTakesTheFrontCommand : Prop :=
  ∀ s : State,
    (∀ c rest, step { s with pending := c :: rest } = exec c { s with pending := rest }) ∧
    (∀ h hs, s.pending = [] → s.supply.failed = false → s.handoffs = h :: hs → step s = exec h s) ∧
    (∀ e, s.pending = [] → s.supply.failed = false → s.handoffs = [] → s.dueExpiry = some e → step s = exec e s) ∧
    (s.pending = [] → s.supply.failed = false → s.handoffs = [] → s.dueExpiry = none →
      ∃ t, step s = .next t ∧
        t = { s with
          lines := t.lines
          scan := s.scan.map (fun x => { x with left := x.left - 1 })
          link := { s.link with
            gap := s.link.gap.map (· - 1), t1 := s.link.t1.map (· - 1), t2 := s.link.t2.map (· - 1) }
          supply := { s.supply with now := s.supply.now + 1 } } ∧
        ∀ l, t.line l = { s.line l with
          sampleTimer := (s.line l).sampleTimer.map (· - 1)
          live := (s.live l).map (fun v =>
            { v with ctx := { v.ctx with hold := { v.ctx.hold with
                site := v.ctx.hold.site.map (fun x => { x with timer := x.timer.map (· - 1) }) } } }) }) ∧
    (s.pending = [] → s.supply.failed = true → step s = .next s)

/-- Reset is the power-on of the first connection (R156, R23, backup LOST). The battery GOOD, the loop CLOSED and the keys
released are the model's choice (log entry 1). -/
def Obligations.ResetIsFirstPowerOn : Prop :=
  ∀ s : State,
    exec (.powerOn false true false 0) s = .next { State.reset with freeCount := s.freeCount + 1, pending := s.pending }

/-- The reset state satisfies every invariant that the later statements show to be kept. -/
def Obligations.ResetSatisfiesInvariants : Prop :=
  State.reset.balanced ∧ State.reset.unsetEmpty ∧ State.reset.queuesBounded ∧ State.reset.requestsKept ∧
    State.reset.demandsKept ∧ State.reset.holdsMatch ∧ State.reset.stopped ∧ State.reset.guarded ∧ State.reset.boundPlanned ∧
    State.reset.bindingLaws ∧ State.reset.store.canonical ∧ State.reset.store.configValid

/-- Power-on with backup GOOD (R23, R156): the tables, flags, configuration and trip latches are kept; BOUND stages are
restored, ACTIVE stages become OPEN with outcome POWER, filled from the running image; every other block is as at first
power-on, with the keys as they stand; the SUPPLY report that gives the two counts is in transmission. The final mix step of a
stage without a running image is left open (log entry 5). -/
def Obligations.PowerOnConvertsStages : Prop :=
  ∀ (s : State) (low loop : Bool) (keys : LineSet), ∃ t, exec (.powerOn low false loop keys) s = .next t ∧
    t = { State.reset with
      store := { s.store with stages := t.store.stages }
      lines := Vector.ofFn (fun l => Line.fresh (keys.getLsbD l.val))
      scan := (allGauges.find? (fun g => (s.gaugeCfg g).enabled)).map (fun g => { gauge := g, left := 50 })
      link :=
        { State.reset.link with
          t1 := some (s.store.linkCfg.t1 * 1000)
          tx := some (.report (.supply
            { uptime := 0, event := .powerOn, failed := false, batteryLow := low, loopOpen := loop, backupLost := false,
              converted := (s.store.stages.filter (fun q => q.2.status == .active)).length
              restored := (s.store.stages.filter (fun q => q.2.status == .bound)).length
              drained := 0 })) }
      supply := { failed := false, batteryLow := low, backupLost := false, loopOpen := loop, now := 0 }
      freeCount := s.freeCount + 1
      pending := s.pending } ∧
    (∀ k, (tfind t.store.stages k).isSome = (tfind s.store.stages k).isSome) ∧
    ∀ k st st', tfind s.store.stages k = some st → tfind t.store.stages k = some st' →
      (st.status ≠ .bound → st.status ≠ .active → st' = st) ∧
      (∀ p, st.status = .bound → st.prior = some { status := p, redo := none } →
        st' = { st with status := p, prior := none }) ∧
      (∀ p n vol, st.status = .bound → st.prior = some { status := p, redo := some (n, vol) } →
        st' = { st with status := p, pass := n, passVol := vol, prior := none }) ∧
      (∀ x : RunningImage, st.status = .active → st.image = some x →
        st' = { st with
          status := .opened
          image := none
          outcome := some
            { outcome := .power, finalTake := x.snap.take, maxPe := x.maxPe, finalPe := x.snap.pe,
              finalProduct := x.snap.pe * x.snap.take, finalStep := x.step, reliefCount := x.reliefCount,
              duration := x.elapsed, drainTimeout := false, snapshot := some x.snap } }) ∧
      (st.status = .active → st.image = none →
        ∃ step, st' = { st with
          status := .opened
          outcome := some
            { outcome := .power, finalTake := 0, maxPe := 0, finalPe := 0, finalProduct := 0, finalStep := step,
              reliefCount := 0, duration := 0, drainTimeout := false
              snapshot := some
                { uptime := 0, phase := .inject, pg := 0, pe := 0, q := 0, vol := 0, take := 0, ptgt := 0, cap := 0,
                  u := 0 } } })

/-- The loss of supply (R155): the outputs are de-energised, the backed store stands as at the last whole write, everything
else is lost, and until power-on no command but POWER_ON has an effect. That the waiting commands stay (log entry 13), and
that the battery, loop, backup and clock keep their last values and the rest its values of power-on, which nothing reads
before it (log entry 34), are the model's choices. -/
def Obligations.SupplyFailureLosesAllButTheStore : Prop :=
  ∀ s : State,
    (s.supply.failed = false → ∃ t, exec .supplyFailure s = .next t ∧
      t = { State.reset with
        store := s.store
        link := { State.reset.link with t1 := none, tx := none }
        supply := { s.supply with failed := true }
        freeCount := s.freeCount
        pending := s.pending } ∧
      ∀ l, t.pump l = 0 ∧ t.bleed l = 1000 ∧ t.permit l = false) ∧
    (s.supply.failed = true →
      ∀ c, (∀ low lost loop keys, c ≠ .powerOn low lost loop keys) → exec c s = .next s)

/-! ### Requests and frames -/

/-- A request taken while the part listens is answered exactly once, behind every answer before it, with its kind + 0x80 and
its tag; T1 is reloaded; nothing else of the framer or the supervision moves but, for CLEARSAFE, the safe latch (R165, R168,
R169). While 8 answers wait it is not taken, and only the supervision sees it (R166). -/
def Obligations.RequestAnsweredOnce : Prop :=
  ∀ (i : Instr) (k : Byte) (s : State), requestKind i = some k →
    (s.Listening → ∃ t, exec i s = .next t ∧
      t.answersOut =
        s.answersOut ++ [{ kind := k + 0x80, tag := requestTag i, reply := (handle i (reloadT1 s)).2 }] ∧
      t.link.framer = s.link.framer ∧ t.link.gap = s.link.gap ∧ t.link.state = .ok ∧ t.link.t2 = s.link.t2 ∧
      t.link.t1 = some (s.store.linkCfg.t1 * 1000) ∧ ((∀ tag, i ≠ .clearsafe tag) → t.link.safeLatch = s.link.safeLatch) ∧
      t.supply = s.supply ∧ t.pending = s.pending) ∧
    (s.supply.failed = false → s.link.state = .ok → Config.maxAnswers ≤ s.link.answers.length →
      ∃ t, exec i s = .next t ∧ t = { s with link := t.link } ∧
        LinkKept s t (some (s.store.linkCfg.t1 * 1000)) ∧ t.answersOut = s.answersOut ∧ t.reportsOut = s.reportsOut)

/-- A request that is not answered OK or OK_ADJUSTED changes nothing (R1 for the plan; each request's own rule). -/
def Obligations.RefusedRequestChangesNothing : Prop :=
  ∀ (i : Instr) (s : State), (handle i s).2.result ≠ .ok → (handle i s).2.result ≠ .okAdjusted → (handle i s).1 = s

/-- Every well-formed request is read back from the body it is written as, with every operand (section 11.4). -/
def Obligations.DecodeReadsBackEncode : Prop :=
  ∀ (i : Instr) (k : Byte), requestKind i = some k → i.wellFormed = true →
    decodeRequest k (requestTag i) (encodeBody i) = .request i

/-- The bytes of a request's frame, arriving one after another at a framer in HUNT, come to exactly that request (R162 to
R165): start byte, length, collection, check and dispatch. -/
def Obligations.FrameBytesReachTheRequest : Prop :=
  ∀ (i : Instr) (bytes : List Byte) (s : State), encodeFrame i = some bytes → i.wellFormed = true →
    s.supply.failed = false → s.link.framer = .hunt → s.link.gap = none →
    (s.link.tx = none → s.link.answers = [] ∧ s.link.reports = []) →
    feed bytes s = exec i s

/-! ### The plan store -/

/-- DEFHOLE (R5): the record is written whole where the section is planned and the hole, if planned, is not bound and keeps
its protected fields while it has history; each failed check answers in its order. -/
def Obligations.DefholeWritesTheRecord : Prop :=
  ∀ (s : State) (tag : Byte) (hole sec order : Nat) (collar : Int) (ns : List Nat) (dflt zones : Nat) (gw : Option Nat)
    (locked : Nat) (lk : Bool), s.Listening →
    let c : Instr := .defhole tag hole sec order collar ns dflt zones gw locked
    let h : Hole :=
      { sec := sec, order := order, collar := collar, neighbours := ns, dfltSet := if dflt = 0 then none else some dflt
        zones := BitVec.ofNat 4 zones, groundwater := gw, locked := lk }
    let old := tfind s.store.holes hole
    let ranged := holeInRange hole sec order collar ns dflt zones gw = true ∧ flagOf locked = some lk
    let planned := (tfind s.store.secs sec).isSome = true
    let protects := ∃ o, old = some o ∧ s.hasHistory hole = true ∧
      ¬(o.sec = sec ∧ o.order = order ∧ o.collar = collar ∧ o.dfltSet = h.dfltSet ∧ o.groundwater = gw)
    (¬(holeInRange hole sec order collar ns dflt zones gw = true ∧ (locked = 0 ∨ locked = 1)) →
      AnswersOnly c s 0x82 tag .range []) ∧
    (ranged → ¬planned → AnswersOnly c s 0x82 tag .notPlanned []) ∧
    (ranged → planned → old.isSome = true → (s.boundOn hole).isSome = true → AnswersOnly c s 0x82 tag .inUse []) ∧
    (ranged → planned → s.boundOn hole = none → protects → AnswersOnly c s 0x82 tag .protectd []) ∧
    (ranged → planned → old = none → Config.maxHoles ≤ s.store.holes.length → AnswersOnly c s 0x82 tag .full []) ∧
    (ranged → planned →
      (old.isSome = true ∧ s.boundOn hole = none ∧ ¬protects ∨ old = none ∧ s.store.holes.length < Config.maxHoles) →
      ∃ t, exec c s = .next t ∧ Answered s t 0x82 tag .ok [] [] ∧
        t = { s with store := { s.store with holes := t.store.holes }, link := t.link } ∧
        ∀ n, tfind t.store.holes n = if n = hole then some h else tfind s.store.holes n)

/-- DEFSTAGE (R6, R10): a new stage is created PLANNED with pass 1 and no volumes, or the fixed fields of a PLANNED stage are
replaced; an unplanned hole, a bound hole, a stage with history, an overlap and a full table are refused, in that order. -/
def Obligations.DefstageWritesFixedFields : Prop :=
  ∀ (s : State) (tag : Byte) (hole stage top bottom length set : Nat), s.Listening →
    let c : Instr := .defstage tag hole stage top bottom length set
    let ref := if set = 0 then none else some set
    let ready := stageInRange hole stage top bottom length set = true ∧ (tfind s.store.holes hole).isSome = true ∧
      s.boundOn hole = none
    let overlaps := ∃ p ∈ s.stagesOf hole, p.1 ≠ stage ∧ p.2.top < bottom ∧ top < p.2.bottom
    (stageInRange hole stage top bottom length set = false → AnswersOnly c s 0x83 tag .range []) ∧
    (stageInRange hole stage top bottom length set = true → tfind s.store.holes hole = none →
      AnswersOnly c s 0x83 tag .notPlanned []) ∧
    (stageInRange hole stage top bottom length set = true → (tfind s.store.holes hole).isSome = true →
      (s.boundOn hole).isSome = true → AnswersOnly c s 0x83 tag .inUse []) ∧
    (∀ old, ready → s.stageRec hole stage = some old → old.status ≠ .planned → AnswersOnly c s 0x83 tag .protectd []) ∧
    (ready → (∀ old, s.stageRec hole stage = some old → old.status = .planned) → overlaps →
      AnswersOnly c s 0x83 tag .range []) ∧
    (ready → s.stageRec hole stage = none → ¬overlaps → Config.maxStages ≤ s.store.stages.length →
      AnswersOnly c s 0x83 tag .full []) ∧
    (∀ st' : Stage, ready → ¬overlaps →
      (s.stageRec hole stage = none → s.store.stages.length < Config.maxStages ∧
        st' = { top := top, bottom := bottom, length := length, limitSet := ref, status := .planned, prior := none,
                pass := 1, passVol := 0, cumVol := 0, outcome := none, image := none }) →
      (∀ old, s.stageRec hole stage = some old → old.status = .planned ∧
        st' = { old with top := top, bottom := bottom, length := length, limitSet := ref }) →
      ∃ t, exec c s = .next t ∧ Answered s t 0x83 tag .ok [] [] ∧
        t = { s with store := { s.store with stages := t.store.stages }, link := t.link } ∧
        ∀ k, tfind t.store.stages k = if k = stageKey hole stage then some st' else tfind s.store.stages k)

/-- DEFLIM (R13, R14, R33): the set is written whole with its used flag kept; on a used set no protected field may rise, and
each lowered protected value is written into every context of the set, whose lines the answer names; nothing else of any line
changes. -/
def Obligations.DeflimPushesLoweredLimits : Prop :=
  ∀ (s : State) (tag : Byte) (set : Nat) (new : Limits) (steps : List (Nat × Nat)), s.Listening →
    let c : Instr := .deflim tag set new.pmax new.gin new.tmax new.overshoot new.reliefLimit new.ramp new.refFlow new.refBand
      new.refTime new.breakDrop steps
    let ladder := ladderOf steps
    let formed := inRange 1 24 set = true ∧ new.inRange = true ∧ ladderWellFormed ladder = true
    let mixed := ∀ x ∈ ladder, (tfind s.store.mixes x.mix).isSome = true
    let frame := fun (t : State) (used : Bool) =>
      t = { s with store := { s.store with sets := t.store.sets }, lines := t.lines, link := t.link } ∧
      ∀ n, tfind t.store.sets n =
        if n = set then some { limits := new, ladder := ladder, used := used } else tfind s.store.sets n
    (¬formed → AnswersOnly c s 0x84 tag .range []) ∧
    (formed → ¬mixed → AnswersOnly c s 0x84 tag .notPlanned []) ∧
    (∀ old, formed → mixed → tfind s.store.sets set = some old → old.used = true → old.limits.loosens new = true →
      AnswersOnly c s 0x84 tag .protectd []) ∧
    (formed → mixed → (tfind s.store.sets set).all (fun o => !o.used) = true →
      ∃ t, exec c s = .next t ∧ Answered s t 0x84 tag .ok [0] [] ∧ frame t false ∧ t.lines = s.lines) ∧
    (∀ old, formed → mixed → tfind s.store.sets set = some old → old.used = true → old.limits.loosens new = false →
      ∃ t, exec c s = .next t ∧ frame t true ∧
        Answered s t 0x84 tag .ok
          (u8 (lineMask (fun l => old.limits.lowers new && (s.ctx l).any (fun x => x.setNo == set))).toNat) [] ∧
        ∀ l, t.line l = { s.line l with
          live := (s.live l).map (fun v =>
            { v with ctx :=
              { v.ctx with limits := if v.ctx.setNo = set then old.limits.push new v.ctx.limits else v.ctx.limits } }) })

/-- DEFBAND (R15, R16, R33): the band is written, or removed where the mask is empty; a context takes the band cap now planned
exactly where it is present and its own is absent or greater, and the answer names those lines. -/
def Obligations.DefbandPushesLoweredCaps : Prop :=
  ∀ (s : State) (tag : Byte) (band : Nat) (upper lower : Int) (mask cap : Nat), s.Listening →
    let c : Instr := .defband tag band upper lower mask cap
    (bandInRange band upper lower mask cap = false → AnswersOnly c s 0x85 tag .range []) ∧
    (bandInRange band upper lower mask cap = true →
      ∃ t, exec c s = .next t ∧
        t = { s with store := { s.store with bands := t.store.bands }, lines := t.lines, link := t.link } ∧
        (∀ n, tfind t.store.bands n =
          if n = band then
            (if mask = 0 then none
             else some { upper := upper, lower := lower, mask := BitVec.ofNat 8 mask, cap := cap })
          else tfind s.store.bands n) ∧
        (∀ l, t.line l = { s.line l with
          live := (s.live l).map (fun v =>
            { v with ctx :=
              { v.ctx with bandCap :=
                  match t.bandCapNow v.ctx, v.ctx.bandCap with
                  | some x, none => some x
                  | some x, some y => some (min x y)
                  | none, held => held } }) }) ∧
        Answered s t 0x85 tag .ok
          (u8 (lineMask (fun l => decide (t.ctx l ≠ s.ctx l))).toNat) [])

/-- DEFSEC (R2) and DEFMIX (R17): a section is created once; a mix is created at any time, and replaced while no tank holds it
and no context has it current. -/
def Obligations.DefsecAndDefmixWriteTheRecord : Prop :=
  ∀ (s : State) (tag : Byte), s.Listening →
    (∀ sec,
      (inRange 1 8 sec = false → AnswersOnly (.defsec tag sec) s 0x81 tag .range []) ∧
      (inRange 1 8 sec = true →
        ∃ t, exec (.defsec tag sec) s = .next t ∧ Answered s t 0x81 tag .ok [] [] ∧
          t = { s with store := { s.store with secs := t.store.secs }, link := t.link } ∧
          ((tfind s.store.secs sec).isSome = true → t.store.secs = s.store.secs) ∧
          ∀ n, tfind t.store.secs n =
            if n = sec ∧ tfind s.store.secs sec = none then some { locked := false } else tfind s.store.secs n)) ∧
    ∀ mix ratio density,
      let c : Instr := .defmix tag mix ratio density
      let ranged := inRange 1 8 mix = true ∧ inRange 40 500 ratio = true ∧ inRange 1100 2200 density = true
      let held := (∃ t : TankId, (s.tank t).mix = some mix) ∨ (∃ l x, s.ctx l = some x ∧ x.mix = mix)
      (¬ranged → AnswersOnly c s 0x86 tag .range []) ∧
      (ranged → (tfind s.store.mixes mix).isSome = true → held → AnswersOnly c s 0x86 tag .inUse []) ∧
      (ranged → (tfind s.store.mixes mix = none ∨ ¬held) →
        ∃ t, exec c s = .next t ∧ Answered s t 0x86 tag .ok [] [] ∧
          t = { s with store := { s.store with mixes := t.store.mixes }, link := t.link } ∧
          ∀ n, tfind t.store.mixes n =
            if n = mix then some { ratio := ratio, density := density } else tfind s.store.mixes n)

/-- LOCK and UNLOCK (R18): the locked flag of the section or hole takes the requested value, and nothing else changes. -/
def Obligations.LockAndUnlockWriteTheFlag : Prop :=
  ∀ (s : State) (tag : Byte) (number : Nat), s.Listening →
    (∀ c kind, (c, kind) ∈ [(Instr.lock tag 1 number, (0x87 : Byte)), (Instr.unlock tag 1 number, 0x88)] →
      (inRange 1 8 number = false → AnswersOnly c s kind tag .range []) ∧
      (inRange 1 8 number = true → tfind s.store.secs number = none → AnswersOnly c s kind tag .notPlanned []) ∧
      (inRange 1 8 number = true → (tfind s.store.secs number).isSome = true →
        ∃ t, exec c s = .next t ∧ Answered s t kind tag .ok [] [] ∧
          t = { s with store := { s.store with secs := t.store.secs }, link := t.link } ∧
          ∀ n, tfind t.store.secs n =
            if n = number then some { locked := decide (kind = 0x87) } else tfind s.store.secs n)) ∧
    (∀ c kind, (c, kind) ∈ [(Instr.lock tag 2 number, (0x87 : Byte)), (Instr.unlock tag 2 number, 0x88)] →
      (inRange 1 9999 number = false → AnswersOnly c s kind tag .range []) ∧
      (inRange 1 9999 number = true → tfind s.store.holes number = none → AnswersOnly c s kind tag .notPlanned []) ∧
      (∀ h, inRange 1 9999 number = true → tfind s.store.holes number = some h →
        ∃ t, exec c s = .next t ∧ Answered s t kind tag .ok [] [] ∧
          t = { s with store := { s.store with holes := t.store.holes }, link := t.link } ∧
          ∀ n, tfind t.store.holes n =
            if n = number then some { h with locked := decide (kind = 0x87) } else tfind s.store.holes n)) ∧
    (∀ k, k ≠ 1 → k ≠ 2 →
      AnswersOnly (.lock tag k number) s 0x87 tag .range [] ∧ AnswersOnly (.unlock tag k number) s 0x88 tag .range [])

/-- PURGE (R19), over tables without duplicate keys: the section's holes without history leave with their stages, the section
leaves when no hole of it remains, and the answer gives the two counts and whether it left. -/
def Obligations.PurgeRemovesUnusedHoles : Prop :=
  ∀ (s : State) (tag : Byte) (sec : Nat), s.Listening →
    let gone := fun n => ∃ h, tfind s.store.holes n = some h ∧ h.sec = sec ∧ s.hasHistory n = false
    (inRange 1 8 sec = false → AnswersOnly (.purge tag sec) s 0x89 tag .range []) ∧
    (inRange 1 8 sec = true → tfind s.store.secs sec = none → AnswersOnly (.purge tag sec) s 0x89 tag .notPlanned []) ∧
    (inRange 1 8 sec = true → (tfind s.store.secs sec).isSome = true →
      tsorted s.store.holes = true → tsorted s.store.stages = true →
      ∃ t, exec (.purge tag sec) s = .next t ∧
        t = { s with
          store := { s.store with secs := t.store.secs, holes := t.store.holes, stages := t.store.stages }
          link := t.link } ∧
        (∀ n, (gone n → tfind t.store.holes n = none) ∧ (¬gone n → tfind t.store.holes n = tfind s.store.holes n)) ∧
        (∀ k, (gone (k / 32) → tfind t.store.stages k = none) ∧
          (¬gone (k / 32) → tfind t.store.stages k = tfind s.store.stages k)) ∧
        (∀ n, n ≠ sec → tfind t.store.secs n = tfind s.store.secs n) ∧
        ((∃ n h, tfind t.store.holes n = some h ∧ h.sec = sec) → tfind t.store.secs sec = tfind s.store.secs sec) ∧
        ((∀ n h, tfind t.store.holes n = some h → h.sec ≠ sec) → tfind t.store.secs sec = none) ∧
        Answered s t 0x89 tag .ok
          (u8 (s.store.holes.length - t.store.holes.length) ++ u16 (s.store.stages.length - t.store.stages.length)
            ++ flag (tfind t.store.secs sec).isNone) [])

/-- WIPE (R20): refused BUSY while a line is not IDLE. Otherwise the plan is empty, every configuration record is at its
default (R22), gauges are as new, the scanner is idle, the trip latches, tanks, lines and supervision stand as they were, and
a zone not in TRIP is in NORMAL. The faults cleared and the zone states changed are reported by HEAVE reports with event WIPE,
and the tank states changed by TANK reports with event WIPE (R136, R152). The order of these reports (log entry 30), and the
zone and reading in a gauge's (log entry 17), are the model's choices. -/
def Obligations.WipeEmptiesThePlan : Prop :=
  ∀ (s : State) (tag : Byte), s.Listening →
    ((∃ l v, s.live l = some v) → AnswersOnly (.wipe tag) s 0x8A tag .busy []) ∧
    ((∀ l, s.live l = none) → ∃ t, exec (.wipe tag) s = .next t ∧ AnsweredBy s t 0x8A tag .ok [] ∧
      t = { s with
        store := { State.reset.store with tripLatch := s.store.tripLatch }
        gauges := State.reset.gauges, zoneWarn := t.zoneWarn, scan := none, link := t.link } ∧
      (∀ z, t.latched z = false → t.zoneState z = .normal) ∧
      ((∀ g, (s.gauge g).fault = false) → (∀ z, s.zoneState z ≠ .warn) →
        (∀ k : TankId, judgeTank (s.tank k).mix (s.tank k).contents 100000 = s.tankState k) →
        t.reportsOut = s.reportsOut) ∧
      (s.roomFor 22 → Answered s t 0x8A tag .ok []
        ((allGauges.filter (fun g => (s.gauge g).fault)).map (fun g => gaugeChange s t g (s.gaugeCfg g).zone .wipe []) ++
         (allZones.filter (fun z => decide (s.zoneState z ≠ t.zoneState z))).map (fun z => zoneChange s t z .wipe []) ++
         (allTanks.filter (fun k => decide (s.tankState k ≠ t.tankState k))).map
           (fun k => tankChange s t k .wipe none [] 0))))

/-- The queries read and change nothing (R21, R37, R127, R153). The stage record is 114 bytes long, and the line answer, for a
context with a ladder of at most 4 steps, 170 (sections 11.5, 11.6). That QHOLE sends two bytes 0 for the groundwater of a dry
hole (log entry 33), and that QTANK and QGAUGE list lines in the order of their numbers (log entry 37), are the model's
choices. -/
def Obligations.QueriesReadAndChangeNothing : Prop :=
  ∀ (s : State) (tag : Byte), s.Listening →
    (∀ hole stage, (inRange 1 9999 hole && inRange 1 24 stage) = false →
      AnswersOnly (.qstage tag hole stage) s 0xB3 tag .range []) ∧
    (∀ hole stage, inRange 1 9999 hole = true → inRange 1 24 stage = true → s.stageRec hole stage = none →
      AnswersOnly (.qstage tag hole stage) s 0xB3 tag .notPlanned []) ∧
    (∀ hole stage st, inRange 1 9999 hole = true → inRange 1 24 stage = true → s.stageRec hole stage = some st →
      AnswersOnly (.qstage tag hole stage) s 0xB3 tag .ok (st.bytes hole stage) ∧ (st.bytes hole stage).length = 114) ∧
    (∀ n,
      (inRange 1 9999 n = false → AnswersOnly (.qhole tag n) s 0xB4 tag .range []) ∧
      (inRange 1 24 n = false → AnswersOnly (.qlim tag n) s 0xB5 tag .range []) ∧
      (inRange 1 4 n = false → AnswersOnly (.qband tag n) s 0xB6 tag .range []) ∧
      (inRange 1 8 n = false → AnswersOnly (.qmix tag n) s 0xB7 tag .range []) ∧
      (inRange 1 6 n = false → AnswersOnly (.qline tag n) s 0xB0 tag .range []) ∧
      (inRange 1 2 n = false → AnswersOnly (.qtank tag n) s 0xB1 tag .range []) ∧
      (∀ kind, (kind = 1 → inRange 1 16 n = false) → (kind = 2 → inRange 1 4 n = false) →
        AnswersOnly (.qgauge tag kind n) s 0xB2 tag .range [])) ∧
    (∀ n,
      (inRange 1 9999 n = true → tfind s.store.holes n = none → AnswersOnly (.qhole tag n) s 0xB4 tag .notPlanned []) ∧
      (inRange 1 24 n = true → tfind s.store.sets n = none → AnswersOnly (.qlim tag n) s 0xB5 tag .notPlanned []) ∧
      (inRange 1 4 n = true → tfind s.store.bands n = none → AnswersOnly (.qband tag n) s 0xB6 tag .notPlanned []) ∧
      (inRange 1 8 n = true → tfind s.store.mixes n = none → AnswersOnly (.qmix tag n) s 0xB7 tag .notPlanned [])) ∧
    (∀ hole h, inRange 1 9999 hole = true → tfind s.store.holes hole = some h →
      AnswersOnly (.qhole tag hole) s 0xB4 tag .ok (holeBytes s hole h)) ∧
    (∀ set x, inRange 1 24 set = true → tfind s.store.sets set = some x →
      AnswersOnly (.qlim tag set) s 0xB5 tag .ok x.bytes) ∧
    (∀ band b, inRange 1 4 band = true → tfind s.store.bands band = some b →
      AnswersOnly (.qband tag band) s 0xB6 tag .ok b.bytes) ∧
    (∀ mix m, inRange 1 8 mix = true → tfind s.store.mixes mix = some m →
      AnswersOnly (.qmix tag mix) s 0xB7 tag .ok m.bytes) ∧
    (∀ l : LineId, AnswersOnly (.qline tag (l.val + 1)) s 0xB0 tag .ok (lineBytes s l) ∧
      ((s.ctx l).all (fun c => decide (c.ladder.length ≤ 4)) = true → (lineBytes s l).length = 170)) ∧
    (∀ k : TankId, AnswersOnly (.qtank tag (k.val + 1)) s 0xB1 tag .ok (tankBytes s k)) ∧
    (∀ g : GaugeId, AnswersOnly (.qgauge tag 1 (g.val + 1)) s 0xB2 tag .ok (gaugeBytes s g)) ∧
    (∀ z : ZoneId, AnswersOnly (.qgauge tag 2 (z.val + 1)) s 0xB2 tag .ok (zoneBytes s z))

/-! ### Resolution, BIND and the cap in force -/

/-- PROBE and BIND on checks that pass or fail (R30, R60, R62, R31, R38, R39, R12, R7, R8): a failed check is answered with
its code, to PROBE with its detail, and changes nothing; PROBE changes nothing at all; an accepted BIND creates the context,
makes the stage BOUND with its prior record, sets the used flag, clears the front end and starts the sample timer. -/
def Obligations.BindCreatesTheContext : Prop :=
  ∀ (s : State) (tag : Byte) (line hole stage : Nat) (redo : Bool), s.Listening →
    (∀ d, admission s line hole stage redo = .error d →
      AnswersOnly (.bind tag line hole stage redo) s 0x99 tag d.result [] ∧
      AnswersOnly (.probe tag line hole stage redo) s 0x98 tag d.result (u16 d.value ++ u8 d.qualifier)) ∧
    (∀ l r, admission s line hole stage redo = .ok (l, r) →
      AnswersOnly (.probe tag line hole stage redo) s 0x98 tag .ok r.bytes ∧
      ∃ st t, s.stageRec hole stage = some st ∧ exec (.bind tag line hole stage redo) s = .next t ∧
        Answered s t 0x99 tag .ok r.bytes [] ∧
        t = { s with
          store := { s.store with stages := t.store.stages, sets := t.store.sets }
          lines := s.lines.set l
            { key := (s.line l).key, permitDrop := false, sampleTimer := some (s.lineCfg l).interval, traceCounter := 0
              fe := { fault := false, count := 0, pulses := 0, lastPulse := none, pLast := none }
              notices := []
              live := some
                { phase := .bound, latch := none
                  ctx :=
                    { hole := hole, stage := stage, pass := r.pass, setNo := r.setNo, limits := r.limits,
                      bandCap := r.bandCap, ladder := r.ladder, step := r.step, tank := r.tank, pendingReq := none,
                      starve := none, zones := r.zones, midDepth := r.midDepth, waterDepth := r.waterDepth,
                      length := r.length, vol := r.vol, take := r.take, lastPg := 0, lastPe := 0, lastQ := 0, lastCap := 0,
                      lastPtgt := 0, pRamp := 0, u := 0, ePrev := 0, first := false, refusalTimer := 0, reliefCount := 0,
                      maxPe := 0, hold := HoldSet.none, startUptime := none } } }
          link := t.link } ∧
        (∀ k, tfind t.store.stages k =
          if k = stageKey hole stage then
            some { st with
              status := .bound
              prior := some { status := st.status, redo := if redo then some (st.pass, st.passVol) else none }
              pass := if redo then st.pass + 1 else st.pass
              passVol := if redo then 0 else st.passVol }
          else tfind s.store.stages k) ∧
        ∀ k, tfind t.store.sets k =
          (tfind s.store.sets k).map (fun x => if k = r.setNo then { x with used := true } else x))

/-- The admission checks in their order, each with its answer and detail, where the checks before it pass (R60, R61, R30);
when all pass, the result of resolution is admitted. Over tables without duplicate keys, in their order, ORDER names the
lowest-numbered such neighbour (R30). That a locked section is named whether or not the hole is locked too is
the model's choice (log entry 18). -/
def Obligations.AdmissionChecksInOrder : Prop :=
  ∀ (s : State) (l : LineId) (hole stage : Nat) (redo : Bool) (h : Hole) (st : Stage) (r : Resolution),
    let a := admission s (l.val + 1) hole stage redo
    let named := 1 ≤ hole ∧ hole ≤ 9999 ∧ 1 ≤ stage ∧ stage ≤ 24
    let idle := named ∧ s.live l = none
    let planned := idle ∧ tfind s.store.holes hole = some h ∧ s.stageRec hole stage = some st
    let unlocked := planned ∧ (∀ x, tfind s.store.secs h.sec = some x → x.locked = false) ∧ h.locked = false
    let fits := unlocked ∧ (st.status = .complete → redo = true ∧ st.pass ≠ 7) ∧ (redo = true → st.status = .complete)
    let resolved := fits ∧ resolve s l h st redo = some r
    let free := resolved ∧ ∀ k c, s.ctx k = some c → c.hole ≠ hole
    let apart := free ∧ ∀ k c, s.ctx k = some c → s.neighbours hole c.hole = false
    let ordered := apart ∧ ∀ y hy, s.neighbours hole y = true → tfind s.store.holes y = some hy → hy.order < h.order →
      s.holeClosed y = true
    let bars := fun z => hasZone h.zones z = true ∧ s.latched z = true ∧ (s.zoneCfg z).routing ≠ .report
    (∀ line, ¬(1 ≤ line ∧ line ≤ 6 ∧ named) →
      admission s line hole stage redo = .error { result := .range, value := 0, qualifier := 0 }) ∧
    (∀ v, named → s.live l = some v → a = .error { result := .state, value := v.phase.code, qualifier := 1 }) ∧
    (idle → tfind s.store.holes hole = none → a = .error { result := .notPlanned, value := 0, qualifier := 1 }) ∧
    (idle → tfind s.store.holes hole = some h → s.stageRec hole stage = none →
      a = .error { result := .notPlanned, value := 0, qualifier := 2 }) ∧
    (∀ x, planned → tfind s.store.secs h.sec = some x → x.locked = true →
      a = .error { result := .locked, value := 0, qualifier := 1 }) ∧
    (planned → (∀ x, tfind s.store.secs h.sec = some x → x.locked = false) → h.locked = true →
      a = .error { result := .locked, value := 0, qualifier := 2 }) ∧
    (unlocked → st.status = .complete → (redo = false ∨ st.pass = 7) →
      a = .error { result := .done, value := st.pass, qualifier := 0 }) ∧
    (unlocked → st.status ≠ .complete → redo = true →
      a = .error { result := .state, value := st.status.code, qualifier := 2 }) ∧
    (fits → resolve s l h st redo = none →
      a = .error { result := .noLimits, value := orZero (candidateSet h st), qualifier := 0 }) ∧
    (resolved → (∃ k c, s.ctx k = some c ∧ c.hole = hole) →
      ∃ k c, s.ctx k = some c ∧ c.hole = hole ∧ a = .error { result := .inUse, value := lineNo k, qualifier := 0 }) ∧
    (free → (∃ k c, s.ctx k = some c ∧ s.neighbours hole c.hole = true) →
      ∃ k c, s.ctx k = some c ∧ s.neighbours hole c.hole = true ∧
        a = .error { result := .neighbour, value := c.hole, qualifier := lineNo k }) ∧
    (apart → ¬ordered →
      ∃ y hy, s.neighbours hole y = true ∧ tfind s.store.holes y = some hy ∧ hy.order < h.order ∧ s.holeClosed y = false ∧
        a = .error { result := .order, value := y, qualifier := 0 } ∧
        (s.store.canonical → ∀ x hx, s.neighbours hole x = true → tfind s.store.holes x = some hx → hx.order < h.order →
          s.holeClosed x = false → y ≤ x)) ∧
    (∀ z, ordered → bars z → (∀ y, y < z → ¬bars y) →
      a = .error { result := .heave, value := z.val + 1, qualifier := 0 }) ∧
    (ordered → (∀ z, ¬bars z) → a = .ok (l, r))

/-- What resolution finds (R15, R25 to R29): the stage's own set alone, else the hole's default, planned, with a ladder of
planned mixes; the smallest cap among the bands that match; the geometry; and the pass, volume, take and first step whose
advance take the take has not reached. -/
def Obligations.ResolutionFindsPlanValues : Prop :=
  ∀ (s : State) (l : LineId) (h : Hole) (st : Stage) (redo : Bool),
    let usable := fun k x =>
      (st.limitSet = some k ∨ st.limitSet = none ∧ h.dfltSet = some k) ∧ tfind s.store.sets k = some x ∧
        ∀ y ∈ x.ladder, (tfind s.store.mixes y.mix).isSome = true
    let reaches := fun b : Band =>
      hasSec b.mask h.sec = true ∧ h.collar - st.bottom ≤ b.upper ∧ b.lower ≤ h.collar - st.top
    (resolve s l h st redo = none ↔ ∀ k x, ¬usable k x) ∧
    ∀ r, resolve s l h st redo = some r →
      (∃ x, usable r.setNo x ∧ r.limits = x.limits ∧ r.ladder = x.ladder) ∧
      (r.bandCap = none ↔ ∀ p ∈ s.store.bands, ¬reaches p.2) ∧
      (∀ cap, r.bandCap = some cap →
        (∃ p ∈ s.store.bands, reaches p.2 ∧ p.2.cap = cap) ∧ ∀ p ∈ s.store.bands, reaches p.2 → cap ≤ p.2.cap) ∧
      r.zones = h.zones ∧ r.tank = (s.lineCfg l).tank ∧
      r.midDepth = (st.top + st.bottom) / 2 ∧
      (∀ g, h.groundwater = some g → (r.waterDepth : Int) = max 0 ((r.midDepth : Int) - g)) ∧
      (h.groundwater = none → r.waterDepth = 0) ∧
      r.length = st.length ∧
      r.pass = (if redo then st.pass + 1 else st.pass) ∧
      r.vol = (if redo then 0 else st.passVol) ∧
      r.take = r.vol / (10 * st.length) ∧
      (∀ k, 1 ≤ k → k < r.step → ∃ a, stepAdvance r.ladder k = some a ∧ a ≤ r.take) ∧
      (∀ a, stepAdvance r.ladder r.step = some a → r.take < a)

/-- The cap in force (R35): the base, then the smallest derate of the zones that derate the line, then the safe percentage,
truncated after each stage; with percentages of at most 100 it exceeds neither the base nor Pmax. -/
def Obligations.CapStagesOnlyLower : Prop :=
  ∀ (s : State) (c : Context),
    let base := match c.bandCap with | none => c.limits.pmax | some b => min c.limits.pmax b
    let derates := fun z => hasZone c.zones z = true ∧
      (s.zoneState z = .warn ∨ ∃ g, (s.gaugeCfg g).enabled = true ∧ (s.gaugeCfg g).zone = z ∧ (s.gauge g).fault = true)
    ((∀ z, ¬derates z) → s.zoneCap c = base) ∧
    (∀ z, derates z → (∀ y, derates y → (s.zoneCfg z).derate ≤ (s.zoneCfg y).derate) →
      s.zoneCap c = base * (s.zoneCfg z).derate / 100) ∧
    (s.link.safeLatch = false → s.cap c = s.zoneCap c) ∧
    (s.link.safeLatch = true → s.cap c = s.zoneCap c * s.store.linkCfg.safe / 100) ∧
    (s.store.configValid → s.cap c ≤ s.zoneCap c ∧ s.zoneCap c ≤ base ∧ base ≤ c.limits.pmax)

/-! ### Line requests -/

/-- LINECFG (R59): on an IDLE line the record is stored with each numeric field at the nearest value of its range, the
interval at the nearest member, of two equally near the larger; OK where nothing was clamped, else OK_ADJUSTED. -/
def Obligations.LinecfgStoresTheNearestValues : Prop :=
  ∀ (s : State) (tag : Byte) (line tank interval kp ki factor span trace : Nat), s.Listening →
    let c : Instr := .linecfg tag line tank interval kp ki factor span trace
    (¬(1 ≤ line ∧ line ≤ 6 ∧ 1 ≤ tank ∧ tank ≤ 2) → AnswersOnly c s 0x90 tag .range []) ∧
    (∀ (l : LineId) v, line = l.val + 1 → 1 ≤ tank → tank ≤ 2 → s.live l = some v → AnswersOnly c s 0x90 tag .state []) ∧
    (∀ (l : LineId) (k : TankId), line = l.val + 1 → tank = k.val + 1 → s.live l = none →
      ∃ t n, exec c s = .next t ∧
        t = { s with
          store := { s.store with
            lineCfg := s.store.lineCfg.set l
              { tank := k, interval := n, kp := min kp 255, ki := min ki 255, factor := max 1 (min factor 1000)
                span := max 1000 (min span 16000), trace := min trace 255 } }
          link := t.link } ∧
        n ∈ [100, 200, 500, 1000] ∧
        (∀ m ∈ [100, 200, 500, 1000],
          ((n : Int) - interval).natAbs < ((m : Int) - interval).natAbs ∨
          ((n : Int) - interval).natAbs = ((m : Int) - interval).natAbs ∧ m ≤ n) ∧
        ∃ res, Answered s t 0x90 tag res (t.lineCfg l).bytes [] ∧
          (res = .ok ∨ res = .okAdjusted) ∧
          (res = .ok ↔ t.lineCfg l =
            { tank := k, interval := interval, kp := kp, ki := ki, factor := factor, span := span, trace := trace }))

/-- START (R63, R64, R65, R66, R38): the checks in their order; an accepted START makes the stage ACTIVE, sets the start
uptime, clears the pulse history, settles the step against the tank's mix, and enters INJECT or STARVED. That START in ENDED
under an asserted key is answered LOCAL, and not STATE as R117 has it (log entry 36), and that an entry to INJECT clears the
starve cause (log entry 41), are the model's choices. -/
def Obligations.StartEntersInjectOrStarved : Prop :=
  ∀ (s : State) (tag : Byte) (l : LineId) (v : Live), s.Listening → s.live l = some v →
    let c : Instr := .start tag (l.val + 1)
    let keyed := v.phase = .localPanel ∨ (v.phase = .bound ∨ v.phase = .ended) ∧ (s.line l).key = true
    let barred := ∃ z, hasZone v.ctx.zones z = true ∧
      (s.latched z = true ∧ (s.zoneCfg z).routing ≠ .report ∨ s.zoneFault z = true)
    let x := v.ctx
    let settled : Context × List Instr :=
      match (s.tank x.tank).mix with
      | none => ({ x with startUptime := some s.uptime }, [.adopt x.tank l x.mix])
      | some m =>
        if m = x.mix then ({ x with startUptime := some s.uptime }, [])
        else
          match laterStep x.ladder x.step m with
          | some k => ({ x with startUptime := some s.uptime, step := k }, [])
          | none =>
            ({ x with startUptime := some s.uptime, pendingReq := some (x.pendingReq.getD x.mix) },
              if x.pendingReq.isSome then [] else [.mixRequest x.tank l x.mix])
    let e := s.entry settled.1 x.lastPe
    (keyed → AnswersOnly c s 0x9A tag .localKey []) ∧
    (¬keyed → v.phase ≠ .bound → AnswersOnly c s 0x9A tag .state []) ∧
    (¬keyed → v.phase = .bound → s.supply.loopOpen = true → AnswersOnly c s 0x9A tag .estop []) ∧
    (¬keyed → v.phase = .bound → s.supply.loopOpen = false → barred → AnswersOnly c s 0x9A tag .heave []) ∧
    (¬keyed → v.phase = .bound → s.supply.loopOpen = false → ¬barred → (s.line l).fe.fault = true →
      AnswersOnly c s 0x9A tag .sensor []) ∧
    (¬keyed → v.phase = .bound → s.supply.loopOpen = false → ¬barred → (s.line l).fe.fault = false → s.roomFor 1 →
      ∃ t, exec c s = .next t ∧
        t = { s with
          store := { s.store with stages := t.store.stages }
          lines := s.lines.set l
            { s.line l with
              live := some { phase := e.1, ctx := e.2, latch := v.latch }
              fe := { fault := false, count := 0, pulses := 0, lastPulse := none, pLast := none } }
          handoffs := s.handoffs ++ settled.2 ++ raised l settled.1 e.2
          link := t.link } ∧
        (∀ k, tfind t.store.stages k =
          (tfind s.store.stages k).map
            (fun st => if k = stageKey x.hole x.stage then { st with status := .active, prior := none } else st)) ∧
        Answered s t 0x9A tag .ok (u8 e.1.code ++ u8 e.2.step ++ u8 (starveCode e.2.starve))
          (if e.1 = .starved then [lineChange s l .bound .starved none e.2.hold e.2.starve none] else []))

/-- PAUSE (R72, R73, R69): the SITE cause is written into an empty set on the entry to HOLD, or added to or replaced in the
set; a decay threshold above the last p_e releases it at once. That an entry to INJECT clears the starve cause is the model's
choice (log entry 41). -/
def Obligations.PauseHoldsWithSite : Prop :=
  ∀ (s : State) (tag : Byte) (l : LineId) (v : Live) (time decay : Option Nat), s.Listening → s.roomFor 2 →
    s.live l = some v → time.all (inRange 1 3600) = true → decay.all (inRange 1 20000) = true →
    let c : Instr := .pause tag (l.val + 1) time decay
    let site : SiteHold := { timer := time.map (· * 1000), decay := decay }
    let met := ∃ d, decay = some d ∧ v.ctx.lastPe < d
    let other := { v.ctx.hold with site := none }
    let entering := v.phase = .inject ∨ v.phase = .relief ∨ v.phase = .starved
    let held : Context :=
      { v.ctx with
        hold := if v.phase = .hold then { v.ctx.hold with site := some site } else { HoldSet.none with site := some site }
        u := if v.phase = .hold then v.ctx.u else 0
        starve := if v.phase = .hold then v.ctx.starve else none
        refusalTimer := if v.phase = .inject then 0 else v.ctx.refusalTimer }
    let released : Context := { held with hold := if v.phase = .hold then other else HoldSet.none }
    let e := s.entry released v.ctx.lastPe
    let frame := fun (t : State) (p : Phase) (x : Context) (hs : List Instr) =>
      t = { s with
        lines := s.lines.set l { s.line l with live := some { phase := p, ctx := x, latch := v.latch } }
        handoffs := s.handoffs ++ leaving v.phase v.ctx ++ hs
        link := t.link }
    (v.phase = .localPanel → AnswersOnly c s 0x9B tag .localKey []) ∧
    (v.phase = .bound ∨ v.phase = .drain ∨ v.phase = .ended → AnswersOnly c s 0x9B tag .state []) ∧
    (entering ∨ v.phase = .hold → ¬met →
      ∃ t, exec c s = .next t ∧ frame t .hold held [] ∧
        Answered s t 0x9B tag .ok (u8 held.hold.mask)
          [lineChange s l v.phase .hold (some .site) held.hold held.starve none]) ∧
    (entering ∨ v.phase = .hold → met → released.hold.isEmpty = true →
      ∃ t, exec c s = .next t ∧ frame t e.1 e.2 (raised l released e.2) ∧
        Answered s t 0x9B tag .ok [0]
          [lineChange s l v.phase .hold (some .site) held.hold held.starve none,
           lineChange s l .hold e.1 (some .site) e.2.hold e.2.starve (some .decay)]) ∧
    (v.phase = .hold → met → other.isEmpty = false →
      ∃ t, exec c s = .next t ∧ frame t .hold released [] ∧
        Answered s t 0x9B tag .ok (u8 other.mask)
          [lineChange s l .hold .hold (some .site) held.hold held.starve none,
           lineChange s l .hold .hold (some .site) other held.starve (some .decay)])

/-- RESUME (R74, R70): refused while a zone of the HEAVE cause is in TRIP or the transducer is faulted under SENSOR; otherwise
every cause but GAUGE is released, and a line whose set is then empty leaves HOLD. That a set of GAUGE alone is answered
without a report (log entry 14), and that an entry to INJECT clears the starve cause (log entry 41), are the model's
choices. -/
def Obligations.ResumeReleasesAllButGauge : Prop :=
  ∀ (s : State) (tag : Byte) (l : LineId) (v : Live), s.Listening → s.roomFor 1 → s.live l = some v →
    let c : Instr := .resume tag (l.val + 1)
    let h := v.ctx.hold
    let trips := ∃ zs z, h.heave = some zs ∧ hasZone zs z = true ∧ s.latched z = true
    let faulted := h.sensor = true ∧ (s.line l).fe.fault = true
    let released := { v.ctx with hold := { HoldSet.none with gauge := h.gauge } }
    let e := s.entry released v.ctx.lastPe
    let named : Option Cause := match h.causes.filter (fun x => x != .gauge) with | [x] => some x | _ => none
    (v.phase = .localPanel → AnswersOnly c s 0x9C tag .localKey []) ∧
    (v.phase ≠ .localPanel → v.phase ≠ .hold → AnswersOnly c s 0x9C tag .state []) ∧
    (v.phase = .hold → trips → AnswersOnly c s 0x9C tag .heave (u8 h.mask)) ∧
    (v.phase = .hold → ¬trips → faulted → AnswersOnly c s 0x9C tag .sensor (u8 h.mask)) ∧
    (v.phase = .hold → ¬trips → ¬faulted → h.gauge = true → (∃ x, x ≠ .gauge ∧ h.holds x = true) →
      ∃ t, exec c s = .next t ∧
        t = { s with
          lines := s.lines.set l { s.line l with live := some { phase := .hold, ctx := released, latch := v.latch } }
          link := t.link } ∧
        Answered s t 0x9C tag .ok [16]
          [lineChange s l .hold .hold named released.hold v.ctx.starve (some .resume)]) ∧
    (v.phase = .hold → ¬trips → ¬faulted → h.gauge = true → (∀ x, x ≠ .gauge → h.holds x = false) →
      AnswersOnly c s 0x9C tag .ok [16]) ∧
    (v.phase = .hold → ¬trips → ¬faulted → h.gauge = false → h.isEmpty = false →
      ∃ t, exec c s = .next t ∧
        t = { s with
          lines := s.lines.set l { s.line l with live := some { phase := e.1, ctx := e.2, latch := v.latch } }
          handoffs := s.handoffs ++ raised l released e.2
          link := t.link } ∧
        Answered s t 0x9C tag .ok [0]
          [lineChange s l .hold e.1 named e.2.hold e.2.starve (some .resume)])

/-- ABORT of a started line (R75, R77, R107 to R109, R129): the line is in DRAIN with outcome ABORT and its end latch filled
from its latest sample; its request has left the tank's queue, and where it stood at the head the tank will examine the new
one; the notices on their way say nothing more of it, and nothing else of the part changes. In DRAIN and ENDED it is refused
STATE. That a request whose end the tank has reported is not reported WITHDRAWN again and the notices are kept so (log
entry 26), and that the LINE report stands before the MIXREQ report (log entry 15), are the model's choices. -/
def Obligations.AbortDrainsAStartedLine : Prop :=
  ∀ (s : State) (tag : Byte) (l : LineId) (v : Live), s.Listening → s.roomFor 2 → s.live l = some v →
    let c : Instr := .abort tag (l.val + 1)
    let k := v.ctx.tank
    let pend := (s.line l).unreported v.ctx
    (v.phase = .drain ∨ v.phase = .ended → AnswersOnly c s 0x9D tag .state []) ∧
    (v.phase.started = true →
      ∃ t, exec c s = .next t ∧ Drained s t l v .abort ∧
        t = { s with lines := t.lines, tanks := t.tanks, handoffs := t.handoffs, link := t.link } ∧
        (∀ j, j ≠ l → t.line j = s.line j) ∧ (t.line l).key = (s.line l).key ∧ (t.line l).fe = (s.line l).fe ∧
        (t.line l).sampleTimer = (s.line l).sampleTimer ∧ (t.line l).traceCounter = (s.line l).traceCounter ∧
        (∀ j, j ≠ k → t.tank j = s.tank j) ∧
        t.tank k = { s.tank k with queue := (s.tank k).queue.filter (fun q => q.1 != l) } ∧
        t.handoffs = s.handoffs ++ leaving v.phase v.ctx ++
          (if (s.tank k).queue.head?.any (fun q => q.1 == l) then [.headExamination k] else []) ∧
        Answered s t 0x9D tag .ok []
          ((if v.phase = .hold ∨ v.phase = .starved ∨ v.phase = .localPanel
            then [lineChange s l v.phase .drain none HoldSet.none none none] else []) ++
           pend.toList.map (fun m => Report.mixreq
             { tank := k, line := l, mix := m, disposition := .withdrawn, position := 0, step := v.ctx.step })))

/-- The requests of a line on a number that names none and on an IDLE line (R63, R72, R74, R75, R76): RANGE, and STATE, but
LOCAL for a START under an asserted key. ABORT of a BOUND line and RELEASE (R7, R8, R39, R75, R76): the stage is put back as
its prior record says, the request withdrawn, and the line is IDLE with no timer; RELEASE is taken in ENDED with the key
released, and leaves the stage as it is. That the notices on their way to the line are void with their hand-offs (log entry
24), and that a request whose end the tank has reported is not reported WITHDRAWN again (log entry 26), are the model's
choices. -/
def Obligations.AbortAndReleaseReturnToIdle : Prop :=
  ∀ (s : State) (tag : Byte), s.Listening →
    (∀ n time decay, ¬(1 ≤ n ∧ n ≤ 6) →
      AnswersOnly (.start tag n) s 0x9A tag .range [] ∧ AnswersOnly (.pause tag n time decay) s 0x9B tag .range [] ∧
      AnswersOnly (.resume tag n) s 0x9C tag .range [] ∧ AnswersOnly (.abort tag n) s 0x9D tag .range [] ∧
      AnswersOnly (.release tag n) s 0x9E tag .range []) ∧
    (∀ n time decay, ¬(time.all (inRange 1 3600) = true ∧ decay.all (inRange 1 20000) = true) →
      AnswersOnly (.pause tag n time decay) s 0x9B tag .range []) ∧
    (∀ l : LineId, s.live l = none →
      AnswersOnly (.start tag (l.val + 1)) s 0x9A tag (if (s.line l).key then .localKey else .state) [] ∧
      (∀ time decay, time.all (inRange 1 3600) = true → decay.all (inRange 1 20000) = true →
        AnswersOnly (.pause tag (l.val + 1) time decay) s 0x9B tag .state []) ∧
      AnswersOnly (.resume tag (l.val + 1)) s 0x9C tag .state [] ∧
      AnswersOnly (.abort tag (l.val + 1)) s 0x9D tag .state [] ∧
      AnswersOnly (.release tag (l.val + 1)) s 0x9E tag .state []) ∧
    ∀ (l : LineId) (v : Live), s.roomFor 1 → s.live l = some v →
    let k := v.ctx.tank
    let pend := (s.line l).unreported v.ctx
    let freed : List Instr :=
      if (s.tank k).queue.head?.any (fun q => q.1 == l) then [.headExamination k] else []
    let idle : Line := { s.line l with live := none, sampleTimer := none, permitDrop := false, notices := [] }
    (v.phase = .bound →
      ∃ t, exec (.abort tag (l.val + 1)) s = .next t ∧
        t = { s with
          store := { s.store with stages := t.store.stages }
          lines := s.lines.set l idle
          tanks := s.tanks.set k { s.tank k with queue := (s.tank k).queue.filter (fun q => q.1 != l) }
          handoffs := (s.handoffs ++ freed).filter (fun i => i != Instr.tankNotice l)
          link := t.link } ∧
        (∀ j, j ≠ stageKey v.ctx.hole v.ctx.stage → tfind t.store.stages j = tfind s.store.stages j) ∧
        (∀ st p, s.stageRec v.ctx.hole v.ctx.stage = some st → st.prior = some p →
          t.stageRec v.ctx.hole v.ctx.stage = some { st with
            status := p.status
            pass := match p.redo with | none => st.pass | some x => x.1
            passVol := match p.redo with | none => st.passVol | some x => x.2
            prior := none }) ∧
        Answered s t 0x9D tag .ok []
          (pend.toList.map (fun m => Report.mixreq
            { tank := k, line := l, mix := m, disposition := .withdrawn, position := 0, step := 0 }))) ∧
    (v.phase = .localPanel ∨ v.phase = .ended ∧ (s.line l).key = true →
      AnswersOnly (.release tag (l.val + 1)) s 0x9E tag .localKey []) ∧
    (v.phase ≠ .localPanel → v.phase ≠ .ended → AnswersOnly (.release tag (l.val + 1)) s 0x9E tag .state []) ∧
    (v.phase = .ended → (s.line l).key = false →
      ∃ t, exec (.release tag (l.val + 1)) s = .next t ∧ Answered s t 0x9E tag .ok [] [] ∧
        t = { s with
          lines := s.lines.set l idle
          handoffs := s.handoffs.filter (fun i => i != .tankNotice l)
          link := t.link })

/-! ### Field events of a line -/

/-- The hold timer's expiry (R71, R70): the SITE cause is released with condition TIMER; where no cause remains the line
leaves HOLD from its last p_e. That a line without a hold timer has no expiry (log entry 12), and that an entry to INJECT
clears the starve cause (log entry 41), are the model's choices. -/
def Obligations.HoldTimerReleasesSite : Prop :=
  ∀ (s : State) (l : LineId), s.supply.failed = false →
    (s.holdTimer l = none → ∃ t, exec (.holdTimerExpiry l) s = .next t ∧ t = { s with link := t.link } ∧ Reported s t []) ∧
    (∀ v site n, s.roomFor 1 → s.live l = some v → v.phase = .hold → v.ctx.hold.site = some site → site.timer = some n →
      let released := { v.ctx with hold := { v.ctx.hold with site := none } }
      let e := s.entry released v.ctx.lastPe
      (released.hold.isEmpty = false →
        ∃ t, exec (.holdTimerExpiry l) s = .next t ∧
          t = { s with
            lines := s.lines.set l { s.line l with live := some { phase := .hold, ctx := released, latch := v.latch } }
            link := t.link } ∧
          Reported s t [lineChange s l .hold .hold (some .site) released.hold v.ctx.starve (some .timer)]) ∧
      (released.hold.isEmpty = true →
        ∃ t, exec (.holdTimerExpiry l) s = .next t ∧
          t = { s with
            lines := s.lines.set l { s.line l with live := some { phase := e.1, ctx := e.2, latch := v.latch } }
            handoffs := s.handoffs ++ raised l released e.2
            link := t.link } ∧
          Reported s t [lineChange s l .hold e.1 (some .site) e.2.hold e.2.starve (some .timer)]))

/-- The LOCAL key (R78, R79, R81): its position is recorded in every state. Asserted in INJECT, RELIEF, HOLD or STARVED it
takes the line to LOCAL with u 0, no cause and the permit drop flag clear; released in LOCAL it takes the line to HOLD with
LOCAL and every standing HEAVE, GAUGE and LINK cause; in every other case nothing else changes. That the LINE report of the
return names LOCAL (log entry 14), and that the report of the entry names no cause, also where the emptied set held one (log
entry 42), are the model's choices. -/
def Obligations.LocalKeyEntersAndLeavesLocal : Prop :=
  ∀ (s : State) (l : LineId) (key : Bool), s.supply.failed = false → s.roomFor 1 →
    let enters := fun p : Phase => p = .inject ∨ p = .relief ∨ p = .hold ∨ p = .starved
    ((∀ v, s.live l = some v → (key = true → ¬enters v.phase) ∧ (key = false → v.phase ≠ .localPanel)) →
      ∃ t, exec (.localKeyChange l key) s = .next t ∧
        t = { s with lines := s.lines.set l { s.line l with key := key }, link := t.link } ∧ Reported s t []) ∧
    (∀ v, s.live l = some v → key = true → enters v.phase →
      ∃ t, exec (.localKeyChange l key) s = .next t ∧
        t = { s with
          lines := s.lines.set l
            { s.line l with
              key := true, permitDrop := false
              live := some
                { phase := .localPanel, latch := v.latch
                  ctx := { v.ctx with
                    u := 0, hold := HoldSet.none, starve := none
                    refusalTimer := if v.phase = .inject then 0 else v.ctx.refusalTimer } } }
          handoffs := s.handoffs ++ leaving v.phase v.ctx
          link := t.link } ∧
        Reported s t [lineChange s l v.phase .localPanel none HoldSet.none none none] ∧
        (s.supply.loopOpen = false → t.permit l = true)) ∧
    (∀ v, s.live l = some v → key = false → v.phase = .localPanel →
      ∃ t h, exec (.localKeyChange l key) s = .next t ∧
        t = { s with
          lines := s.lines.set l
            { s.line l with
              key := false, permitDrop := false
              live := some { phase := .hold, latch := v.latch, ctx := { v.ctx with u := 0, hold := h } } }
          link := t.link } ∧
        h.localKey = true ∧ h.site = none ∧ h.brk = false ∧ h.sensor = false ∧
        (h.link = true ↔ s.link.state = .lost1) ∧
        (h.gauge = true ↔ ∃ z, hasZone v.ctx.zones z = true ∧ s.zoneFault z = true) ∧
        (∀ z, (∃ zs, h.heave = some zs ∧ hasZone zs z = true) ↔
          hasZone v.ctx.zones z = true ∧ s.latched z = true ∧ (s.zoneCfg z).routing = .hold) ∧
        (h.heave.isSome = true ↔
          ∃ z, hasZone v.ctx.zones z = true ∧ s.latched z = true ∧ (s.zoneCfg z).routing = .hold) ∧
        Reported s t [lineChange s l .localPanel .hold (some .localKey) h v.ctx.starve none])

/-- A flowmeter pulse (R44), in every line state: the count is raised, to 65535 at most; the period since the last pulse, at
least 1 ms, is kept; the time is noted; and the history counts to "2 or more". -/
def Obligations.PulseIsCountedAndTimed : Prop :=
  ∀ (s : State) (l : LineId), s.supply.failed = false →
    ∃ t fe, exec (.flowmeterPulse l) s = .next t ∧
      t = { s with lines := s.lines.set l { s.line l with fe := fe }, link := t.link } ∧ Reported s t [] ∧
      fe.fault = (s.line l).fe.fault ∧
      fe.count = min ((s.line l).fe.count + 1) 65535 ∧
      fe.pulses = min ((s.line l).fe.pulses + 1) 2 ∧
      fe.lastPulse = some s.supply.now ∧
      (∀ p, (s.line l).fe.lastPulse = some p → fe.pLast = some (max 1 (s.supply.now - p))) ∧
      ((s.line l).fe.lastPulse = none → fe.pLast = (s.line l).fe.pLast)

/-- The outputs by line state (R57, R58, R155): pump and bleed from the state and u, the permit closed in the started states
alone, and in LOCAL by the permit drop flag, with the loop closed and the supply good. -/
def Obligations.OutputsFollowTheState : Prop :=
  ∀ (s : State) (l : LineId),
    (s.supply.failed = true → s.pump l = 0 ∧ s.bleed l = 1000 ∧ s.permit l = false) ∧
    (s.supply.failed = false → s.live l = none → s.pump l = 0 ∧ s.bleed l = 1000 ∧ s.permit l = false) ∧
    (∀ v, s.supply.failed = false → s.live l = some v →
      (v.phase = .bound → s.pump l = 0 ∧ s.bleed l = 0) ∧
      (v.phase = .inject → (s.pump l : Int) = max 0 v.ctx.u ∧ (s.bleed l : Int) = max 0 (-v.ctx.u)) ∧
      (v.phase = .relief ∨ v.phase = .drain ∨ v.phase = .ended → s.pump l = 0 ∧ s.bleed l = 1000) ∧
      (v.phase = .hold ∨ v.phase = .starved ∨ v.phase = .localPanel → s.pump l = 0 ∧ s.bleed l = 0) ∧
      (s.permit l = true ↔ s.supply.loopOpen = false ∧ v.phase.started = true ∧
        (v.phase = .localPanel → (s.line l).permitDrop = false)))

/-! ### Samples -/

/-- Steps 1 to 4 of every sample (R39 to R42, R45, R48 to R52, R54): a current in 3600..21000 is converted and clamped, and
the transducer is healthy; any other is a fault and holds the last p_g; q, the volume, p_e and the take follow by the line's
state; the pulse count is taken and the sample timer restarts. The density is read for a planned mix. -/
def Obligations.SampleMeasures : Prop :=
  ∀ (s : State) (l : LineId) (v : Live) (current : Nat) (m : Mix), s.supply.failed = false → s.live l = some v →
    tfind s.store.mixes v.ctx.mix = some m →
    let fe := (s.line l).fe
    let cfg := s.lineCfg l
    let inRng := 3600 ≤ current ∧ current ≤ 21000
    let pg : Int :=
      if inRng then max 0 (min (cfg.span : Int) (trunc (((current : Int) - 4000) * cfg.span) 16000)) else v.ctx.lastPg
    let hg := m.density * v.ctx.midDepth * 981 / 1000000
    let hw := 1000 * v.ctx.waterDepth * 981 / 1000000
    let counting := v.phase ≠ .bound ∧ v.phase ≠ .ended
    ∃ t v', exec (.sample l current) s = .next t ∧ t.live l = some v' ∧
      (t.line l).fe = { fe with fault := decide ¬inRng, count := 0 } ∧
      (t.line l).sampleTimer = some cfg.interval ∧
      (v'.ctx.lastPg : Int) = pg ∧
      (v.phase ≠ .drain → (v'.ctx.lastPe : Int) = max 0 (pg + hg - hw)) ∧
      (v.phase = .drain → v'.ctx.lastPe = v.ctx.lastPe) ∧
      (fe.pulses < 2 → v'.ctx.lastQ = 0) ∧
      (∀ p, fe.lastPulse = some p → 600000 ≤ s.supply.now - p → v'.ctx.lastQ = 0) ∧
      (∀ p d, 2 ≤ fe.pulses → fe.lastPulse = some p → fe.pLast = some d → s.supply.now - p < 600000 →
        v'.ctx.lastQ = cfg.factor * 600 / max d (s.supply.now - p)) ∧
      (counting → v'.ctx.vol = v.ctx.vol + fe.count * cfg.factor ∧
        (fe.count * cfg.factor ≠ 0 → Instr.tankDraw v.ctx.tank (fe.count * cfg.factor) ∈ t.handoffs) ∧
        ∀ st, s.stageRec v.ctx.hole v.ctx.stage = some st →
          ∃ st', t.stageRec v.ctx.hole v.ctx.stage = some st' ∧
            st'.passVol = st.passVol + fe.count * cfg.factor ∧ st'.cumVol = st.cumVol + fe.count * cfg.factor) ∧
      (¬counting → v'.ctx.vol = v.ctx.vol ∧ t.store = s.store ∧ t.handoffs = s.handoffs) ∧
      (v.phase.started = true → v'.ctx.take = v'.ctx.vol / (10 * v.ctx.length)) ∧
      (v.phase.started = false → v'.ctx.take = v.ctx.take)

/-- A sample in BOUND or ENDED (R40, R54, R117): it measures for display and changes nothing else of the part. A line that is
IDLE has no sample timer, and a sample commanded there has no effect (log entry 12). -/
def Obligations.DisplaySampleOnlyMeasures : Prop :=
  ∀ (s : State) (l : LineId) (current : Nat), s.supply.failed = false →
    (s.live l = none → ∃ t, exec (.sample l current) s = .next t ∧ t = { s with link := t.link } ∧ Reported s t []) ∧
    ∀ v, s.live l = some v → v.phase = .bound ∨ v.phase = .ended →
    ∃ t pg pe q, exec (.sample l current) s = .next t ∧ Reported s t [] ∧
      t = { s with
        lines := s.lines.set l
          { s.line l with
            live := some { v with ctx := { v.ctx with lastPg := pg, lastPe := pe, lastQ := q } }
            sampleTimer := some (s.lineCfg l).interval
            fe := { (s.line l).fe with fault := !loopInRange current, count := 0 } }
        link := t.link }

/-- An INJECT sample that no end test ends and that is not over the limit (R85 to R89, R92 to R94, R96, R97, R102, R103, R9,
R46): ramp, target and refusal timer, then, where no pressure break holds, mix request, PI law, bookkeeping, store update,
draw, the notice, and the trace counter with its TRACE report; a pressure break takes the line to HOLD with BREAK (R92). A
faulted transducer takes a line in INJECT, RELIEF or STARVED to HOLD with SENSOR where tests (a) and (b) do not end the pass,
the sample running on the held p_g as a HOLD sample, without ramp or refusal test (R43, R69, R65). That a sample which breaks
the proof of refusal and leaves INJECT gives a notice for each (log entry 15), that the running image holds the refusal timer
(log entry 32) and not P_ramp (log entry 40), and that its elapsed time is taken on the 32-bit uptime (log entry 19), are the
model's choices. -/
def Obligations.InjectSampleRegulates : Prop :=
  ∀ (s : State) (l : LineId) (v : Live) (current : Nat), s.supply.failed = false → s.live l = some v →
    let c := v.ctx
    let cfg := s.lineCfg l
    let r := s.read l current c.lastPg
    let pe := s.pe c r.pg
    let take := (c.vol + r.dv) / (10 * c.length)
    let cap := s.cap c
    let ramp := min (c.pRamp + max 1 (c.limits.ramp * cfg.interval / 1000)) c.limits.pmax
    let ceiling := if take = 0 then cap else min cap (c.limits.gin * 1000 / take)
    let tgt := min ceiling ramp
    let qualifies := r.q ≤ c.limits.refFlow ∧ tgt ≤ pe + c.limits.refBand ∧ ceiling ≤ ramp
    let timer := if qualifies then c.refusalTimer + cfg.interval else 0
    let e : Int := (tgt : Int) - pe
    let ePrev := if c.first then e else c.ePrev
    let u := max (-1000) (min 1000 (c.u + (trunc (cfg.kp * (e - ePrev)) 32 + trunc (cfg.ki * e) 256)))
    let asks : Option Nat :=
      match stepAdvance c.ladder c.step with
      | none => none
      | some a =>
        if a ≤ take ∧ pe * 2 < cap ∧ c.pendingReq = none then stepMix c.ladder (c.step + 1) else none
    let kept : Context :=
      { c with
        vol := c.vol + r.dv, take := take, lastCap := cap, maxPe := max c.maxPe pe, lastPg := r.pg, lastPe := pe
        lastQ := r.q }
    let held : Context := { kept with u := 0, starve := none, refusalTimer := if v.phase = .inject then 0 else c.refusalTimer }
    let broken := c.first = false ∧ pe + c.limits.breakDrop ≤ c.lastPe ∧ c.lastQ ≤ r.q
    let noticed : List Instr := if 0 < c.refusalTimer ∧ timer = 0 then [.headExamination c.tank] else []
    let leads := fun (p : Phase) (x : Context) (handed : List Instr) (reports : List Report) =>
      ∃ t, exec (.sample l current) s = .next t ∧ SampledTo s t l v current p x handed reports
    take < c.limits.tmax → pe * take < c.limits.gin * 1000 →
    (v.phase = .inject → loopInRange current = true → (qualifies → timer < c.limits.refTime * 1000) →
      pe ≤ cap + c.limits.overshoot →
      (¬broken → s.roomFor 1 →
        leads .inject
          { kept with
            pRamp := ramp, lastPtgt := tgt, refusalTimer := timer, u := u, ePrev := e, first := false
            pendingReq := asks.or c.pendingReq }
          (asks.toList.map (fun m => .mixRequest c.tank l m) ++ noticed) []) ∧
      (broken → s.roomFor 2 →
        let x := { held with pRamp := ramp, lastPtgt := tgt, hold := { HoldSet.none with brk := true } }
        leads .hold x (.headExamination c.tank :: noticed) [lineChange s l .inject .hold (some .brk) x.hold none none])) ∧
    (loopInRange current = false → v.phase = .inject ∨ v.phase = .relief ∨ v.phase = .starved → s.roomFor 2 →
      let x := { held with lastPtgt := min ceiling c.pRamp, hold := { HoldSet.none with sensor := true } }
      leads .hold x (leaving v.phase c) [lineChange s l v.phase .hold (some .sensor) x.hold none none])

/-- The end tests at a sample (R89, R105, R102, R108, R77): in every started state a take at t_max ends the pass VOLUME, else
an intensity product at the GIN ends it INTENSITY, else in INJECT a refusal timer raised to the refusal time ends it REFUSAL;
the line is in DRAIN with its end latch filled from this sample, and carries no snapshot; its request is withdrawn (R129), its
tank handed the examinations due, and the LINE, MIXREQ and TRACE reports queued (R84, R97). A faulted transducer, with p_e on
the held p_g, ends the pass by the first two tests alike, after the entry to HOLD with SENSOR (R42, R43). A sample in RELIEF,
STARVED or HOLD that neither of them ends (R91, R98, R70, R71): RELIEF returns to INJECT at a p_e at or below the cap, with a
new ramp from it, and STARVED stays; HOLD takes no SENSOR cause, releases a SITE cause whose decay threshold is above p_e,
faulted or not, and is left where its set is then empty, with a new ramp from this p_e. That the MIXREQ report stands behind
the LINE and before the TRACE report (log entry 15), that a request whose end the tank has reported is not reported WITHDRAWN
again and that the notices say nothing more of it (log entry 26), that a decay which empties the set before the pass ends is
not reported (log entry 35), that an entry to INJECT clears the starve cause (log entry 41), that the running image holds the
refusal timer (log entry 32) and not P_ramp (log entry 40), and that its elapsed time is taken on the 32-bit uptime (log entry
19), are the model's choices. -/
def Obligations.SampleEndsThePass : Prop :=
  ∀ (s : State) (l : LineId) (v : Live) (current : Nat), s.supply.failed = false → s.live l = some v →
    v.phase.started = true →
    let c := v.ctx
    let r := s.read l current c.lastPg
    let pe := s.pe c r.pg
    let take := (c.vol + r.dv) / (10 * c.length)
    let cap := s.cap c
    let ramp := min (c.pRamp + max 1 (c.limits.ramp * (s.lineCfg l).interval / 1000)) c.limits.pmax
    let ceiling := if take = 0 then cap else min cap (c.limits.gin * 1000 / take)
    let qualifies := r.q ≤ c.limits.refFlow ∧ min ceiling ramp ≤ pe + c.limits.refBand ∧ ceiling ≤ ramp
    let volume := c.limits.tmax ≤ take
    let intensity := c.limits.gin * 1000 ≤ pe * take
    let refusal := v.phase = .inject ∧ loopInRange current = true ∧ qualifies ∧
      c.limits.refTime * 1000 ≤ c.refusalTimer + (s.lineCfg l).interval
    let kept : Context :=
      { c with
        vol := c.vol + r.dv, take := take, lastCap := cap, lastPtgt := min ceiling c.pRamp, maxPe := max c.maxPe pe
        lastPg := r.pg, lastPe := pe, lastQ := r.q }
    let decayed := (c.hold.site.bind (fun x => x.decay)).any (fun d => decide (pe < d)) = true
    let left := { kept with hold := { c.hold with site := none } }
    let e := s.entry left pe
    let held : Bool := !loopInRange current && v.phase ∈ [Phase.inject, .relief, .starved]
    let state : Phase := if held then .hold else v.phase
    let under := if state = .inject then ramp else c.pRamp
    let ended : Context :=
      { kept with
        lastPtgt := min ceiling under, pRamp := under, u := -1000, hold := HoldSet.none, starve := none, refusalTimer := 0
        pendingReq := none }
    let before : List Report :=
      (if held then
        [lineChange s l v.phase .hold (some .sensor) { HoldSet.none with sensor := true } none none] else []) ++
      (if v.phase = .hold ∧ decayed ∧ left.hold.isEmpty = false then
        [lineChange s l .hold .hold (some .site) left.hold c.starve (some .decay)] else [])
    let leads := fun (p : Phase) (x : Context) (handed : List Instr) (reports : List Report) =>
      ∃ t, exec (.sample l current) s = .next t ∧ SampledTo s t l v current p x handed reports
    (∀ o : PassOutcome,
      (volume ∧ o = .volume ∨ ¬volume ∧ intensity ∧ o = .intensity ∨ ¬volume ∧ ¬intensity ∧ refusal ∧ o = .refusal) →
      ∃ t, exec (.sample l current) s = .next t ∧ t.permit l = false ∧ t.pump l = 0 ∧ t.bleed l = 1000 ∧
        DrainedAtSample s t l v current
          { outcome := o, finalTake := take, finalPe := pe, finalProduct := pe * take, maxPe := max c.maxPe pe
            finalStep := c.step, reliefCount := c.reliefCount, snapshot := none, drainTime := 0 }
          ended [] (before ++ drainReports s l v state)) ∧
    (¬volume → ¬intensity → s.roomFor 2 →
      (v.phase = .relief → loopInRange current = true → pe ≤ cap →
        leads .inject { kept with pRamp := pe, u := 0, first := true, starve := none } [] []) ∧
      (v.phase = .relief → loopInRange current = true → cap < pe → leads .relief kept [] []) ∧
      (v.phase = .starved → loopInRange current = true → leads .starved kept [] []) ∧
      (v.phase = .hold → ¬decayed → c.hold.isEmpty = false → leads .hold kept [] []) ∧
      (v.phase = .hold → decayed → left.hold.isEmpty = false →
        leads .hold left [] [lineChange s l .hold .hold (some .site) left.hold c.starve (some .decay)]) ∧
      (v.phase = .hold → decayed → left.hold.isEmpty = true →
        leads e.1 e.2 (raised l left e.2)
          [lineChange s l .hold e.1 (some .site) e.2.hold e.2.starve (some .decay)]))

/-- The over-limit test of an INJECT sample (R89, R90, R106, R109): the relief is counted; within the limit the line is in
RELIEF with u −1000 and its permit as it was, and beyond it the pass ends UNSTABLE with a snapshot of this sample taken in
INJECT under the demand of the sample before, its request withdrawn (R77, R129); the tank is handed the examinations due, and
the MIXREQ and TRACE reports are queued (R65, R97, R103). That the MIXREQ report stands before the TRACE report and that a
sample which breaks the proof of refusal and leaves INJECT gives a notice for each (log entry 15), that a request whose end
the tank has reported is not reported WITHDRAWN again, that the notices say nothing more of it (log entry 26), that the
running image holds the refusal timer (log entry 32) and not P_ramp (log entry 40), and that its elapsed time is taken on the
32-bit uptime (log entry 19), are the model's choices. -/
def Obligations.OverLimitRelievesOrEndsUnstable : Prop :=
  ∀ (s : State) (l : LineId) (v : Live) (current : Nat), s.supply.failed = false → s.live l = some v →
    v.phase = .inject → loopInRange current = true →
    let c := v.ctx
    let r := s.read l current c.lastPg
    let pe := s.pe c r.pg
    let take := (c.vol + r.dv) / (10 * c.length)
    let cap := s.cap c
    let ramp := min (c.pRamp + max 1 (c.limits.ramp * (s.lineCfg l).interval / 1000)) c.limits.pmax
    let ceiling := if take = 0 then cap else min cap (c.limits.gin * 1000 / take)
    let qualifies := r.q ≤ c.limits.refFlow ∧ min ceiling ramp ≤ pe + c.limits.refBand ∧ ceiling ≤ ramp
    let timer := if qualifies then c.refusalTimer + (s.lineCfg l).interval else 0
    let noticed : List Instr := if 0 < c.refusalTimer ∧ timer = 0 then [.headExamination c.tank] else []
    let relieved : Context :=
      { c with
        vol := c.vol + r.dv, take := take, lastCap := cap, pRamp := ramp, lastPtgt := min ceiling ramp, u := -1000
        refusalTimer := 0, reliefCount := c.reliefCount + 1, maxPe := max c.maxPe pe, lastPg := r.pg, lastPe := pe
        lastQ := r.q }
    take < c.limits.tmax → pe * take < c.limits.gin * 1000 →
    (qualifies → c.refusalTimer + (s.lineCfg l).interval < c.limits.refTime * 1000) → cap + c.limits.overshoot < pe →
    ∃ t v', exec (.sample l current) s = .next t ∧ t.live l = some v' ∧
      v'.ctx.reliefCount = c.reliefCount + 1 ∧ v'.ctx.u = -1000 ∧ v'.ctx.refusalTimer = 0 ∧ v'.ctx.pRamp = ramp ∧
      v'.ctx.ePrev = c.ePrev ∧ v'.ctx.lastPe = pe ∧ t.pump l = 0 ∧ t.bleed l = 1000 ∧
      Instr.headExamination c.tank ∈ t.handoffs ∧
      (c.reliefCount + 1 ≤ c.limits.reliefLimit →
        v'.phase = .relief ∧ v'.latch = v.latch ∧ v'.ctx.hold = c.hold ∧ v'.ctx.pendingReq = c.pendingReq ∧
        t.permit l = s.permit l ∧
        (s.roomFor 1 → SampledTo s t l v current .relief relieved (.headExamination c.tank :: noticed) [])) ∧
      (c.limits.reliefLimit < c.reliefCount + 1 →
        v'.phase = .drain ∧ t.permit l = false ∧
        DrainedAtSample s t l v current
          { outcome := .unstable, finalTake := take, finalPe := pe, finalProduct := pe * take, maxPe := max c.maxPe pe
            finalStep := c.step, reliefCount := c.reliefCount + 1
            snapshot := some
              { uptime := s.uptime, phase := .inject, pg := r.pg, pe := pe, q := r.q, vol := c.vol + r.dv, take := take,
                ptgt := min ceiling ramp, cap := cap, u := c.u }
            drainTime := 0 }
          { relieved with hold := HoldSet.none, starve := none, pendingReq := none } noticed (drainReports s l v .inject))

/-- A LOCAL sample that does not end the pass (R85, R87, R88, R96, R97, R99, R9, R46): the permit drop flag is set by a fault
or an over-limit, cleared by a p_e at or below the cap, and kept between; the line stays in LOCAL with u, ramp and relief
count as they were, and with max p_e and the last values of the sample; the stage takes the volume and the running image, the
tank the draw, the trace counter advances, and a TRACE report is queued where it is due. Nothing else changes. That the
running image holds the refusal timer (log entry 32) and not P_ramp (log entry 40), and that its elapsed time is taken on the
32-bit uptime (log entry 19), are the model's choices. -/
def Obligations.LocalSampleTestsThePermit : Prop :=
  ∀ (s : State) (l : LineId) (v : Live) (current : Nat), s.supply.failed = false → s.live l = some v →
    v.phase = .localPanel →
    let c := v.ctx
    let r := s.read l current c.lastPg
    let pe := s.pe c r.pg
    let take := (c.vol + r.dv) / (10 * c.length)
    let cap := s.cap c
    let ceiling := if take = 0 then cap else min cap (c.limits.gin * 1000 / take)
    take < c.limits.tmax → pe * take < c.limits.gin * 1000 →
    ∃ t v', exec (.sample l current) s = .next t ∧ t.live l = some v' ∧ v'.phase = .localPanel ∧ v'.ctx.u = c.u ∧
      v'.ctx.reliefCount = c.reliefCount ∧
      ((t.line l).permitDrop = true ↔
        loopInRange current = false ∨ cap + c.limits.overshoot < pe ∨ cap < pe ∧ (s.line l).permitDrop = true) ∧
      (s.supply.loopOpen = false → t.permit l = !(t.line l).permitDrop) ∧
      (s.roomFor 1 →
        SampledTo (s.setLine l { s.line l with permitDrop := (t.line l).permitDrop }) t l v current .localPanel
          { c with
            vol := c.vol + r.dv, take := take, lastCap := cap, lastPtgt := min ceiling c.pRamp, maxPe := max c.maxPe pe
            lastPg := r.pg, lastPe := pe, lastQ := r.q } [] [])

/-- The drain (R97, R101, R110, R111, R112, R115): the drain time grows by the interval; at p_g ≤ 50 kPa, or else at 120 s,
the end of the pass is written whole and the line is in ENDED, with STAGE_END queued; otherwise it stays in DRAIN. The trace
counter advances, and the P_int of a TRACE report due is left open (log entry 4), and TRACE stands before STAGE_END. That the
running image holds the refusal timer (log entry 32) and not P_ramp (log entry 40), and that durations are taken on the 32-bit
uptime (log entry 19), are the model's choices. -/
def Obligations.DrainEndsByPressureOrTime : Prop :=
  ∀ (s : State) (l : LineId) (v : Live) (e : EndLatch) (st : Stage) (current : Nat), s.supply.failed = false →
    s.live l = some v → v.phase = .drain → v.latch = some e → s.stageRec v.ctx.hole v.ctx.stage = some st →
    s.roomFor 2 →
    let c := v.ctx
    let r := s.read l current c.lastPg
    let drained := e.drainTime + (s.lineCfg l).interval
    let ends := r.pg ≤ 50 ∨ 120000 ≤ drained
    let record : OutcomeRecord :=
      { outcome := e.outcome, finalTake := e.finalTake, maxPe := e.maxPe, finalPe := e.finalPe
        finalProduct := e.finalProduct, finalStep := e.finalStep, reliefCount := e.reliefCount
        duration := secondsSince s.uptime (c.startUptime.getD s.uptime), drainTimeout := decide (50 < r.pg)
        snapshot := e.snapshot }
    let status : StageStatus :=
      if e.outcome = .refusal ∨ e.outcome = .intensity ∨ e.outcome = .volume then .complete else .opened
    let phase : Phase := if ends then .ended else .drain
    let c' := { c with vol := c.vol + r.dv, lastPg := r.pg, lastQ := r.q }
    ∃ t st' pint, exec (.sample l current) s = .next t ∧ t.stageRec c.hole c.stage = some st' ∧
      (∀ k, k ≠ stageKey c.hole c.stage → tfind t.store.stages k = tfind s.store.stages k) ∧
      st'.passVol = st.passVol + r.dv ∧ st'.cumVol = st.cumVol + r.dv ∧ st'.pass = st.pass ∧ st'.prior = st.prior ∧
      t = { s with
        store := { s.store with stages := t.store.stages }
        lines := s.lines.set l
          { s.line l with
            live := some { phase := phase, ctx := c', latch := some { e with drainTime := drained } }
            sampleTimer := some (s.lineCfg l).interval
            traceCounter := s.nextTrace l
            fe := { (s.line l).fe with fault := r.fault, count := 0 } }
        handoffs := s.handoffs ++ (if r.dv = 0 then [] else [.tankDraw c.tank r.dv])
        freeCount := s.freeCount + 1
        link := t.link } ∧
      (¬ends → Reported s t (traceReports s t l phase c' pint) ∧ StageSampled s t .drain c' r.dv) ∧
      (ends →
        st' = { st with
          passVol := st.passVol + r.dv, cumVol := st.cumVol + r.dv, status := status, outcome := some record, image := none } ∧
        Reported s t (traceReports s t l phase c' pint ++ [.stageEnd
          { uptime := s.uptime, line := l, hole := c.hole, stage := c.stage, pass := c.pass, record := record
            status := status, passVol := st.passVol + r.dv, cumVol := st.cumVol + r.dv, holeClosed := t.holeClosed c.hole }]))

/-! ### Tanks -/

/-- TANKCFG (R124, R120, R121, R136): the reserve is stored, clamped to 20000..500000 mL; the bound lines are notified where
it has changed; a changed state is reported. That a notice waits at its line behind those the line has not taken is the
model's choice (log entry 9). -/
def Obligations.TankcfgStoresTheReserve : Prop :=
  ∀ (s : State) (tag : Byte) (reserve : Nat), s.Listening → s.roomFor 1 →
    (∀ tank, ¬(1 ≤ tank ∧ tank ≤ 2) → AnswersOnly (.tankcfg tag tank reserve) s 0x91 tag .range []) ∧
    ∀ k : TankId,
      let r := max 20000 (min reserve 500000)
      ∃ t, exec (.tankcfg tag (k.val + 1) reserve) s = .next t ∧
        t = { s with
          store := { s.store with reserve := s.store.reserve.set k r }
          lines := t.lines, handoffs := t.handoffs, link := t.link } ∧
        (r = s.reserve k → t.lines = s.lines ∧ t.handoffs = s.handoffs) ∧
        (r ≠ s.reserve k → Notified s t k) ∧
        Answered s t 0x91 tag (if r = reserve then .ok else .okAdjusted) (u32 r)
          (if s.tankState k = t.tankState k then [] else [tankChange s t k .tankcfg none [] 0])

/-- A draw (R123, R121, R136): it is debited in full, what the contents cannot cover as overdraw; the bound lines are notified
where the contents have changed; a changed state is reported. That the oldest waiting hand-off of this draw is taken with it
(log entry 3), and that a notice waits at its line behind those the line has not taken (log entry 9), are the model's
choices. -/
def Obligations.DrawIsDebitedInFull : Prop :=
  ∀ (s : State) (k : TankId) (volume : Nat), s.supply.failed = false → s.roomFor 1 →
    let before := { s with handoffs := s.handoffs.erase (.tankDraw k volume) }
    let part := min volume (s.tank k).contents
    ∃ t, exec (.tankDraw k volume) s = .next t ∧
      t = { s with
        tanks := s.tanks.set k { s.tank k with
          contents := (s.tank k).contents - part, drawn := (s.tank k).drawn + part
          overdraw := (s.tank k).overdraw + (volume - part) }
        lines := t.lines, handoffs := t.handoffs, link := t.link } ∧
      (part = 0 → t.lines = s.lines ∧ t.handoffs = before.handoffs) ∧
      (part ≠ 0 → Notified before t k) ∧
      Reported s t (if s.tankState k = t.tankState k then [] else [tankChange s t k .draw none [] 0])

/-- BATCH (R125, R130 to R134, R136, R137): an UNSET tank, which no request waits on, adopts the mix and settles its lines;
the volume is delivered, the excess over the capacity goes to waste, and the batch flag is set; a head that waits for another
mix is then withheld while another line is proving refusal, and otherwise granted its changeover in the same event, where no
entry left behind it, of a line that does not follow, names the new mix. That a BATCH of another mix than the tank's is
answered CONFLICT also where it repeats one whose first taking changed the tank over (log entry 39; R182's table says OK),
that the answer's waste is the excess alone, with contents and state after the whole event (log entry 28), that one notice
carries what the event tells a line, until the line takes it (log entry 9), that a new head left by a granted or satisfied
head is examined in the same event (log entry 43), that a BATCH which changes the state and then grants a changeover queues a
TANK report of each, with its own amount sent to waste (log entry 45), that the tank reads the lines' steps and requests as
the notices on their way leave them (log entry 10), and that the TANK report lists the followers in the order of their numbers
(log entry 38), are the model's choices. -/
def Obligations.BatchFillsTheTank : Prop :=
  ∀ (s : State) (tag : Byte) (tank mix volume : Nat), s.Listening → s.roomFor 8 →
    let c : Instr := .batch tag tank mix volume
    let ranged := inRange 1 8 mix = true ∧ inRange 1 1500 volume = true
    let planned := (tfind s.store.mixes mix).isSome = true
    (¬(1 ≤ tank ∧ tank ≤ 2 ∧ ranged) → AnswersOnly c s 0xA0 tag .range []) ∧
    ∀ k : TankId, tank = k.val + 1 → ranged →
      let tk := s.tank k
      let excess := tk.contents + volume * 1000 - 1500000
      let filled : Tank :=
        { tk with
          mix := some mix, delivered := tk.delivered + volume * 1000, waste := tk.waste + excess
          contents := tk.contents + volume * 1000 - excess, batchSince := true }
      let mid := { s with tanks := s.tanks.set k filled }
      let frame := fun (t : State) (x : Tank) =>
        t = { s with tanks := s.tanks.set k x, lines := t.lines, handoffs := t.handoffs, link := t.link }
      let body := fun (t : State) => u32 (t.tank k).contents ++ u32 excess ++ u8 (t.tankState k).code
      let change := if s.tankState k = mid.tankState k then [] else [tankChange s mid k .batch none [] 0]
      (¬planned → AnswersOnly c s 0xA0 tag .notPlanned []) ∧
      (∀ m, planned → tk.mix = some m → m ≠ mix → AnswersOnly c s 0xA0 tag .conflict []) ∧
      (planned → tk.mix = none → tk.queue = [] →
        ∃ t, exec c s = .next t ∧ frame t filled ∧ SettledOn s t k mix [] ∧
          Answered s t 0xA0 tag .ok (body t)
            [tankChange s t k .adopt none (s.followers k mix) (s.mismatched k mix)]) ∧
      (planned → tk.mix = some mix → (tk.queue = [] ∨ ∃ l m rest, tk.queue = (l, m) :: rest ∧ m ≠ mix ∧ s.refuses k l) →
        ∃ t, exec c s = .next t ∧ frame t filled ∧
          (tk.contents = filled.contents → t.lines = s.lines ∧ t.handoffs = s.handoffs) ∧
          (tk.contents ≠ filled.contents → Notified s t k) ∧
          Answered s t 0xA0 tag .ok (body t) change) ∧
      (∀ l m rest, planned → tk.mix = some mix → tk.queue = (l, m) :: rest → m ≠ mix → ¬s.refuses k l →
        ((s.leftIn k m rest).head?).all (fun q => q.2 != m) = true →
        ∃ t, exec c s = .next t ∧ frame t (filled.changedOver m (s.leftIn k m rest)) ∧ SettledOn s t k m tk.queue ∧
          Answered s t 0xA0 tag .ok (body t)
            (change ++ tankChange mid t k .changeover (some l) (s.followers k m) (s.mismatched k m) ::
              s.settledReports k m tk.queue (some l)))

/-- EMPTY (R121, R126, R130, R132, R136, R137): the contents go to waste and the tank is UNSET; with no request waiting its
bound lines are notified; a head that waits is adopted at once, in the same event with two TANK reports, where the entry then
left at the head, if one is, names another mix and is withheld. That an EMPTY of an UNSET tank queues no report of its own
(log entry 16), that one notice carries what the event tells a line, until the line takes it (log entry 9), that a new head
left by a granted or satisfied head is examined in the same event (log entry 43), that the tank reads the lines' steps and
requests as the notices on their way leave them (log entry 10), and that the TANK report lists the followers in the order of
their numbers (log entry 38), are the model's choices. -/
def Obligations.EmptyDumpsTheTank : Prop :=
  ∀ (s : State) (tag : Byte), s.Listening → s.roomFor 8 →
    (∀ tank, ¬(1 ≤ tank ∧ tank ≤ 2) → AnswersOnly (.empty tag tank) s 0xA1 tag .range []) ∧
    ∀ k : TankId,
      let tk := s.tank k
      let dumped : Tank := { tk with waste := tk.waste + tk.contents, contents := 0, mix := none, batchSince := false }
      let mid := { s with tanks := s.tanks.set k dumped }
      let frame := fun (t : State) (x : Tank) =>
        t = { s with tanks := s.tanks.set k x, lines := t.lines, handoffs := t.handoffs, link := t.link }
      let change := if tk.mix = none then [] else [tankChange s mid k .empty none [] 0]
      (tk.queue = [] →
        ∃ t, exec (.empty tag (k.val + 1)) s = .next t ∧ frame t dumped ∧
          (tk.mix = none → tk.contents = 0 → t.lines = s.lines ∧ t.handoffs = s.handoffs) ∧
          (tk.mix ≠ none ∨ tk.contents ≠ 0 → Notified s t k) ∧
          Answered s t 0xA1 tag .ok (u32 tk.contents) change) ∧
      (∀ l m rest, tk.queue = (l, m) :: rest →
        (∀ q, (s.leftIn k m rest).head? = some q → q.2 ≠ m ∧ (s.refuses k q.1 ∨ tk.changeMade = true)) →
        ∃ t, exec (.empty tag (k.val + 1)) s = .next t ∧
          frame t { dumped with mix := some m, queue := s.leftIn k m rest } ∧
          SettledOn s t k m tk.queue ∧
          Answered s t 0xA1 tag .ok (u32 tk.contents)
            (change ++ tankChange mid t k .adopt (some l) (s.followers k m) (s.mismatched k m) ::
              s.settledReports k m tk.queue (some l)))

/-- A mix request at its tank (R121, R128, R130 to R134, R137): discarded where the line no longer holds it, or a notice on
its way clears it (the model's choice, log entry 10); satisfied at once by the tank's own mix, with a notice to every bound
line where the line's step moves; else the line's entry is replaced in its place, or added at the tail. An entry that becomes
the head is withheld while another line of the tank is proving refusal or a batch is awaited, and is otherwise granted at
once, by adoption where the tank is UNSET and by changeover where it is not. That the oldest waiting hand-off of the request
is taken with it (log entry 3), that a notice carries the step and the cleared request to the line (log entry 9), that a new
head left by a granted or satisfied head is examined in the same event (log entry 43), that the tank reads the lines' steps
and requests as the notices on their way leave them (log entry 10), and that the TANK report lists the followers in the order
of their numbers (log entry 38), are the model's choices. -/
def Obligations.MixRequestJoinsTheQueue : Prop :=
  ∀ (s : State) (k : TankId) (l : LineId) (m : Nat), s.supply.failed = false → s.roomFor 3 →
    let c : Instr := .mixRequest k l m
    let base := { s with handoffs := s.handoffs.erase c }
    let tk := s.tank k
    let bound := fun x => (s.ctx x).any (fun d => d.tank == k)
    (((∀ v, s.live l = some v → v.ctx.tank ≠ k ∨ v.phase = .drain ∨ v.phase = .ended ∨ v.ctx.pendingReq ≠ some m)) →
      ∃ t, exec c s = .next t ∧ t = { base with link := t.link } ∧ Reported s t []) ∧
    ∀ v, s.live l = some v → v.ctx.tank = k → v.phase ≠ .drain → v.phase ≠ .ended → v.ctx.pendingReq = some m →
      let step := (s.line l).step v.ctx
      let entry := fun (d : Disposition) (pos j : Nat) =>
        Report.mixreq { tank := k, line := l, mix := m, disposition := d, position := pos, step := j }
      let pends := ((s.line l).pending v.ctx).isSome = true
      let fresh := ∀ q ∈ tk.queue, q.1 ≠ l
      let frame := fun (t : State) (x : Tank) =>
        t = { s with tanks := s.tanks.set k x, lines := t.lines, handoffs := t.handoffs, link := t.link }
      (∀ j, tk.mix = some m → (laterStep v.ctx.ladder 1 m).getD v.ctx.step = j →
        ∃ t, exec c s = .next t ∧
          t = { base with
            lines := t.lines
            handoffs := base.handoffs ++
              (allLines.filter (fun x => x == l || (decide (j ≠ step) && bound x))).map .tankNotice
            link := t.link } ∧
          (∀ x, t.line x = { s.line x with notices := (s.line x).notices ++
            if (x = l) then [{ step := some j, pend := some none, mismatch := none, reported := true }]
            else if (j ≠ step ∧ bound x = true) then [Notice.plain] else [] }) ∧
          Reported s t [entry .satisfied 0 j]) ∧
      (tk.mix ≠ some m → ¬pends →
        ∃ t, exec c s = .next t ∧ t = { base with link := t.link } ∧ Reported s t []) ∧
      (∀ pos, tk.mix ≠ some m → pends → tk.queue.findIdx (fun q => q.1 == l) = pos → pos < tk.queue.length →
        ∃ t, exec c s = .next t ∧
          t = { base with
            tanks := s.tanks.set k { tk with queue := tk.queue.map (fun q => if q.1 = l then (l, m) else q) }
            link := t.link } ∧
          Reported s t [entry .queued (pos + 1) step]) ∧
      (tk.mix ≠ some m → pends → fresh → (tk.queue ≠ [] ∨ tk.mix.isSome = true ∧ (s.refuses k l ∨ tk.awaits)) →
        ∃ t, exec c s = .next t ∧
          t = { base with tanks := s.tanks.set k { tk with queue := tk.queue ++ [(l, m)] }, link := t.link } ∧
          Reported s t [entry .queued (tk.queue.length + 1) step]) ∧
      (pends → tk.queue = [] → tk.mix = none →
        ∃ t, exec c s = .next t ∧ frame t { tk with mix := some m, batchSince := false } ∧
          SettledOn base t k m [(l, m)] ∧
          Reported s t (tankChange s t k .adopt (some l) (s.followers k m) (s.mismatched k m) ::
            entry .queued 1 step :: s.settledReports k m [(l, m)] (some l))) ∧
      (∀ cur, pends → tk.queue = [] → tk.mix = some cur → cur ≠ m → ¬s.refuses k l → ¬tk.awaits →
        ∃ t, exec c s = .next t ∧ frame t (tk.changedOver m []) ∧ SettledOn base t k m [(l, m)] ∧
          Reported s t (tankChange s t k .changeover (some l) (s.followers k m) (s.mismatched k m) ::
            entry .queued 1 step :: s.settledReports k m [(l, m)] (some l)))

/-- The hand-off of a START on an UNSET tank (R130, R132, R136, R137): the tank takes the line's mix without dumping and
settles its lines. A tank that has been given the line's mix in between notifies the line; one given another mix takes the
hand-off as the line's request, which waits, or becomes the head and is withheld or granted. That the hand-off of a line that
is gone, in DRAIN or ENDED, bound elsewhere, or with a request pending is then discarded (log entry 21), that the oldest
waiting hand-off of the same content is taken with the event (log entry 3), that a notice carries the request and the mismatch
to the line, which writes them when it takes it (log entry 9), that a new head left by a granted or satisfied head is examined
in the same event (log entry 43), that the tank reads the lines' steps and requests as the notices on their way leave them
(log entry 10), and that the TANK report lists the followers in the order of their numbers (log entry 38), are the model's
choices. -/
def Obligations.AdoptSetsTheMix : Prop :=
  ∀ (s : State) (k : TankId) (l : LineId) (m : Nat), s.supply.failed = false → s.roomFor 7 →
    let c : Instr := .adopt k l m
    let base := { s with handoffs := s.handoffs.erase c }
    let tk := s.tank k
    let frame := fun (t : State) (x : Tank) =>
      t = { s with tanks := s.tanks.set k x, lines := t.lines, handoffs := t.handoffs, link := t.link }
    (tk.mix = none →
      ∃ t, exec c s = .next t ∧ SettledOn base t k m tk.queue ∧
        frame t { tk with mix := some m, batchSince := false, queue := s.leftIn k m tk.queue } ∧
        Reported s t (tankChange s t k .adopt (some l) (s.followers k m) (s.mismatched k m) ::
          s.settledReports k m tk.queue none)) ∧
    (∀ cur, tk.mix = some cur → s.live l = none →
      ∃ t, exec c s = .next t ∧ t = { base with link := t.link } ∧ Reported s t []) ∧
    ∀ cur v, tk.mix = some cur → s.live l = some v →
      let step := (s.line l).step v.ctx
      let own := (stepMix v.ctx.ladder step).getD 0
      let asks := own ≠ cur ∧ v.ctx.tank = k ∧ v.phase ≠ .drain ∧ v.phase ≠ .ended ∧
        (s.line l).unreported v.ctx = none
      let sent := fun (t : State) (n : Notice) (x : Tank) =>
        t = { base with
          tanks := s.tanks.set k x
          lines := s.lines.set l { s.line l with notices := (s.line l).notices ++ [n] }
          handoffs := base.handoffs ++ [.tankNotice l], link := t.link }
      let queued := fun (pos : Nat) => Report.mixreq
        { tank := k, line := l, mix := own, disposition := .queued, position := pos, step := step }
      (own = cur → ∃ t, exec c s = .next t ∧ Reported s t [] ∧ sent t Notice.plain tk) ∧
      (own ≠ cur → ¬asks → ∃ t, exec c s = .next t ∧ t = { base with link := t.link } ∧ Reported s t []) ∧
      (asks → (∀ q ∈ tk.queue, q.1 ≠ l) → (tk.queue ≠ [] ∨ s.refuses k l ∨ tk.awaits) →
        ∃ t, exec c s = .next t ∧ Reported s t [queued (tk.queue.length + 1)] ∧
          sent t { step := none, pend := some (some own), mismatch := some true, reported := false }
            { tk with queue := tk.queue ++ [(l, own)] }) ∧
      (asks → s.follows k own l = true → tk.queue = [] → ¬s.refuses k l → ¬tk.awaits →
        ∃ t, exec c s = .next t ∧ frame t (tk.changedOver own []) ∧ SettledOn base t k own [(l, own)] ∧
          Reported s t (tankChange s t k .changeover (some l) (s.followers k own) (s.mismatched k own) ::
            queued 1 :: s.settledReports k own [(l, own)] (some l)))

/-- The examination of the head of a queue (R128, R130 to R134, R136, R137): nothing to do on an empty queue; a head of the
tank's own mix is satisfied, where the entry behind it, if one is, is withheld; another is withheld while another bound line
is proving refusal or a batch is awaited, and otherwise its changeover dumps the charge; an UNSET tank adopts its mix. The
change sets the mix, settles every bound line and removes the head and the followers' entries, with their MIXREQ reports,
where the entry then left at the head, if one is, names another mix and is withheld. That the oldest waiting hand-off of the
examination is taken with it (log entry 3), that a notice carries what it tells the line until the line takes it (log entry
9), that a new head left by a granted or satisfied head is examined in the same event (log entry 43), that the tank reads the
lines' steps and requests as the notices on their way leave them (log entry 10), and that the TANK report lists the followers
in the order of their numbers (log entry 38), are the model's choices. -/
def Obligations.HeadExaminationGrantsOrWithholds : Prop :=
  ∀ (s : State) (k : TankId), s.supply.failed = false → s.roomFor 7 →
    let c : Instr := .headExamination k
    let base := { s with handoffs := s.handoffs.erase c }
    let tk := s.tank k
    let frame := fun (t : State) (x : Tank) =>
      t = { s with tanks := s.tanks.set k x, lines := t.lines, handoffs := t.handoffs, link := t.link }
    (tk.queue = [] → ∃ t, exec c s = .next t ∧ t = { base with link := t.link } ∧ Reported s t []) ∧
    (∀ l m rest v j, tk.queue = (l, m) :: rest → tk.mix = some m → s.live l = some v → v.ctx.tank = k →
      (laterStep v.ctx.ladder 1 m).getD v.ctx.step = j →
      (∀ q, rest.head? = some q → q.2 ≠ m ∧ (s.refuses k q.1 ∨ tk.awaits)) →
      let moved := decide (j ≠ (s.line l).step v.ctx)
      let bound := fun x => (s.ctx x).any (fun d => d.tank == k)
      ∃ t, exec c s = .next t ∧ frame t { tk with queue := rest } ∧
        t.handoffs = base.handoffs ++ (allLines.filter (fun x => x == l || (moved && bound x))).map .tankNotice ∧
        (∀ x, t.line x = { s.line x with notices := (s.line x).notices ++
          if (x = l) then [{ step := some j, pend := some none, mismatch := none, reported := true }]
          else if (moved && bound x) then [Notice.plain] else [] }) ∧
        Reported s t [.mixreq { tank := k, line := l, mix := m, disposition := .satisfied, position := 0, step := j }]) ∧
    (∀ l m rest, tk.queue = (l, m) :: rest → tk.mix = none →
      (∀ q, (s.leftIn k m rest).head? = some q → q.2 ≠ m ∧ (s.refuses k q.1 ∨ tk.changeMade = true)) →
      ∃ t, exec c s = .next t ∧ SettledOn base t k m tk.queue ∧
        frame t { tk with mix := some m, batchSince := false, queue := s.leftIn k m rest } ∧
        Reported s t (tankChange s t k .adopt (some l) (s.followers k m) (s.mismatched k m) ::
          s.settledReports k m tk.queue (some l))) ∧
    ∀ l m rest cur, tk.queue = (l, m) :: rest → tk.mix = some cur → cur ≠ m →
      (s.refuses k l ∨ tk.awaits →
        ∃ t, exec c s = .next t ∧ t = { base with link := t.link } ∧ Reported s t []) ∧
      (¬s.refuses k l → ¬tk.awaits → ((s.leftIn k m rest).head?).all (fun q => q.2 != m) = true →
        ∃ t, exec c s = .next t ∧ SettledOn base t k m tk.queue ∧ frame t (tk.changedOver m (s.leftIn k m rest)) ∧
          Reported s t (tankChange s t k .changeover (some l) (s.followers k m) (s.mismatched k m) ::
            s.settledReports k m tk.queue (some l)))

/-- A line takes its tank's oldest notice (R121, R66, R67, R130): the moved step and its request as the notice gives them;
then in INJECT or RELIEF it starves where it is not supplied, in STARVED it examines its supply, in BOUND, HOLD and LOCAL it
raises a request where a change of mix left it mismatched, and in DRAIN and ENDED it does nothing more. That the oldest
waiting hand-off of the notice is taken with it (log entry 3), that the notice carries the request and the mismatch, and that
an event without a notice acts as one that moves nothing (log entry 9), that an IDLE line does nothing with one (log entry
24), and that an entry to INJECT clears the starve cause (log entry 41), are the model's choices. -/
def Obligations.NoticeStarvesOrFeedsTheLine : Prop :=
  ∀ (s : State) (l : LineId), s.supply.failed = false →
    let hs := s.handoffs.erase (.tankNotice l)
    (s.live l = none → ∃ t, exec (.tankNotice l) s = .next t ∧ Reported s t [] ∧
      t = { s with
        lines := s.lines.set l { s.line l with notices := (s.line l).notices.tail }, handoffs := hs, link := t.link }) ∧
    ∀ v : Live, s.roomFor 1 → s.live l = some v →
    let n := (s.line l).notices.head?.getD Notice.plain
    let c : Context :=
      { v.ctx with
        step := n.step.getD v.ctx.step
        pendingReq :=
          match n.pend with
          | none => v.ctx.pendingReq
          | some none => none
          | some (some m) => if v.phase = .drain ∨ v.phase = .ended then v.ctx.pendingReq else some m }
    let e := s.entry c c.lastPe
    let frame := fun (t : State) (p : Phase) (x : Context) (more : List Instr) =>
      exec (.tankNotice l) s = .next t ∧
      t = { s with
        lines := s.lines.set l
          { s.line l with
            live := some { phase := p, ctx := x, latch := v.latch }, notices := (s.line l).notices.tail }
        handoffs := hs ++ more, link := t.link }
    (v.phase = .inject ∨ v.phase = .relief → e.1 = .inject → ∃ t, frame t v.phase c [] ∧ Reported s t []) ∧
    (v.phase = .inject ∨ v.phase = .relief → e.1 = .starved →
      let x := { e.2 with refusalTimer := if v.phase = .inject then 0 else c.refusalTimer }
      ∃ t, frame t .starved x (leaving v.phase c ++ raised l c e.2) ∧
        Reported s t [lineChange s l v.phase .starved none x.hold x.starve none]) ∧
    (v.phase = .starved → ∃ t, frame t e.1 e.2 (raised l c e.2) ∧
      Reported s t (if e.1 = .starved ∧ e.2.starve = c.starve then []
        else [lineChange s l .starved e.1 none e.2.hold e.2.starve none])) ∧
    (v.phase = .bound ∨ v.phase = .hold ∨ v.phase = .localPanel →
      let asks := n.mismatch = some true ∧ (∃ m, (s.tank c.tank).mix = some m ∧ m ≠ c.mix) ∧ c.pendingReq = none
      (¬asks → ∃ t, frame t v.phase c [] ∧ Reported s t []) ∧
      (asks → ∃ t, frame t v.phase { c with pendingReq := some c.mix } [.mixRequest c.tank l c.mix] ∧ Reported s t [])) ∧
    (v.phase = .drain ∨ v.phase = .ended → ∃ t, frame t v.phase c [] ∧ Reported s t [])

/-! ### Uplift -/

/-- GAUGECFG (R139, R140, R146, R151, R152): refused for a number or a zone out of range, and IN_USE where it would change a
guard of a started line; the record is stored with the span clamped; a change of zone or span, and a disabling, clear what was
measured; the zone left and the zone joined are judged, each reported where its state changes, in the order of their numbers,
and the scan follows; a fault cleared so is reported before them and releases GAUGE. That the report names the zone left (log
entry 17), and lists its lines in the order of their numbers (log entry 38), that the lines act in that order (log entry 47),
that an entry to INJECT clears the starve cause (log entry 41), and that a span clamped to the stored one is answered
OK_ADJUSTED where nothing changes (log entry 44), are the model's choices. -/
def Obligations.GaugecfgWritesTheGauge : Prop :=
  ∀ (s : State) (tag : Byte) (gauge enabled zone span : Nat), s.Listening →
    let c : Instr := .gaugecfg tag gauge enabled zone span
    let sp := max 1000 (min span 10000)
    let res : Result := if sp = span then .ok else .okAdjusted
    (¬(1 ≤ gauge ∧ gauge ≤ 16 ∧ (enabled = 0 ∨ enabled = 1) ∧ 1 ≤ zone ∧ zone ≤ 4) → AnswersOnly c s 0x92 tag .range []) ∧
    ∀ (g : GaugeId) (z : ZoneId) (en : Bool), gauge = g.val + 1 → zone = z.val + 1 → flagOf enabled = some en →
      let old := s.gaugeCfg g
      let same := old.enabled = en ∧ old.zone = z ∧ old.span = sp
      let judged := allZones.filter (fun y => y == old.zone || y == z)
      let guarding := (old.enabled = true ∨ en = true) ∧
        ∃ l v, s.live l = some v ∧ v.phase.started = true ∧
          (hasZone v.ctx.zones old.zone = true ∨ hasZone v.ctx.zones z = true)
      (same → AnswersOnly c s 0x92 tag res (u16 sp)) ∧
      (¬same → guarding → AnswersOnly c s 0x92 tag .inUse []) ∧
      (¬same → ¬guarding →
        ∃ t, exec c s = .next t ∧ AnsweredBy s t 0x92 tag res (u16 sp) ∧
          t = { s with
            store := { s.store with
              gaugeCfg := s.store.gaugeCfg.set g
                { enabled := en, zone := z, span := sp
                  baseline := if old.zone = z ∧ old.span = sp then old.baseline else 0 } }
            gauges := s.gauges.set g
              (if old.zone ≠ z ∨ old.span ≠ sp ∨ old.enabled = true ∧ en = false
                then { reading := none, fault := false, rail := 0, trips := 0 } else s.gauge g)
            zoneWarn := t.zoneWarn, scan := t.scan, lines := t.lines, handoffs := t.handoffs, link := t.link } ∧
          Judged s t (fun y => y = old.zone ∨ y = z) ∧
          (s.scan = none → t.scan = if en then some { gauge := g, left := Config.dwellTime } else none) ∧
          (∀ x, s.scan = some x → x.gauge = g → en = false → t.movedOn g) ∧
          (∀ x, s.scan = some x → (x.gauge ≠ g ∨ en = true) → t.scan = some x) ∧
          ((t.gauge g).fault = (s.gauge g).fault →
            t.lines = s.lines ∧ t.handoffs = s.handoffs ∧
              ((∀ y, t.zoneState y = s.zoneState y) → t.reportsOut = s.reportsOut) ∧
              (s.roomFor 2 → Answered s t 0x92 tag res (u16 sp) (zoneChanges s t judged .gaugecfg (fun _ => [])))) ∧
          ((s.gauge g).fault = true → (t.gauge g).fault = false →
            ReleasedOn s t t.faultFree .gauge ∧
              (s.roomFor 1 → ∃ rs, t.reportsOut = s.reportsOut ++
                gaugeChange s t g old.zone .gaugecfg (s.gaugeReleases t old.zone) :: rs) ∧
              (s.roomFor 3 → ∃ rs, t.reportsOut = s.reportsOut ++
                gaugeChange s t g old.zone .gaugecfg (s.gaugeReleases t old.zone) ::
                  zoneChanges s t judged .gaugecfg (s.gaugeReleases t) ++ rs)))

/-- ZONECFG (R144, R146, R149): the thresholds are stored, each clamped, the trip above the stored warn; the zone is judged
against the new warn; a new routing acts at once on the lines of a zone in TRIP, and one from HOLD to REPORT takes the zone
out of every HEAVE cause. That a ZONECFG which stores the routing that stands acts on no line (log entry 23), and that the
notices on their way say nothing more of the request of a drained line (log entry 26), are the model's choices. -/
def Obligations.ZonecfgStoresTheThresholds : Prop :=
  ∀ (s : State) (tag : Byte) (zone warn trip derate routing : Nat), s.Listening →
    let c : Instr := .zonecfg tag zone warn trip derate routing
    let w := max 10 (min warn 2000)
    let p := max (max 11 (min trip 10000)) (w + 1)
    let d := max 30 (min derate 100)
    (¬(1 ≤ zone ∧ zone ≤ 4 ∧ 1 ≤ routing ∧ routing ≤ 3) → AnswersOnly c s 0x93 tag .range []) ∧
    ∀ (z : ZoneId) (r : Routing), zone = z.val + 1 → routingOf routing = some r →
      let old := (s.zoneCfg z).routing
      let acts := s.latched z = true ∧ old ≠ r
      ∃ t, exec c s = .next t ∧
        AnsweredBy s t 0x93 tag (if w = warn ∧ p = trip ∧ d = derate then .ok else .okAdjusted)
          (u16 w ++ u16 p ++ u8 d ++ u8 routing) ∧
        t = { s with
          store := { s.store with
            zoneCfg := s.store.zoneCfg.set z { warn := w, trip := p, derate := d, routing := r } }
          zoneWarn := t.zoneWarn, lines := t.lines, tanks := t.tanks, handoffs := t.handoffs, link := t.link } ∧
        Judged s t (fun y => y = z) ∧
        (¬acts → t.lines = s.lines ∧ t.tanks = s.tanks ∧ t.handoffs = s.handoffs ∧
          (s.roomFor 1 → t.reportsOut =
            s.reportsOut ++ if s.zoneState z = t.zoneState z then [] else [zoneChange s t z .zonecfg []])) ∧
        (acts → ¬(old = .hold ∧ r = .report) → Routed s t z r) ∧
        (acts → old = .hold → r = .report →
          t.tanks = s.tanks ∧ t.handoffs = s.handoffs ∧
          ∀ l, t.line l = { s.line l with
            live := (s.live l).map (fun v =>
              { v with ctx := { v.ctx with hold :=
                { v.ctx.hold with heave := v.ctx.hold.heave.map (fun zs => zs &&& ~~~(oneZone z)) } } }) })

/-- ZERO and HCLEAR (R142, R148, R146, R152): ZERO sets the baseline of a gauge, or of each gauge that takes part in a zone,
to its reading, leaves trip latches alone, and reports a zone whose state it changes; HCLEAR clears the latch of a zone in
TRIP of which no gauge stands at or beyond trip, and judges it by its readings. That HCLEAR writes the trip counts of the
zone's gauges to 0, also where a ZONECFG has raised trip, is the model's reading (log entry 29). -/
def Obligations.ZeroAndHclearJudgeTheZone : Prop :=
  ∀ (s : State) (tag : Byte), s.Listening →
    let startedIn := fun z => ∃ l v, s.live l = some v ∧ v.phase.started = true ∧ hasZone v.ctx.zones z = true
    (∀ kind number, ¬(kind = 1 ∧ 1 ≤ number ∧ number ≤ 16) → ¬(kind = 2 ∧ 1 ≤ number ∧ number ≤ 4) →
      AnswersOnly (.zero tag kind number) s 0xA4 tag .range []) ∧
    (∀ g : GaugeId, (∀ z d, ¬s.takesPartAt z g d) → AnswersOnly (.zero tag 1 (g.val + 1)) s 0xA4 tag .state []) ∧
    (∀ (g : GaugeId) z d, s.takesPartAt z g d → startedIn z →
      AnswersOnly (.zero tag 1 (g.val + 1)) s 0xA4 tag .inUse []) ∧
    (∀ (g : GaugeId) z d r, s.takesPartAt z g d → (s.gauge g).reading = some r → ¬startedIn z →
      ∃ t, exec (.zero tag 1 (g.val + 1)) s = .next t ∧ AnsweredBy s t 0xA4 tag .ok (s16 r) ∧
        Judged s t (fun y => y = z) ∧
        (s.roomFor 1 → Answered s t 0xA4 tag .ok (s16 r) (zoneChanges s t [z] .zero (fun _ => []))) ∧
        t = { s with
          store := { s.store with gaugeCfg := s.store.gaugeCfg.set g { s.gaugeCfg g with baseline := r } }
          gauges := s.gauges.set g { s.gauge g with trips := 0 }
          zoneWarn := t.zoneWarn, link := t.link }) ∧
    (∀ z : ZoneId, startedIn z → AnswersOnly (.zero tag 2 (z.val + 1)) s 0xA4 tag .inUse []) ∧
    (∀ z : ZoneId, ¬startedIn z →
      ∃ t, exec (.zero tag 2 (z.val + 1)) s = .next t ∧
        AnsweredBy s t 0xA4 tag .ok
          (counted (fun g => u8 (g.val + 1) ++ s16 (t.gaugeCfg g).baseline) (s.partGauges z)) ∧
        Judged s t (fun y => y = z) ∧
        (s.roomFor 1 → Answered s t 0xA4 tag .ok
          (counted (fun g => u8 (g.val + 1) ++ s16 (t.gaugeCfg g).baseline) (s.partGauges z))
          (zoneChanges s t [z] .zero (fun _ => []))) ∧
        t = { s with
          store := { s.store with gaugeCfg := t.store.gaugeCfg }
          gauges := t.gauges, zoneWarn := t.zoneWarn, link := t.link } ∧
        (∀ g d r, s.takesPartAt z g d → (s.gauge g).reading = some r →
          t.gaugeCfg g = { s.gaugeCfg g with baseline := r } ∧ t.gauge g = { s.gauge g with trips := 0 }) ∧
        ∀ g, (∀ d, ¬s.takesPartAt z g d) → t.gaugeCfg g = s.gaugeCfg g ∧ t.gauge g = s.gauge g) ∧
    (∀ zone, ¬(1 ≤ zone ∧ zone ≤ 4) → AnswersOnly (.hclear tag zone) s 0xA5 tag .range []) ∧
    (∀ z : ZoneId, s.latched z = false → AnswersOnly (.hclear tag (z.val + 1)) s 0xA5 tag .state []) ∧
    (∀ z : ZoneId, s.latched z = true → s.reaches z (s.zoneCfg z).trip →
      AnswersOnly (.hclear tag (z.val + 1)) s 0xA5 tag .active []) ∧
    (∀ z : ZoneId, s.latched z = true → ¬s.reaches z (s.zoneCfg z).trip → s.roomFor 1 →
      ∃ t warned, exec (.hclear tag (z.val + 1)) s = .next t ∧
        (warned = true ↔ s.reaches z ((s.zoneCfg z).warn - (s.zoneCfg z).warn / 10)) ∧
        t = { s with
          store := { s.store with tripLatch := s.store.tripLatch.set z false }
          gauges := t.gauges, zoneWarn := s.zoneWarn.set z warned, link := t.link } ∧
        (∀ g, (∃ d, s.takesPartAt z g d) → t.gauge g = { s.gauge g with trips := 0 }) ∧
        (∀ g, (∀ d, ¬s.takesPartAt z g d) → t.gauge g = s.gauge g) ∧
        Answered s t 0xA5 tag .ok [if warned then 1 else 0] [zoneChange s t z .hclear []])

/-- A conversion (R140, R141, R145, R147, R149, R151, R152): a rail reading counts and the second faults the gauge; any other
count is read, clears a fault and moves the trip count. The count's reaching 2 sets the latch of a zone not in TRIP, which its
routing answers; otherwise the zone is judged against warn. A fault holds the zone's lines, its clearing releases those no
faulted gauge is left over, and the scanner moves on. The gauge's report stands first and the zone's after it, each with the
zone's lines acted on. That the latch is set on the count's change to 2, and that the gauge's report gives its reading after
the event, are the model's reading of R147 and R152 (log entries 17 and 22). That a conversion with the scanner idle has no
effect (log entry 12), that a report lists its lines in the order of their numbers (log entry 38), that the lines act on a
gauge fault and its clearing in that order (log entry 47), that a trip's report names a line in HOLD whose HEAVE holds the
zone already (log entry 46), that a notice on its way says nothing more of the request of a drained line (log entry 26), and
that an entry to INJECT clears the starve cause (log entry 41), are the model's choices. -/
def Obligations.ConversionMeasuresAndJudges : Prop :=
  ∀ (s : State) (count : Nat), s.supply.failed = false →
    (s.scan = none → ∃ t, exec (.gaugeConversion count) s = .next t ∧ t = { s with link := t.link } ∧ Reported s t []) ∧
    ∀ x, s.scan = some x →
      let g := x.gauge
      let old := s.gauge g
      let cfg := s.gaugeCfg g
      let z := cfg.zone
      let rail := count = 0 ∨ count = 65535
      let reading := trunc (((count : Int) - 32768) * cfg.span) 32768
      let beyond := ((s.zoneCfg z).trip : Int) ≤ reading - cfg.baseline
      let trips := ¬rail ∧ beyond ∧ old.trips = 1 ∧ s.latched z = false
      ∃ t, exec (.gaugeConversion count) s = .next t ∧
        let changes := fun acts => gaugeChange s t g z .reading acts ::
          if s.zoneState z = t.zoneState z then [] else [zoneChange s t z .reading acts]
        LinkKept s t s.link.t1 ∧ t.answersOut = s.answersOut ∧ t.movedOn g ∧
        t = { s with
          store := { s.store with tripLatch := t.store.tripLatch }
          gauges := s.gauges.set g (t.gauge g)
          zoneWarn := t.zoneWarn, scan := t.scan, lines := t.lines, tanks := t.tanks, handoffs := t.handoffs
          link := t.link } ∧
        (rail → t.gauge g = { old with rail := 1, trips := 0, fault := decide (old.fault = true ∨ old.rail = 1) }) ∧
        (¬rail → t.gauge g =
          { reading := some reading, fault := false, rail := 0
            trips := if beyond then min (old.trips + 1) 2 else 0 }) ∧
        (¬trips → Judged s t (fun y => y = z)) ∧
        ((t.gauge g).fault = old.fault → ¬trips →
          t.lines = s.lines ∧ t.tanks = s.tanks ∧ t.handoffs = s.handoffs ∧
          (s.roomFor 1 → t.reportsOut =
            s.reportsOut ++ if s.zoneState z = t.zoneState z then [] else [zoneChange s t z .reading []])) ∧
        (trips → t.latched z = true ∧ t.warned z = false ∧
          (∀ y, y ≠ z → t.latched y = s.latched y ∧ t.warned y = s.warned y)) ∧
        (trips → old.fault = false →
          Routed s t z (s.zoneCfg z).routing ∧
          (s.roomFor 1 → ∃ rs, t.reportsOut =
            s.reportsOut ++ zoneChange s t z .reading (s.tripActions z) :: rs)) ∧
        ((t.gauge g).fault = true → old.fault = false →
          HeldOn s t (fun c => hasZone c.zones z) (fun h => { h with gauge := true }) ∧
          (s.roomFor 2 → ∃ rs, t.reportsOut = s.reportsOut ++ changes (s.faultActions z) ++ rs)) ∧
        ((t.gauge g).fault = false → old.fault = true → ¬trips →
          ReleasedOn s t t.faultFree .gauge ∧
          (s.roomFor 2 → ∃ rs, t.reportsOut = s.reportsOut ++ changes (s.gaugeReleases t z) ++ rs))

/-! ### The site link -/

/-- LINKCFG, CLEARSAFE and STATUS (R173 to R176, R167): a report that finds 32 waiting is discarded and sets the missed flag,
which STATUS reads and clears. -/
def Obligations.LinkRequestsSetClearAndRead : Prop :=
  ∀ (s : State) (tag : Byte), s.Listening →
    (∀ t1 t2 safe,
      let a := max 5 (min t1 120)
      let b := max 5 (min t2 600)
      let p := max 25 (min safe 75)
      ∃ t, exec (.linkcfg tag t1 t2 safe) s = .next t ∧
        t = { s with store := { s.store with linkCfg := { t1 := a, t2 := b, safe := p } }, link := t.link } ∧
        Answered s t 0x94 tag (if a = t1 ∧ b = t2 ∧ p = safe then .ok else .okAdjusted) (u16 a ++ u16 b ++ u8 p) []) ∧
    (s.link.safeLatch = false → AnswersOnly (.clearsafe tag) s 0xA9 tag .ok [0]) ∧
    (s.link.safeLatch = true → s.roomFor 1 →
      ∃ t, exec (.clearsafe tag) s = .next t ∧ t = { s with link := t.link } ∧
        t.link.safeLatch = false ∧ t.link.state = .ok ∧ t.link.missed = s.link.missed ∧
        t.answersOut = s.answersOut ++ [{ kind := 0xA9, tag := tag, reply := { result := .ok, body := [1] } }] ∧
        t.reportsOut = s.reportsOut ++
          [.link { uptime := s.uptime, event := .safeClear, before := .ok, after := .ok, latch := false, lines := [] }]) ∧
    (s.link.safeLatch = true → ¬s.roomFor 1 →
      ∃ t, exec (.clearsafe tag) s = .next t ∧ t = { s with link := t.link } ∧ t.link.safeLatch = false ∧
        t.link.missed = true ∧ t.reportsOut = s.reportsOut ∧
        t.answersOut = s.answersOut ++ [{ kind := 0xA9, tag := tag, reply := { result := .ok, body := [1] } }]) ∧
    ∃ t, exec (.status tag) s = .next t ∧ t = { s with link := t.link } ∧
      AnsweredBy s t 0xA8 tag .ok (statusBytes s) ∧ t.reportsOut = s.reportsOut ∧ t.link.missed = false

/-- The framer's table, the gap timer and the transmit arbiter (R162, R164, R165, R168), where no frame waits beside an idle
transmitter. -/
def Obligations.FramerAndTransmitterMoveOn : Prop :=
  ∀ (s : State), s.supply.failed = false → (s.link.tx = none → s.link.answers = [] ∧ s.link.reports = []) →
    let goes := fun (i : Instr) (f : Framer) (gap : Option Nat) =>
      exec i s = .next { s with link := { s.link with framer := f, gap := gap } }
    let f := s.link.framer
    (∀ b, goes (.byteArrival b true) .hunt none) ∧
    goes .gapTimerExpiry .hunt none ∧
    (f = .hunt → goes (.byteArrival 0xC3 false) .length (some 20)) ∧
    (∀ b, f = .hunt → b ≠ 0xC3 → exec (.byteArrival b false) s = .next s) ∧
    (∀ b : Byte, f = .length → 2 ≤ b.toNat → b.toNat ≤ 242 → goes (.byteArrival b false) (.collect b []) (some 20)) ∧
    (∀ b : Byte, f = .length → (b.toNat < 2 ∨ 242 < b.toNat) → goes (.byteArrival b false) .hunt none) ∧
    (∀ b n got, f = .collect n got → got.length + 1 ≠ n.toNat →
      goes (.byteArrival b false) (.collect n (got ++ [b])) (some 20)) ∧
    (∀ b n got, f = .collect n got → got.length + 1 = n.toNat →
      goes (.byteArrival b false) (.check n (got ++ [b]) none) (some 20)) ∧
    (∀ b n got, f = .check n got none → goes (.byteArrival b false) (.check n got (some b)) (some 20)) ∧
    (∀ b n got first, f = .check n got (some first) → crcBytes (crc (n :: got)) ≠ [first, b] →
      goes (.byteArrival b false) .hunt none) ∧
    (∀ b n kind tag body first, f = .check n (kind :: tag :: body) (some first) →
      crcBytes (crc (n :: kind :: tag :: body)) = [first, b] →
      let idle := { s with link := { s.link with framer := .hunt, gap := none } }
      (∀ i, 1 ≤ kind.toNat → kind.toNat ≤ 63 → decodeRequest kind tag body = .request i →
        requestKind i = some kind → requestTag i = tag → exec (.byteArrival b false) s = exec i idle) ∧
      (1 ≤ kind.toNat → kind.toNat ≤ 63 → s.Listening → decodeRequest kind tag body = .unknown →
        ∃ t, exec (.byteArrival b false) s = .next t ∧ t = { s with link := t.link } ∧
          Answered idle t (kind + 0x80) tag .unknown [] []) ∧
      (1 ≤ kind.toNat → kind.toNat ≤ 63 → s.Listening → decodeRequest kind tag body = .malformed →
        ∃ t, exec (.byteArrival b false) s = .next t ∧ t = { s with link := t.link } ∧
          Answered idle t (kind + 0x80) tag .format [] []) ∧
      (kind.toNat = 0 ∨ 64 ≤ kind.toNat → s.link.state = .ok →
        exec (.byteArrival b false) s =
          .next { idle with link := { idle.link with t1 := some (s.store.linkCfg.t1 * 1000) } })) ∧
    (∀ a rest, s.link.answers = a :: rest →
      exec .frameSent s = .next { s with link := { s.link with tx := some (.answer a), answers := rest } }) ∧
    (∀ r rest, s.link.answers = [] → s.link.reports = r :: rest →
      exec .frameSent s = .next { s with link := { s.link with tx := some (.report r), reports := rest } }) ∧
    (s.link.answers = [] → s.link.reports = [] → exec .frameSent s = .next { s with link := { s.link with tx := none } })

/-- The supervision of the site computer (R169 to R172): T1's expiry in OK holds the lines with LINK, T2's in LOST1 sets the
safe latch and drains the started lines; each expiry in any other link state has no effect (log entry 12); the first valid
frame restores the link with T1 loaded, releasing LINK from LOST1, and is then taken as in OK, whichever request it carries,
or none (R165); a STATUS that restores it is answered. That the notices on their way say nothing more of the request of a
drained line (log entry 26), and that an entry to INJECT clears the starve cause (log entry 41), are the model's choices. -/
def Obligations.SilenceHoldsThenDrainsTheLines : Prop :=
  ∀ (s : State), s.supply.failed = false →
    (s.link.state ≠ .ok → ∃ t, exec .t1Expiry s = .next t ∧ t = { s with link := t.link } ∧ Reported s t []) ∧
    (s.link.state ≠ .lost1 → ∃ t, exec .t2Expiry s = .next t ∧ t = { s with link := t.link } ∧ Reported s t []) ∧
    (s.link.state = .ok →
      ∃ t, exec .t1Expiry s = .next t ∧ t.answersOut = s.answersOut ∧
        t = { s with lines := t.lines, handoffs := t.handoffs, link := t.link } ∧
        t.link.state = .lost1 ∧ t.link.t1 = none ∧ t.link.t2 = some (s.store.linkCfg.t2 * 1000) ∧
        t.link.safeLatch = s.link.safeLatch ∧ t.link.framer = s.link.framer ∧ t.link.gap = s.link.gap ∧
        HeldOn s t (fun _ => true) (fun h => { h with link := true }) ∧
        (s.roomFor 1 → ∃ rs, t.reportsOut = s.reportsOut ++
          .link { uptime := s.uptime, event := .t1Expiry, before := .ok, after := .lost1, latch := s.link.safeLatch
                  lines := s.actions linkAction } :: rs)) ∧
    (s.link.state = .lost1 →
      ∃ t, exec .t2Expiry s = .next t ∧ t.answersOut = s.answersOut ∧
        t = { s with lines := t.lines, tanks := t.tanks, handoffs := t.handoffs, link := t.link } ∧
        t.link.state = .lost2 ∧ t.link.t1 = s.link.t1 ∧ t.link.t2 = none ∧ t.link.safeLatch = true ∧
        t.link.framer = s.link.framer ∧ t.link.gap = s.link.gap ∧ DrainedOn s t (fun _ => true) .link ∧
        (s.roomFor 1 → ∃ rs, t.reportsOut = s.reportsOut ++
          .link { uptime := s.uptime, event := .t2Expiry, before := .lost1, after := .lost2, latch := true
                  lines := s.actions (fun v => if v.phase.started then some .drain else none) } :: rs)) ∧
    (s.link.state ≠ .ok → ∃ r, Restored s r ∧
      (∀ i kind, requestKind i = some kind → exec i s = exec i r) ∧
      ∀ b n kind tag body first, s.link.framer = .check n (kind :: tag :: body) (some first) →
        crcBytes (crc (n :: kind :: tag :: body)) = [first, b] →
        exec (.byteArrival b false) s = exec (.byteArrival b false) r ∧
        (kind.toNat = 0 ∨ 64 ≤ kind.toNat →
          ∃ t, exec (.byteArrival b false) s = .next t ∧ t = { r with link := t.link } ∧ t.link.framer = .hunt ∧
            t.link.gap = none ∧ t.link.state = .ok ∧ t.link.t1 = r.link.t1 ∧ t.link.t2 = none ∧
            t.link.safeLatch = s.link.safeLatch ∧ t.answersOut = s.answersOut ∧ t.reportsOut = r.reportsOut)) ∧
    (∀ tag, s.link.state ≠ .ok → s.link.answers.length < Config.maxAnswers →
      ∃ t, exec (.status tag) s = .next t ∧
        t = { s with lines := t.lines, handoffs := t.handoffs, link := t.link } ∧
        t.link.state = .ok ∧ t.link.t1 = some (s.store.linkCfg.t1 * 1000) ∧ t.link.t2 = none ∧
        t.link.safeLatch = s.link.safeLatch ∧
        (∃ body, t.answersOut =
          s.answersOut ++ [{ kind := 0xA8, tag := tag, reply := { result := .ok, body := body } }]) ∧
        (s.link.state = .lost2 → t.lines = s.lines ∧ t.handoffs = s.handoffs) ∧
        (s.link.state = .lost1 → ReleasedOn s t (fun _ => true) .link) ∧
        (s.roomFor 1 → ∃ rs, t.reportsOut = s.reportsOut ++
          .link { uptime := s.uptime, event := .restore, before := s.link.state, after := .ok, latch := s.link.safeLatch
                  lines := if s.link.state = .lost1 then s.linkHeld.map (fun l => (l, .linkReleased)) else [] } :: rs))

/-! ### Supply and stop supervision -/

/-- The battery and the loop (R157 to R160, R82, R83): a change is set and reported; an opening drains every started line with
ESTOP and opens every permit; a closing changes no line. A SUPPLY report that finds 32 reports waiting is discarded and sets
the missed flag (R167). That a status which is no change has no effect (log entry 12), and that the notices on their way say
nothing more of the request of a drained line (log entry 26), are the model's choices. -/
def Obligations.BatteryAndLoopAreReported : Prop :=
  ∀ (s : State), s.supply.failed = false →
    let report := fun (t : State) (e : SupplyEvent) (drained : LineSet) =>
      Report.supply
        { uptime := s.uptime, event := e, failed := false, batteryLow := t.supply.batteryLow, loopOpen := t.supply.loopOpen
          backupLost := s.supply.backupLost, converted := 0, restored := 0, drained := drained }
    (∀ low, s.supply.batteryLow = low →
      ∃ t, exec (.batteryChange low) s = .next t ∧ t = { s with link := t.link } ∧ Reported s t []) ∧
    (∀ low, s.supply.batteryLow ≠ low → s.roomFor 1 →
      ∃ t, exec (.batteryChange low) s = .next t ∧
        t = { s with supply := { s.supply with batteryLow := low }, link := t.link } ∧
        Reported s t [report t .battery 0]) ∧
    (∀ low, s.supply.batteryLow ≠ low → ¬s.roomFor 1 →
      ∃ t, exec (.batteryChange low) s = .next t ∧
        t = { s with supply := { s.supply with batteryLow := low }, link := t.link } ∧
        t.link.missed = true ∧ t.reportsOut = s.reportsOut ∧ t.answersOut = s.answersOut) ∧
    (s.supply.loopOpen = true →
      ∃ t, exec .loopOpen s = .next t ∧ t = { s with link := t.link } ∧ Reported s t []) ∧
    (s.supply.loopOpen = false →
      ∃ t, exec .loopOpen s = .next t ∧ LinkKept s t s.link.t1 ∧ t.answersOut = s.answersOut ∧
        t = { s with
          supply := { s.supply with loopOpen := true }
          lines := t.lines, tanks := t.tanks, handoffs := t.handoffs, link := t.link } ∧
        DrainedOn s t (fun _ => true) .estop ∧ (∀ l, t.permit l = false) ∧
        (s.roomFor 1 → ∃ rs, t.reportsOut = s.reportsOut ++ report t .loopOpen (lineMask s.started) :: rs)) ∧
    (s.supply.loopOpen = false →
      ∃ t, exec .loopClosed s = .next t ∧ t = { s with link := t.link } ∧ Reported s t []) ∧
    (s.supply.loopOpen = true → s.roomFor 1 →
      ∃ t, exec .loopClosed s = .next t ∧
        t = { s with supply := { s.supply with loopOpen := false }, link := t.link } ∧
        Reported s t [report t .loopClosed 0])

/-! ### What every step keeps -/

/-- The accounts of the tanks (R119, R120, R122). -/
def Obligations.StepKeepsTankAccounts : Prop :=
  ∀ s t : State, step s = .next t → s.balanced → s.unsetEmpty → t.balanced ∧ t.unsetEmpty

/-- The bounds of the answer and report queues, with no frame waiting beside an idle transmitter (R166, R167, R168); and the
request queues of the tanks, each holding a line of that tank at most once, and none that is IDLE, in DRAIN or in ENDED (R27,
R128). -/
def Obligations.StepKeepsQueueBounds : Prop :=
  ∀ s t : State, step s = .next t →
    (s.queuesBounded → t.queuesBounded) ∧ (s.requestsKept → t.requestsKept)

/-- The drive demand of a line, and HOLD as the state of a line that holds a cause (R57, R68, R69, R70). -/
def Obligations.StepKeepsDemandsAndHolds : Prop :=
  ∀ s t : State, step s = .next t →
    (s.demandsKept → t.demandsKept) ∧ (s.holdsMatch → t.holdsMatch)

/-- No line runs under an open loop or a lost link, and none under a zone in TRIP that its routing stops or holds (R63, R81,
R149, R158, R171). -/
def Obligations.StepKeepsTheGuards : Prop :=
  ∀ s t : State, step s = .next t → (s.stopped → t.stopped) ∧ (s.guarded → t.guarded)

/-- The plan store keeps its keys, capacities and ranges, every bound stage stays planned, and the two laws of BIND hold (R1,
R7, R31, R59, R61, R124, R138, R143, R174). -/
def Obligations.StepKeepsPlanAndBindings : Prop :=
  ∀ s t : State, step s = .next t →
    (s.store.canonical → t.store.canonical) ∧ (s.store.configValid → t.store.configValid) ∧
    (s.store.canonical → s.boundPlanned → s.bindingLaws → t.boundPlanned ∧ t.bindingLaws)

end
end

