-- ==== Sys2Proof/Laws/State.lean ====
section
/-! SUPPORT. One lemma for each field of State and each named update of it: the field is what the update writes, or is
left as it was. -/

namespace Sys2Proof.Machine

/-! ### Plain updates -/

@[simp] theorem State.setLine_store (s : State) (l : LineId) (x : Line) : (s.setLine l x).store = s.store := rfl
@[simp] theorem State.setLine_tanks (s : State) (l : LineId) (x : Line) : (s.setLine l x).tanks = s.tanks := rfl
@[simp] theorem State.setLine_gauges (s : State) (l : LineId) (x : Line) : (s.setLine l x).gauges = s.gauges := rfl
@[simp] theorem State.setLine_zoneWarn (s : State) (l : LineId) (x : Line) : (s.setLine l x).zoneWarn = s.zoneWarn := rfl
@[simp] theorem State.setLine_scan (s : State) (l : LineId) (x : Line) : (s.setLine l x).scan = s.scan := rfl
@[simp] theorem State.setLine_link (s : State) (l : LineId) (x : Line) : (s.setLine l x).link = s.link := rfl
@[simp] theorem State.setLine_supply (s : State) (l : LineId) (x : Line) : (s.setLine l x).supply = s.supply := rfl
@[simp] theorem State.setLine_handoffs (s : State) (l : LineId) (x : Line) : (s.setLine l x).handoffs = s.handoffs := rfl
@[simp] theorem State.setLine_freeCount (s : State) (l : LineId) (x : Line) : (s.setLine l x).freeCount = s.freeCount := rfl
@[simp] theorem State.setLine_pending (s : State) (l : LineId) (x : Line) : (s.setLine l x).pending = s.pending := rfl

@[simp] theorem State.setLine_lines (s : State) (l : LineId) (x : Line) : (s.setLine l x).lines = s.lines.set l x := rfl

@[simp] theorem State.setLive_store (s : State) (l : LineId) (v : Live) : (s.setLive l v).store = s.store := rfl
@[simp] theorem State.setLive_tanks (s : State) (l : LineId) (v : Live) : (s.setLive l v).tanks = s.tanks := rfl
@[simp] theorem State.setLive_gauges (s : State) (l : LineId) (v : Live) : (s.setLive l v).gauges = s.gauges := rfl
@[simp] theorem State.setLive_zoneWarn (s : State) (l : LineId) (v : Live) : (s.setLive l v).zoneWarn = s.zoneWarn := rfl
@[simp] theorem State.setLive_scan (s : State) (l : LineId) (v : Live) : (s.setLive l v).scan = s.scan := rfl
@[simp] theorem State.setLive_link (s : State) (l : LineId) (v : Live) : (s.setLive l v).link = s.link := rfl
@[simp] theorem State.setLive_supply (s : State) (l : LineId) (v : Live) : (s.setLive l v).supply = s.supply := rfl
@[simp] theorem State.setLive_handoffs (s : State) (l : LineId) (v : Live) : (s.setLive l v).handoffs = s.handoffs := rfl
@[simp] theorem State.setLive_freeCount (s : State) (l : LineId) (v : Live) : (s.setLive l v).freeCount = s.freeCount := rfl
@[simp] theorem State.setLive_pending (s : State) (l : LineId) (v : Live) : (s.setLive l v).pending = s.pending := rfl

@[simp] theorem State.setLive_lines (s : State) (l : LineId) (v : Live) :
    (s.setLive l v).lines = s.lines.set l { s.line l with live := some v } := rfl

@[simp] theorem State.setTank_store (s : State) (t : TankId) (x : Tank) : (s.setTank t x).store = s.store := rfl
@[simp] theorem State.setTank_lines (s : State) (t : TankId) (x : Tank) : (s.setTank t x).lines = s.lines := rfl
@[simp] theorem State.setTank_gauges (s : State) (t : TankId) (x : Tank) : (s.setTank t x).gauges = s.gauges := rfl
@[simp] theorem State.setTank_zoneWarn (s : State) (t : TankId) (x : Tank) : (s.setTank t x).zoneWarn = s.zoneWarn := rfl
@[simp] theorem State.setTank_scan (s : State) (t : TankId) (x : Tank) : (s.setTank t x).scan = s.scan := rfl
@[simp] theorem State.setTank_link (s : State) (t : TankId) (x : Tank) : (s.setTank t x).link = s.link := rfl
@[simp] theorem State.setTank_supply (s : State) (t : TankId) (x : Tank) : (s.setTank t x).supply = s.supply := rfl
@[simp] theorem State.setTank_handoffs (s : State) (t : TankId) (x : Tank) : (s.setTank t x).handoffs = s.handoffs := rfl
@[simp] theorem State.setTank_freeCount (s : State) (t : TankId) (x : Tank) : (s.setTank t x).freeCount = s.freeCount := rfl
@[simp] theorem State.setTank_pending (s : State) (t : TankId) (x : Tank) : (s.setTank t x).pending = s.pending := rfl

@[simp] theorem State.setTank_tanks (s : State) (t : TankId) (x : Tank) : (s.setTank t x).tanks = s.tanks.set t x := rfl

@[simp] theorem State.setGauge_store (s : State) (g : GaugeId) (x : Gauge) : (s.setGauge g x).store = s.store := rfl
@[simp] theorem State.setGauge_lines (s : State) (g : GaugeId) (x : Gauge) : (s.setGauge g x).lines = s.lines := rfl
@[simp] theorem State.setGauge_tanks (s : State) (g : GaugeId) (x : Gauge) : (s.setGauge g x).tanks = s.tanks := rfl
@[simp] theorem State.setGauge_zoneWarn (s : State) (g : GaugeId) (x : Gauge) : (s.setGauge g x).zoneWarn = s.zoneWarn := rfl
@[simp] theorem State.setGauge_scan (s : State) (g : GaugeId) (x : Gauge) : (s.setGauge g x).scan = s.scan := rfl
@[simp] theorem State.setGauge_link (s : State) (g : GaugeId) (x : Gauge) : (s.setGauge g x).link = s.link := rfl
@[simp] theorem State.setGauge_supply (s : State) (g : GaugeId) (x : Gauge) : (s.setGauge g x).supply = s.supply := rfl
@[simp] theorem State.setGauge_handoffs (s : State) (g : GaugeId) (x : Gauge) : (s.setGauge g x).handoffs = s.handoffs := rfl
@[simp] theorem State.setGauge_freeCount (s : State) (g : GaugeId) (x : Gauge) : (s.setGauge g x).freeCount = s.freeCount := rfl
@[simp] theorem State.setGauge_pending (s : State) (g : GaugeId) (x : Gauge) : (s.setGauge g x).pending = s.pending := rfl

@[simp] theorem State.setGauge_gauges (s : State) (g : GaugeId) (x : Gauge) :
    (s.setGauge g x).gauges = s.gauges.set g x := rfl

@[simp] theorem State.setGaugeCfg_lines (s : State) (g : GaugeId) (x : GaugeCfg) : (s.setGaugeCfg g x).lines = s.lines := rfl
@[simp] theorem State.setGaugeCfg_tanks (s : State) (g : GaugeId) (x : GaugeCfg) : (s.setGaugeCfg g x).tanks = s.tanks := rfl
@[simp] theorem State.setGaugeCfg_gauges (s : State) (g : GaugeId) (x : GaugeCfg) : (s.setGaugeCfg g x).gauges = s.gauges := rfl
@[simp] theorem State.setGaugeCfg_zoneWarn (s : State) (g : GaugeId) (x : GaugeCfg) : (s.setGaugeCfg g x).zoneWarn = s.zoneWarn := rfl
@[simp] theorem State.setGaugeCfg_scan (s : State) (g : GaugeId) (x : GaugeCfg) : (s.setGaugeCfg g x).scan = s.scan := rfl
@[simp] theorem State.setGaugeCfg_link (s : State) (g : GaugeId) (x : GaugeCfg) : (s.setGaugeCfg g x).link = s.link := rfl
@[simp] theorem State.setGaugeCfg_supply (s : State) (g : GaugeId) (x : GaugeCfg) : (s.setGaugeCfg g x).supply = s.supply := rfl
@[simp] theorem State.setGaugeCfg_handoffs (s : State) (g : GaugeId) (x : GaugeCfg) : (s.setGaugeCfg g x).handoffs = s.handoffs := rfl
@[simp] theorem State.setGaugeCfg_freeCount (s : State) (g : GaugeId) (x : GaugeCfg) : (s.setGaugeCfg g x).freeCount = s.freeCount := rfl
@[simp] theorem State.setGaugeCfg_pending (s : State) (g : GaugeId) (x : GaugeCfg) : (s.setGaugeCfg g x).pending = s.pending := rfl

@[simp] theorem State.setGaugeCfg_store (s : State) (g : GaugeId) (x : GaugeCfg) :
    (s.setGaugeCfg g x).store = { s.store with gaugeCfg := s.store.gaugeCfg.set g x } := rfl

@[simp] theorem State.setZoneCfg_lines (s : State) (z : ZoneId) (x : ZoneCfg) : (s.setZoneCfg z x).lines = s.lines := rfl
@[simp] theorem State.setZoneCfg_tanks (s : State) (z : ZoneId) (x : ZoneCfg) : (s.setZoneCfg z x).tanks = s.tanks := rfl
@[simp] theorem State.setZoneCfg_gauges (s : State) (z : ZoneId) (x : ZoneCfg) : (s.setZoneCfg z x).gauges = s.gauges := rfl
@[simp] theorem State.setZoneCfg_zoneWarn (s : State) (z : ZoneId) (x : ZoneCfg) : (s.setZoneCfg z x).zoneWarn = s.zoneWarn := rfl
@[simp] theorem State.setZoneCfg_scan (s : State) (z : ZoneId) (x : ZoneCfg) : (s.setZoneCfg z x).scan = s.scan := rfl
@[simp] theorem State.setZoneCfg_link (s : State) (z : ZoneId) (x : ZoneCfg) : (s.setZoneCfg z x).link = s.link := rfl
@[simp] theorem State.setZoneCfg_supply (s : State) (z : ZoneId) (x : ZoneCfg) : (s.setZoneCfg z x).supply = s.supply := rfl
@[simp] theorem State.setZoneCfg_handoffs (s : State) (z : ZoneId) (x : ZoneCfg) : (s.setZoneCfg z x).handoffs = s.handoffs := rfl
@[simp] theorem State.setZoneCfg_freeCount (s : State) (z : ZoneId) (x : ZoneCfg) : (s.setZoneCfg z x).freeCount = s.freeCount := rfl
@[simp] theorem State.setZoneCfg_pending (s : State) (z : ZoneId) (x : ZoneCfg) : (s.setZoneCfg z x).pending = s.pending := rfl

@[simp] theorem State.setZoneCfg_store (s : State) (z : ZoneId) (x : ZoneCfg) :
    (s.setZoneCfg z x).store = { s.store with zoneCfg := s.store.zoneCfg.set z x } := rfl

@[simp] theorem State.setLatch_lines (s : State) (z : ZoneId) (b : Bool) : (s.setLatch z b).lines = s.lines := rfl
@[simp] theorem State.setLatch_tanks (s : State) (z : ZoneId) (b : Bool) : (s.setLatch z b).tanks = s.tanks := rfl
@[simp] theorem State.setLatch_gauges (s : State) (z : ZoneId) (b : Bool) : (s.setLatch z b).gauges = s.gauges := rfl
@[simp] theorem State.setLatch_zoneWarn (s : State) (z : ZoneId) (b : Bool) : (s.setLatch z b).zoneWarn = s.zoneWarn := rfl
@[simp] theorem State.setLatch_scan (s : State) (z : ZoneId) (b : Bool) : (s.setLatch z b).scan = s.scan := rfl
@[simp] theorem State.setLatch_link (s : State) (z : ZoneId) (b : Bool) : (s.setLatch z b).link = s.link := rfl
@[simp] theorem State.setLatch_supply (s : State) (z : ZoneId) (b : Bool) : (s.setLatch z b).supply = s.supply := rfl
@[simp] theorem State.setLatch_handoffs (s : State) (z : ZoneId) (b : Bool) : (s.setLatch z b).handoffs = s.handoffs := rfl
@[simp] theorem State.setLatch_freeCount (s : State) (z : ZoneId) (b : Bool) : (s.setLatch z b).freeCount = s.freeCount := rfl
@[simp] theorem State.setLatch_pending (s : State) (z : ZoneId) (b : Bool) : (s.setLatch z b).pending = s.pending := rfl

@[simp] theorem State.setLatch_store (s : State) (z : ZoneId) (b : Bool) :
    (s.setLatch z b).store = { s.store with tripLatch := s.store.tripLatch.set z b } := rfl

@[simp] theorem State.setWarned_store (s : State) (z : ZoneId) (b : Bool) : (s.setWarned z b).store = s.store := rfl
@[simp] theorem State.setWarned_lines (s : State) (z : ZoneId) (b : Bool) : (s.setWarned z b).lines = s.lines := rfl
@[simp] theorem State.setWarned_tanks (s : State) (z : ZoneId) (b : Bool) : (s.setWarned z b).tanks = s.tanks := rfl
@[simp] theorem State.setWarned_gauges (s : State) (z : ZoneId) (b : Bool) : (s.setWarned z b).gauges = s.gauges := rfl
@[simp] theorem State.setWarned_scan (s : State) (z : ZoneId) (b : Bool) : (s.setWarned z b).scan = s.scan := rfl
@[simp] theorem State.setWarned_link (s : State) (z : ZoneId) (b : Bool) : (s.setWarned z b).link = s.link := rfl
@[simp] theorem State.setWarned_supply (s : State) (z : ZoneId) (b : Bool) : (s.setWarned z b).supply = s.supply := rfl
@[simp] theorem State.setWarned_handoffs (s : State) (z : ZoneId) (b : Bool) : (s.setWarned z b).handoffs = s.handoffs := rfl
@[simp] theorem State.setWarned_freeCount (s : State) (z : ZoneId) (b : Bool) : (s.setWarned z b).freeCount = s.freeCount := rfl
@[simp] theorem State.setWarned_pending (s : State) (z : ZoneId) (b : Bool) : (s.setWarned z b).pending = s.pending := rfl

@[simp] theorem State.setWarned_zoneWarn (s : State) (z : ZoneId) (b : Bool) :
    (s.setWarned z b).zoneWarn = s.zoneWarn.set z b := rfl

@[simp] theorem State.setReserve_lines (s : State) (t : TankId) (r : Nat) : (s.setReserve t r).lines = s.lines := rfl
@[simp] theorem State.setReserve_tanks (s : State) (t : TankId) (r : Nat) : (s.setReserve t r).tanks = s.tanks := rfl
@[simp] theorem State.setReserve_gauges (s : State) (t : TankId) (r : Nat) : (s.setReserve t r).gauges = s.gauges := rfl
@[simp] theorem State.setReserve_zoneWarn (s : State) (t : TankId) (r : Nat) : (s.setReserve t r).zoneWarn = s.zoneWarn := rfl
@[simp] theorem State.setReserve_scan (s : State) (t : TankId) (r : Nat) : (s.setReserve t r).scan = s.scan := rfl
@[simp] theorem State.setReserve_link (s : State) (t : TankId) (r : Nat) : (s.setReserve t r).link = s.link := rfl
@[simp] theorem State.setReserve_supply (s : State) (t : TankId) (r : Nat) : (s.setReserve t r).supply = s.supply := rfl
@[simp] theorem State.setReserve_handoffs (s : State) (t : TankId) (r : Nat) : (s.setReserve t r).handoffs = s.handoffs := rfl
@[simp] theorem State.setReserve_freeCount (s : State) (t : TankId) (r : Nat) : (s.setReserve t r).freeCount = s.freeCount := rfl
@[simp] theorem State.setReserve_pending (s : State) (t : TankId) (r : Nat) : (s.setReserve t r).pending = s.pending := rfl

@[simp] theorem State.setReserve_store (s : State) (t : TankId) (r : Nat) :
    (s.setReserve t r).store = { s.store with reserve := s.store.reserve.set t r } := rfl

@[simp] theorem State.modStore_lines (s : State) (f : Store → Store) : (s.modStore f).lines = s.lines := rfl
@[simp] theorem State.modStore_tanks (s : State) (f : Store → Store) : (s.modStore f).tanks = s.tanks := rfl
@[simp] theorem State.modStore_gauges (s : State) (f : Store → Store) : (s.modStore f).gauges = s.gauges := rfl
@[simp] theorem State.modStore_zoneWarn (s : State) (f : Store → Store) : (s.modStore f).zoneWarn = s.zoneWarn := rfl
@[simp] theorem State.modStore_scan (s : State) (f : Store → Store) : (s.modStore f).scan = s.scan := rfl
@[simp] theorem State.modStore_link (s : State) (f : Store → Store) : (s.modStore f).link = s.link := rfl
@[simp] theorem State.modStore_supply (s : State) (f : Store → Store) : (s.modStore f).supply = s.supply := rfl
@[simp] theorem State.modStore_handoffs (s : State) (f : Store → Store) : (s.modStore f).handoffs = s.handoffs := rfl
@[simp] theorem State.modStore_freeCount (s : State) (f : Store → Store) : (s.modStore f).freeCount = s.freeCount := rfl
@[simp] theorem State.modStore_pending (s : State) (f : Store → Store) : (s.modStore f).pending = s.pending := rfl

@[simp] theorem State.modStore_store (s : State) (f : Store → Store) : (s.modStore f).store = f s.store := rfl

@[simp] theorem State.modLink_store (s : State) (f : Link → Link) : (s.modLink f).store = s.store := rfl
@[simp] theorem State.modLink_lines (s : State) (f : Link → Link) : (s.modLink f).lines = s.lines := rfl
@[simp] theorem State.modLink_tanks (s : State) (f : Link → Link) : (s.modLink f).tanks = s.tanks := rfl
@[simp] theorem State.modLink_gauges (s : State) (f : Link → Link) : (s.modLink f).gauges = s.gauges := rfl
@[simp] theorem State.modLink_zoneWarn (s : State) (f : Link → Link) : (s.modLink f).zoneWarn = s.zoneWarn := rfl
@[simp] theorem State.modLink_scan (s : State) (f : Link → Link) : (s.modLink f).scan = s.scan := rfl
@[simp] theorem State.modLink_supply (s : State) (f : Link → Link) : (s.modLink f).supply = s.supply := rfl
@[simp] theorem State.modLink_handoffs (s : State) (f : Link → Link) : (s.modLink f).handoffs = s.handoffs := rfl
@[simp] theorem State.modLink_freeCount (s : State) (f : Link → Link) : (s.modLink f).freeCount = s.freeCount := rfl
@[simp] theorem State.modLink_pending (s : State) (f : Link → Link) : (s.modLink f).pending = s.pending := rfl

@[simp] theorem State.modLink_link (s : State) (f : Link → Link) : (s.modLink f).link = f s.link := rfl

@[simp] theorem State.modStage_lines (s : State) (h k : Nat) (f : Stage → Stage) : (s.modStage h k f).lines = s.lines := rfl
@[simp] theorem State.modStage_tanks (s : State) (h k : Nat) (f : Stage → Stage) : (s.modStage h k f).tanks = s.tanks := rfl
@[simp] theorem State.modStage_gauges (s : State) (h k : Nat) (f : Stage → Stage) : (s.modStage h k f).gauges = s.gauges := rfl
@[simp] theorem State.modStage_zoneWarn (s : State) (h k : Nat) (f : Stage → Stage) : (s.modStage h k f).zoneWarn = s.zoneWarn := rfl
@[simp] theorem State.modStage_scan (s : State) (h k : Nat) (f : Stage → Stage) : (s.modStage h k f).scan = s.scan := rfl
@[simp] theorem State.modStage_link (s : State) (h k : Nat) (f : Stage → Stage) : (s.modStage h k f).link = s.link := rfl
@[simp] theorem State.modStage_supply (s : State) (h k : Nat) (f : Stage → Stage) : (s.modStage h k f).supply = s.supply := rfl
@[simp] theorem State.modStage_handoffs (s : State) (h k : Nat) (f : Stage → Stage) : (s.modStage h k f).handoffs = s.handoffs := rfl
@[simp] theorem State.modStage_freeCount (s : State) (h k : Nat) (f : Stage → Stage) : (s.modStage h k f).freeCount = s.freeCount := rfl
@[simp] theorem State.modStage_pending (s : State) (h k : Nat) (f : Stage → Stage) : (s.modStage h k f).pending = s.pending := rfl

@[simp] theorem State.modStage_store (s : State) (h k : Nat) (f : Stage → Stage) :
    (s.modStage h k f).store = { s.store with stages := tmod s.store.stages (stageKey h k) f } := rfl

@[simp] theorem State.answer_store (s : State) (a : Answer) : (s.answer a).store = s.store := rfl
@[simp] theorem State.answer_lines (s : State) (a : Answer) : (s.answer a).lines = s.lines := rfl
@[simp] theorem State.answer_tanks (s : State) (a : Answer) : (s.answer a).tanks = s.tanks := rfl
@[simp] theorem State.answer_gauges (s : State) (a : Answer) : (s.answer a).gauges = s.gauges := rfl
@[simp] theorem State.answer_zoneWarn (s : State) (a : Answer) : (s.answer a).zoneWarn = s.zoneWarn := rfl
@[simp] theorem State.answer_scan (s : State) (a : Answer) : (s.answer a).scan = s.scan := rfl
@[simp] theorem State.answer_supply (s : State) (a : Answer) : (s.answer a).supply = s.supply := rfl
@[simp] theorem State.answer_handoffs (s : State) (a : Answer) : (s.answer a).handoffs = s.handoffs := rfl
@[simp] theorem State.answer_freeCount (s : State) (a : Answer) : (s.answer a).freeCount = s.freeCount := rfl
@[simp] theorem State.answer_pending (s : State) (a : Answer) : (s.answer a).pending = s.pending := rfl

@[simp] theorem State.answer_link (s : State) (a : Answer) :
    (s.answer a).link = { s.link with answers := s.link.answers ++ [a] } := rfl

@[simp] theorem State.handOff_store (s : State) (i : Instr) : (s.handOff i).store = s.store := rfl
@[simp] theorem State.handOff_lines (s : State) (i : Instr) : (s.handOff i).lines = s.lines := rfl
@[simp] theorem State.handOff_tanks (s : State) (i : Instr) : (s.handOff i).tanks = s.tanks := rfl
@[simp] theorem State.handOff_gauges (s : State) (i : Instr) : (s.handOff i).gauges = s.gauges := rfl
@[simp] theorem State.handOff_zoneWarn (s : State) (i : Instr) : (s.handOff i).zoneWarn = s.zoneWarn := rfl
@[simp] theorem State.handOff_scan (s : State) (i : Instr) : (s.handOff i).scan = s.scan := rfl
@[simp] theorem State.handOff_link (s : State) (i : Instr) : (s.handOff i).link = s.link := rfl
@[simp] theorem State.handOff_supply (s : State) (i : Instr) : (s.handOff i).supply = s.supply := rfl
@[simp] theorem State.handOff_freeCount (s : State) (i : Instr) : (s.handOff i).freeCount = s.freeCount := rfl
@[simp] theorem State.handOff_pending (s : State) (i : Instr) : (s.handOff i).pending = s.pending := rfl

@[simp] theorem State.handOff_handoffs (s : State) (i : Instr) : (s.handOff i).handoffs = s.handoffs ++ [i] := rfl

@[simp] theorem State.taken_store (s : State) (i : Instr) : (s.taken i).store = s.store := rfl
@[simp] theorem State.taken_lines (s : State) (i : Instr) : (s.taken i).lines = s.lines := rfl
@[simp] theorem State.taken_tanks (s : State) (i : Instr) : (s.taken i).tanks = s.tanks := rfl
@[simp] theorem State.taken_gauges (s : State) (i : Instr) : (s.taken i).gauges = s.gauges := rfl
@[simp] theorem State.taken_zoneWarn (s : State) (i : Instr) : (s.taken i).zoneWarn = s.zoneWarn := rfl
@[simp] theorem State.taken_scan (s : State) (i : Instr) : (s.taken i).scan = s.scan := rfl
@[simp] theorem State.taken_link (s : State) (i : Instr) : (s.taken i).link = s.link := rfl
@[simp] theorem State.taken_supply (s : State) (i : Instr) : (s.taken i).supply = s.supply := rfl
@[simp] theorem State.taken_freeCount (s : State) (i : Instr) : (s.taken i).freeCount = s.freeCount := rfl
@[simp] theorem State.taken_pending (s : State) (i : Instr) : (s.taken i).pending = s.pending := rfl

@[simp] theorem State.taken_handoffs (s : State) (i : Instr) : (s.taken i).handoffs = s.handoffs.erase i := rfl

/-! ### Updates that first look at the state -/

@[simp] theorem State.modCtx_store (s : State) (l : LineId) (f : Context → Context) : (s.modCtx l f).store = s.store := by
  unfold State.modCtx; split <;> rfl
@[simp] theorem State.modCtx_tanks (s : State) (l : LineId) (f : Context → Context) : (s.modCtx l f).tanks = s.tanks := by
  unfold State.modCtx; split <;> rfl
@[simp] theorem State.modCtx_gauges (s : State) (l : LineId) (f : Context → Context) : (s.modCtx l f).gauges = s.gauges := by
  unfold State.modCtx; split <;> rfl
@[simp] theorem State.modCtx_zoneWarn (s : State) (l : LineId) (f : Context → Context) : (s.modCtx l f).zoneWarn = s.zoneWarn := by
  unfold State.modCtx; split <;> rfl
@[simp] theorem State.modCtx_scan (s : State) (l : LineId) (f : Context → Context) : (s.modCtx l f).scan = s.scan := by
  unfold State.modCtx; split <;> rfl
@[simp] theorem State.modCtx_link (s : State) (l : LineId) (f : Context → Context) : (s.modCtx l f).link = s.link := by
  unfold State.modCtx; split <;> rfl
@[simp] theorem State.modCtx_supply (s : State) (l : LineId) (f : Context → Context) : (s.modCtx l f).supply = s.supply := by
  unfold State.modCtx; split <;> rfl
@[simp] theorem State.modCtx_handoffs (s : State) (l : LineId) (f : Context → Context) : (s.modCtx l f).handoffs = s.handoffs := by
  unfold State.modCtx; split <;> rfl
@[simp] theorem State.modCtx_freeCount (s : State) (l : LineId) (f : Context → Context) : (s.modCtx l f).freeCount = s.freeCount := by
  unfold State.modCtx; split <;> rfl
@[simp] theorem State.modCtx_pending (s : State) (l : LineId) (f : Context → Context) : (s.modCtx l f).pending = s.pending := by
  unfold State.modCtx; split <;> rfl

@[simp] theorem State.report_store (s : State) (r : Report) : (s.report r).store = s.store := by
  unfold State.report; split <;> rfl
@[simp] theorem State.report_lines (s : State) (r : Report) : (s.report r).lines = s.lines := by
  unfold State.report; split <;> rfl
@[simp] theorem State.report_tanks (s : State) (r : Report) : (s.report r).tanks = s.tanks := by
  unfold State.report; split <;> rfl
@[simp] theorem State.report_gauges (s : State) (r : Report) : (s.report r).gauges = s.gauges := by
  unfold State.report; split <;> rfl
@[simp] theorem State.report_zoneWarn (s : State) (r : Report) : (s.report r).zoneWarn = s.zoneWarn := by
  unfold State.report; split <;> rfl
@[simp] theorem State.report_scan (s : State) (r : Report) : (s.report r).scan = s.scan := by
  unfold State.report; split <;> rfl
@[simp] theorem State.report_supply (s : State) (r : Report) : (s.report r).supply = s.supply := by
  unfold State.report; split <;> rfl
@[simp] theorem State.report_handoffs (s : State) (r : Report) : (s.report r).handoffs = s.handoffs := by
  unfold State.report; split <;> rfl
@[simp] theorem State.report_freeCount (s : State) (r : Report) : (s.report r).freeCount = s.freeCount := by
  unfold State.report; split <;> rfl
@[simp] theorem State.report_pending (s : State) (r : Report) : (s.report r).pending = s.pending := by
  unfold State.report; split <;> rfl

@[simp] theorem startFrame_store (s : State) : (startFrame s).store = s.store := by
  unfold startFrame; split <;> (try rfl); split <;> (try rfl); split <;> rfl
@[simp] theorem startFrame_lines (s : State) : (startFrame s).lines = s.lines := by
  unfold startFrame; split <;> (try rfl); split <;> (try rfl); split <;> rfl
@[simp] theorem startFrame_tanks (s : State) : (startFrame s).tanks = s.tanks := by
  unfold startFrame; split <;> (try rfl); split <;> (try rfl); split <;> rfl
@[simp] theorem startFrame_gauges (s : State) : (startFrame s).gauges = s.gauges := by
  unfold startFrame; split <;> (try rfl); split <;> (try rfl); split <;> rfl
@[simp] theorem startFrame_zoneWarn (s : State) : (startFrame s).zoneWarn = s.zoneWarn := by
  unfold startFrame; split <;> (try rfl); split <;> (try rfl); split <;> rfl
@[simp] theorem startFrame_scan (s : State) : (startFrame s).scan = s.scan := by
  unfold startFrame; split <;> (try rfl); split <;> (try rfl); split <;> rfl
@[simp] theorem startFrame_supply (s : State) : (startFrame s).supply = s.supply := by
  unfold startFrame; split <;> (try rfl); split <;> (try rfl); split <;> rfl
@[simp] theorem startFrame_handoffs (s : State) : (startFrame s).handoffs = s.handoffs := by
  unfold startFrame; split <;> (try rfl); split <;> (try rfl); split <;> rfl
@[simp] theorem startFrame_freeCount (s : State) : (startFrame s).freeCount = s.freeCount := by
  unfold startFrame; split <;> (try rfl); split <;> (try rfl); split <;> rfl
@[simp] theorem startFrame_pending (s : State) : (startFrame s).pending = s.pending := by
  unfold startFrame; split <;> (try rfl); split <;> (try rfl); split <;> rfl

/-! ### Records read back -/

@[simp] theorem State.line_setLine_self (s : State) (l : LineId) (x : Line) : (s.setLine l x).line l = x := by
  simp [State.line]

theorem State.line_setLine_ne (s : State) {l k : LineId} (x : Line) (h : l ≠ k) : (s.setLine l x).line k = s.line k := by
  have : l.val ≠ k.val := fun e => h (Fin.ext e)
  simp [State.line, this]

theorem State.line_setLine (s : State) (l k : LineId) (x : Line) :
    (s.setLine l x).line k = if l = k then x else s.line k := by
  split
  · next h => subst h; simp
  · next h => exact s.line_setLine_ne x h

@[simp] theorem State.tank_setTank_self (s : State) (t : TankId) (x : Tank) : (s.setTank t x).tank t = x := by
  simp [State.tank]

theorem State.tank_setTank_ne (s : State) {t u : TankId} (x : Tank) (h : t ≠ u) : (s.setTank t x).tank u = s.tank u := by
  have : t.val ≠ u.val := fun e => h (Fin.ext e)
  simp [State.tank, this]

@[simp] theorem State.gauge_setGauge_self (s : State) (g : GaugeId) (x : Gauge) : (s.setGauge g x).gauge g = x := by
  simp [State.gauge]

theorem State.gauge_setGauge_ne (s : State) {g k : GaugeId} (x : Gauge) (h : g ≠ k) :
    (s.setGauge g x).gauge k = s.gauge k := by
  have : g.val ≠ k.val := fun e => h (Fin.ext e)
  simp [State.gauge, this]

@[simp] theorem State.gaugeCfg_setGaugeCfg_self (s : State) (g : GaugeId) (x : GaugeCfg) :
    (s.setGaugeCfg g x).gaugeCfg g = x := by simp [State.gaugeCfg]

@[simp] theorem State.zoneCfg_setZoneCfg_self (s : State) (z : ZoneId) (x : ZoneCfg) :
    (s.setZoneCfg z x).zoneCfg z = x := by simp [State.zoneCfg]

@[simp] theorem State.latched_setLatch_self (s : State) (z : ZoneId) (b : Bool) : (s.setLatch z b).latched z = b := by
  simp [State.latched]

@[simp] theorem State.warned_setWarned_self (s : State) (z : ZoneId) (b : Bool) : (s.setWarned z b).warned z = b := by
  simp [State.warned]

@[simp] theorem State.live_setLive_self (s : State) (l : LineId) (v : Live) : (s.setLive l v).live l = some v := by
  simp [State.live, State.setLive]

theorem State.live_setLive_ne (s : State) {l k : LineId} (v : Live) (h : l ≠ k) : (s.setLive l v).live k = s.live k := by
  simp [State.live, State.setLive, State.line_setLine_ne _ _ h]

end Sys2Proof.Machine
end

