-- ==== Sys2Proof/Laws/Link.lean ====
section
/-! SUPPORT. What the arbiter, a queued report, a queued answer, a whole event and a whole request do to the link. -/

namespace Sys2Proof.Machine

/-- The arbiter moves a message from a queue to the transmitter: nothing is lost or reordered (R168). -/
@[simp] theorem startFrame_answersOut (s : State) : (startFrame s).answersOut = s.answersOut := by
  unfold startFrame
  split
  · rfl
  · next h =>
    split
    · next a rest ha => simp [State.answersOut, State.modLink, h, ha]
    · next ha => split <;> simp [State.answersOut, State.modLink, h, ha]

@[simp] theorem startFrame_reportsOut (s : State) : (startFrame s).reportsOut = s.reportsOut := by
  unfold startFrame
  split
  · rfl
  · next h =>
    split
    · next a rest ha => simp [State.reportsOut, State.modLink, h]
    · next ha => split <;> next hr => simp [State.reportsOut, State.modLink, h, hr]

/-- The arbiter writes the transmitter and the two queues, and nothing else. -/
theorem startFrame_eq (s : State) :
    startFrame s = { s with link := { s.link with
      tx := (startFrame s).link.tx, answers := (startFrame s).link.answers, reports := (startFrame s).link.reports } } := by
  unfold startFrame
  split <;> (try rfl)
  split <;> (try rfl)
  split <;> rfl

theorem startFrame_linkKept (s : State) : LinkKept s (startFrame s) s.link.t1 := by
  constructor <;> rw [startFrame_eq]

@[simp] theorem startFrame_missed (s : State) : (startFrame s).link.missed = s.link.missed := by
  rw [startFrame_eq]

@[simp] theorem State.answer_answersOut (s : State) (a : Answer) : (s.answer a).answersOut = s.answersOut ++ [a] := by
  simp [State.answersOut]

@[simp] theorem State.answer_reportsOut (s : State) (a : Answer) : (s.answer a).reportsOut = s.reportsOut := by
  simp [State.reportsOut]

@[simp] theorem State.report_answersOut (s : State) (r : Report) : (s.report r).answersOut = s.answersOut := by
  unfold State.report; split <;> simp [State.answersOut]

/-- A report that finds room joins the queue (R167). -/
theorem State.report_room (s : State) (r : Report) (h : s.link.reports.length < Config.maxReports) :
    s.report r = s.modLink (fun k => { k with reports := k.reports ++ [r] }) := by
  unfold State.report; simp [h]

/-- A report that finds 32 waiting is discarded and sets the missed flag (R167). -/
theorem State.report_full (s : State) (r : Report) (h : ¬ s.link.reports.length < Config.maxReports) :
    s.report r = s.modLink (fun k => { k with missed := true }) := by
  unfold State.report; simp [h]

/-- A report changes nothing of the link but the report queue and the missed flag. -/
theorem State.report_eq (s : State) (r : Report) :
    s.report r = { s with link := { s.link with
      reports := (s.report r).link.reports, missed := (s.report r).link.missed } } := by
  unfold State.report; split <;> rfl

/-- While the supply is good, an event is its effect followed by the arbiter. -/
theorem takeEvent_good (f : State → State) (s : State) (h : s.supply.failed = false) :
    takeEvent f s = .next (startFrame (f s)) := by simp [takeEvent, h]

/-- While the supply is FAILED, no event is taken (R155). -/
theorem takeEvent_failed (f : State → State) (s : State) (h : s.supply.failed = true) : takeEvent f s = .next s := by
  simp [takeEvent, h]

/-- A request taken while the part listens: T1 is reloaded, the request is made, its answer is queued, the arbiter acts. -/
theorem takeRequest_listening (kind tag : Byte) (f : State → State × Reply) (s : State) (h : s.Listening) :
    takeEvent (takeRequest kind tag f) s =
      .next (startFrame ((f (reloadT1 s)).1.answer
        { kind := answerKind kind, tag := tag, reply := (f (reloadT1 s)).2 })) := by
  have hr : (reloadT1 s).link.answers.length < Config.maxAnswers := h.room
  simp only [takeEvent, h.good, takeRequest, superviseFrame, h.ok, dispatch, hr, if_true]
  rfl

/-- A request that changes nothing but its answer, taken while the part listens. -/
theorem takeRequest_only_answers (kind tag : Byte) (f : State → State × Reply) (s : State) (r : Reply) (h : s.Listening)
    (hf : f (reloadT1 s) = (reloadT1 s, r)) :
    ∃ t, takeEvent (takeRequest kind tag f) s = .next t ∧ t = { s with link := t.link } ∧
      Answered s t (answerKind kind) tag r.result r.body [] := by
  refine ⟨_, takeRequest_listening kind tag f s h, ?_, ?_⟩
  · rw [hf, startFrame_eq]; rfl
  · rw [hf]
    refine ⟨⟨?_, ?_⟩, ?_, ?_⟩
    · constructor <;> rw [startFrame_eq] <;> rfl
    · simp; rfl
    · simp; rfl
    · simp; rfl

end Sys2Proof.Machine
end

