-- ==== Sys2Proof/Laws/Lines.lean ====
section
/-! SUPPORT. What each shared operation of a line does to a line that is not IDLE, said once: the entries to INJECT, STARVED,
HOLD and DRAIN, the exits, the releases and additions of hold causes, the withdrawal of a request, and the notices. -/

namespace Sys2Proof.Machine

/-- A state is its parts after a line is written. -/
theorem State.setLive_eq (s : State) (l : LineId) (v : Live) :
    s.setLive l v = { s with lines := s.lines.set l { s.line l with live := some v } } := rfl

@[simp] theorem State.line_setLive_self (s : State) (l : LineId) (v : Live) :
    (s.setLive l v).line l = { s.line l with live := some v } := by
  simp [State.setLive]

@[simp] theorem State.setLive_setLive (s : State) (l : LineId) (v w : Live) : (s.setLive l v).setLive l w = s.setLive l w := by
  simp [State.setLive, State.setLine, State.line]

@[simp] theorem State.ctx_setLive_self (s : State) (l : LineId) (v : Live) : (s.setLive l v).ctx l = some v.ctx := by
  simp [State.ctx]

@[simp] theorem State.phase_setLive_self (s : State) (l : LineId) (v : Live) : (s.setLive l v).phase l = some v.phase := by
  simp [State.phase]

@[simp] theorem State.tank_setLive (s : State) (l : LineId) (v : Live) (t : TankId) : (s.setLive l v).tank t = s.tank t := rfl

@[simp] theorem State.reserve_setLive (s : State) (l : LineId) (v : Live) (t : TankId) :
    (s.setLive l v).reserve t = s.reserve t := rfl

@[simp] theorem State.live_handOff (s : State) (i : Instr) (l : LineId) : (s.handOff i).live l = s.live l := rfl

@[simp] theorem State.ctx_handOff (s : State) (i : Instr) (l : LineId) : (s.handOff i).ctx l = s.ctx l := rfl

@[simp] theorem State.phase_handOff (s : State) (i : Instr) (l : LineId) : (s.handOff i).phase l = s.phase l := rfl

theorem State.setLive_handOff (s : State) (i : Instr) (l : LineId) (v : Live) :
    (s.handOff i).setLive l v = (s.setLive l v).handOff i := rfl

variable {s : State} {l : LineId} {v : Live}

theorem ctx_of_live (h : s.live l = some v) : s.ctx l = some v.ctx := by simp [State.ctx, h]

theorem phase_of_live (h : s.live l = some v) : s.phase l = some v.phase := by simp [State.phase, h]

theorem modCtx_eq (h : s.live l = some v) (f : Context → Context) :
    s.modCtx l f = s.setLive l { v with ctx := f v.ctx } := by simp [State.modCtx, h]

theorem setPhase_eq (h : s.live l = some v) (p : Phase) (f : Context → Context) :
    setPhase l p f s = s.setLive l { v with phase := p, ctx := f v.ctx } := by simp [setPhase, h]

/-- A LINE report names the line's context as it stands (R84). -/
theorem lineReport_eq (h : s.live l = some v) (before after : Phase) (cause : Option Cause) (cond : Option Release) :
    lineReport l before after cause cond s = s.report (lineChange s l before after cause v.ctx.hold v.ctx.starve cond) := by
  simp [lineReport, ctx_of_live h, lineChange]

/-- A request is recorded and handed to the tank, unless one is pending (section 7.4). -/
theorem raiseRequest_eq (h : s.live l = some v) (mix : Nat) :
    raiseRequest l mix s =
      if v.ctx.pendingReq.isSome then s
      else (s.setLive l { v with ctx := { v.ctx with pendingReq := some mix } }).handOff (.mixRequest v.ctx.tank l mix) := by
  simp [raiseRequest, ctx_of_live h, modCtx_eq h]

/-- Writing a line as it stands changes nothing. -/
theorem setLive_same (h : s.live l = some v) : s.setLive l v = s := by
  have e : { s.line l with live := some v } = s.lines[l] := by
    have : (s.line l).live = some v := h
    rw [← this]; rfl
  have : s.lines.set l s.lines[l] = s.lines := by simp
  unfold State.setLive State.setLine
  rw [e, this]

/-- Every exit from INJECT clears the refusal timer and has the tank examine its queue (R65). -/
theorem exitIfInject_eq (h : s.live l = some v) :
    exitIfInject l s =
      { s.setLive l { v with ctx := { v.ctx with
          refusalTimer := if v.phase = .inject then 0 else v.ctx.refusalTimer } } with
        handoffs := s.handoffs ++ leaving v.phase v.ctx } := by
  unfold exitIfInject leaving
  rw [phase_of_live h]
  by_cases hp : v.phase = .inject
  · simp [hp, exitInject, ctx_of_live h, modCtx_eq h]; rfl
  · simp [hp, setLive_same h]

/-- What an entry to INJECT leaves (R65). -/
theorem enterInject_eq (h : s.live l = some v) (pe : Nat) :
    enterInject l pe s =
      s.setLive l { v with phase := .inject, ctx := { v.ctx with pRamp := pe, u := 0, first := true, starve := none } } := by
  simp [enterInject, setPhase_eq h]

/-- `State.entry` in the model's own terms: by supply, and by starve cause. -/
theorem entry_eq (s : State) (c : Context) (pe : Nat) :
    s.entry c pe =
      if s.supplies c then (.inject, { c with pRamp := pe, u := 0, first := true, starve := none })
      else if s.starveCause c = .mix then
        (.starved, { c with u := 0, starve := some .mix, pendingReq := some (c.pendingReq.getD c.mix) })
      else (.starved, { c with u := 0, starve := some .supply }) := by
  unfold State.entry State.supplies State.starveCause State.tankState judgeTank
  cases (s.tank c.tank).mix with
  | none => simp
  | some m =>
    by_cases hm : m = c.mix
    · by_cases hc : s.reserve c.tank < (s.tank c.tank).contents <;> simp [hm, hc, Nat.not_le.2, Nat.not_lt.1]
    · simp [hm]

/-- A line that leaves BOUND, HOLD or STARVED enters what `State.entry` says, and hands over the request it has raised
(R64 to R67, R70). -/
theorem injectOrStarve_eq (h : s.live l = some v) (pe : Nat) :
    injectOrStarve l pe s =
      { s.setLive l { v with phase := (s.entry v.ctx pe).1, ctx := (s.entry v.ctx pe).2 } with
        handoffs := s.handoffs ++ raised l v.ctx (s.entry v.ctx pe).2 } := by
  unfold injectOrStarve
  simp only [ctx_of_live h]
  rw [entry_eq]
  by_cases hs : s.supplies v.ctx = true
  · simp only [hs, if_true, enterInject_eq h]
    cases hq : v.ctx.pendingReq <;> simp [raised, hq, State.setLive_eq]
  · by_cases hm : s.starveCause v.ctx = .mix
    · simp only [hs, hm, if_true, enterStarved, ctx_of_live h, setPhase_eq h]
      rw [raiseRequest_eq (State.live_setLive_self ..)]
      cases hq : v.ctx.pendingReq <;> simp [hq, raised, State.handOff, State.setLive_eq, State.line]
    · have hc : s.starveCause v.ctx = .supply := by
        cases hx : s.starveCause v.ctx
        · rfl
        · exact absurd hx hm
      simp only [hs, hc, enterStarved, ctx_of_live h, setPhase_eq h]
      cases hq : v.ctx.pendingReq <;> simp [raised, hq, State.setLive_eq]

@[simp] theorem State.entry_setLive (s : State) (l : LineId) (v : Live) (c : Context) (pe : Nat) :
    (s.setLive l v).entry c pe = s.entry c pe := rfl

/-- The entry to HOLD from INJECT, RELIEF or STARVED (R69). -/
theorem enterHold_eq (h : s.live l = some v) (before : Phase) (cause : Cause) (add : HoldSet → HoldSet) :
    enterHold l before cause add s =
      ({ s.setLive l
          { phase := .hold, latch := v.latch
            ctx := { v.ctx with
              hold := add HoldSet.none, u := 0, starve := none
              refusalTimer := if v.phase = Phase.inject then 0 else v.ctx.refusalTimer } } with
        handoffs := s.handoffs ++ leaving v.phase v.ctx }).report
        (lineChange s l before .hold (some cause) (add HoldSet.none) none none) := by
  unfold enterHold
  rw [exitIfInject_eq h]
  have h1 : ∀ (w : Live) (hs : List Instr), ({ s.setLive l w with handoffs := hs } : State).live l = some w := by
    intro w hs; exact State.live_setLive_self s l w
  rw [setPhase_eq (h1 _ _)]
  rw [lineReport_eq (State.live_setLive_self ..)]
  simp [State.setLive_eq, State.line, lineChange, State.uptime]

/-- A cause is added or replaced in HOLD (R68, R84). -/
theorem addCause_eq (h : s.live l = some v) (cause : Cause) (add : HoldSet → HoldSet) :
    addCause l cause add s =
      (s.setLive l { v with ctx := { v.ctx with hold := add v.ctx.hold } }).report
        (lineChange s l .hold .hold (some cause) (add v.ctx.hold) v.ctx.starve none) := by
  unfold addCause
  rw [modCtx_eq h, lineReport_eq (State.live_setLive_self ..)]
  simp [lineChange, State.uptime]

/-- A line leaves HOLD (R70). -/
theorem leaveHold_eq (h : s.live l = some v) (pe : Nat) (cause : Option Cause) (cond : Release) :
    leaveHold l pe cause cond s =
      ({ s.setLive l { v with phase := (s.entry v.ctx pe).1, ctx := (s.entry v.ctx pe).2 } with
        handoffs := s.handoffs ++ raised l v.ctx (s.entry v.ctx pe).2 }).report
        (lineChange s l .hold (s.entry v.ctx pe).1 cause (s.entry v.ctx pe).2.hold (s.entry v.ctx pe).2.starve (some cond)) := by
  unfold leaveHold
  rw [injectOrStarve_eq h]
  have h1 : ({ s.setLive l { v with phase := (s.entry v.ctx pe).1, ctx := (s.entry v.ctx pe).2 } with
      handoffs := s.handoffs ++ raised l v.ctx (s.entry v.ctx pe).2 } : State).live l =
      some { v with phase := (s.entry v.ctx pe).1, ctx := (s.entry v.ctx pe).2 } := State.live_setLive_self s l _
  simp only [phase_of_live h1, lineReport_eq h1]
  simp [lineChange, State.uptime]

/-- Causes are released in HOLD: the line leaves it where none is left, and stays and reports where one is (R70, R84). -/
theorem releaseCauses_eq (h : s.live l = some v) (drop : HoldSet → HoldSet) (cause : Option Cause) (cond : Release) :
    releaseCauses l drop cause cond s =
      let c := { v.ctx with hold := drop v.ctx.hold }
      if c.hold.isEmpty then
        ({ s.setLive l { v with phase := (s.entry c c.lastPe).1, ctx := (s.entry c c.lastPe).2 } with
          handoffs := s.handoffs ++ raised l c (s.entry c c.lastPe).2 }).report
          (lineChange s l .hold (s.entry c c.lastPe).1 cause (s.entry c c.lastPe).2.hold (s.entry c c.lastPe).2.starve
            (some cond))
      else (s.setLive l { v with ctx := c }).report (lineChange s l .hold .hold cause c.hold c.starve (some cond)) := by
  unfold releaseCauses
  simp only [modCtx_eq h, State.ctx_setLive_self]
  rw [leaveHold_eq (State.live_setLive_self ..), lineReport_eq (State.live_setLive_self ..)]
  simp [lineChange, State.uptime]

/-- What a cause from outside does to a line by its state (R68, R69, R149, R151, R170). -/
theorem imposeCause_eq (h : s.live l = some v) (cause : Cause) (add : HoldSet → HoldSet) :
    imposeCause l cause add s =
      match v.phase with
      | .inject | .relief | .starved => enterHold l v.phase cause add s
      | .hold =>
        if v.ctx.hold.holds cause then s.setLive l { v with ctx := { v.ctx with hold := add v.ctx.hold } }
        else addCause l cause add s
      | _ => s := by
  cases hp : v.phase <;> simp only [imposeCause, h, modCtx_eq h, hp]

/-- The end latch is filled from the context as it stands (R108). -/
theorem fillLatch_eq (h : s.live l = some v) (o : PassOutcome) (p : Phase) (u : Int) :
    fillLatch l o p u s = s.setLive l { v with latch := some (endLatch s o p u v.ctx) } := by
  simp [fillLatch, h]

/-- A withdrawal clears the line's request and what its notices say of it, takes the line's entry out of its tank's queue,
and has the tank examine its head where that entry was the head (R129). -/
theorem dropRequest_eq (h : s.live l = some v) (c : Context) :
    dropRequest l c s =
      { s with
        lines := s.lines.set l
          { s.line l with
            live := some { v with ctx := { v.ctx with pendingReq := none } }
            notices := (s.line l).notices.map Notice.withdrawn }
        tanks := s.tanks.set c.tank { s.tank c.tank with queue := (s.tank c.tank).queue.filter (fun e => e.1 != l) }
        handoffs := s.handoffs ++
          if ((s.tank c.tank).queue.head?).any (fun e => e.1 == l) then [.headExamination c.tank] else [] } := by
  have hs : ∀ x, (s.setTank c.tank x).live l = some v := fun _ => h
  unfold dropRequest
  simp only [modCtx_eq (hs _)]
  split <;> simp [State.setLive, State.setLine, State.setTank, State.handOff, State.line]

/-- The withdrawal of a request writes its line, its tank's queue and the hand-offs, and nothing else (R129). -/
theorem dropRequest_frame (s : State) (l : LineId) (c : Context) :
    dropRequest l c s =
      { s with
        lines := (dropRequest l c s).lines, tanks := (dropRequest l c s).tanks, handoffs := (dropRequest l c s).handoffs } := by
  unfold dropRequest
  simp only [State.modCtx]
  split <;> split <;> rfl

/-- A line that is not started is left as it stands; one that is has left its state for DRAIN (R77, R107, R108). -/
theorem drainLine_cases (s : State) (l : LineId) (o : PassOutcome) :
    (s.started l = false ∧ drainLine l o s = s) ∨
    ∃ v, s.live l = some v ∧ v.phase.started = true ∧
      drainLine l o s = fillLatch l o v.phase v.ctx.u (enterDrain l s) := by
  unfold drainLine State.started State.phase
  cases h : s.live l with
  | none => simp
  | some v => by_cases hp : v.phase.started <;> simp [hp]

/-! ### Notices (R121) -/

/-- A notice stands behind the line's others, and is handed to it as an event of its own. -/
theorem sendNotice_eq (s : State) (l : LineId) (n : Notice) :
    sendNotice l n s =
      { s with
        lines := s.lines.set l { s.line l with notices := (s.line l).notices ++ [n] }
        handoffs := s.handoffs ++ [.tankNotice l] } := rfl

/-- An unbound line is IDLE, its timer stopped and its notices void (R31, R75, R76). -/
theorem unbind_eq (s : State) (l : LineId) :
    unbind l s =
      { s with
        lines := s.lines.set l
          { s.line l with live := none, sampleTimer := none, permitDrop := false, notices := [] }
        handoffs := s.handoffs.filter (fun i => i != .tankNotice l) } := rfl

end Sys2Proof.Machine
end

