-- ==== Sys2Proof/Laws/Frames.lean ====
section
/-! SUPPORT. What the shared operations of the lines and the uplift monitor leave alone: an action on a line writes lines,
tanks, hand-offs, reports and the missed flag, and nothing else of the part. -/

namespace Sys2Proof.Machine

/-- From `s` to `t` only lines, tanks, hand-offs, the waiting reports and the missed flag may have changed. -/
structure LineFrame (s t : State) : Prop where
  store : t.store = s.store
  gauges : t.gauges = s.gauges
  zoneWarn : t.zoneWarn = s.zoneWarn
  scan : t.scan = s.scan
  supply : t.supply = s.supply
  freeCount : t.freeCount = s.freeCount
  pending : t.pending = s.pending
  link : t.link = { s.link with reports := t.link.reports, missed := t.link.missed }

theorem LineFrame.refl (s : State) : LineFrame s s := ⟨rfl, rfl, rfl, rfl, rfl, rfl, rfl, rfl⟩

theorem LineFrame.trans {s t r : State} (h : LineFrame s t) (k : LineFrame t r) : LineFrame s r where
  store := k.store.trans h.store
  gauges := k.gauges.trans h.gauges
  zoneWarn := k.zoneWarn.trans h.zoneWarn
  scan := k.scan.trans h.scan
  supply := k.supply.trans h.supply
  freeCount := k.freeCount.trans h.freeCount
  pending := k.pending.trans h.pending
  link := by rw [k.link, h.link]

/-- Actions one after another keep the frame. -/
theorem LineFrame.foldl {α : Type} {f : State → α → State} (h : ∀ s a, LineFrame s (f s a)) (as : List α) (s : State) :
    LineFrame s (as.foldl f s) := by
  induction as generalizing s with
  | nil => exact .refl s
  | cons a rest ih => exact (h s a).trans (ih (f s a))

/-- The answers stand as they were. -/
theorem LineFrame.answersOut {s t : State} (h : LineFrame s t) : t.answersOut = s.answersOut := by
  unfold State.answersOut; rw [h.link]

theorem report_frame (s : State) (r : Report) : LineFrame s (s.report r) := by
  unfold State.report; split <;> exact ⟨rfl, rfl, rfl, rfl, rfl, rfl, rfl, rfl⟩

theorem setLine_frame (s : State) (l : LineId) (x : Line) : LineFrame s (s.setLine l x) :=
  ⟨rfl, rfl, rfl, rfl, rfl, rfl, rfl, rfl⟩

theorem setTank_frame (s : State) (t : TankId) (x : Tank) : LineFrame s (s.setTank t x) :=
  ⟨rfl, rfl, rfl, rfl, rfl, rfl, rfl, rfl⟩

theorem handOff_frame (s : State) (i : Instr) : LineFrame s (s.handOff i) := ⟨rfl, rfl, rfl, rfl, rfl, rfl, rfl, rfl⟩

theorem modCtx_frame (s : State) (l : LineId) (f : Context → Context) : LineFrame s (s.modCtx l f) := by
  unfold State.modCtx; split
  · exact .refl s
  · exact setLine_frame ..

theorem lineReport_frame (l : LineId) (before after : Phase) (cause : Option Cause) (cond : Option Release) (s : State) :
    LineFrame s (lineReport l before after cause cond s) := by
  unfold lineReport; split
  · exact .refl s
  · exact report_frame ..

theorem raiseRequest_frame (l : LineId) (mix : Nat) (s : State) : LineFrame s (raiseRequest l mix s) := by
  unfold raiseRequest; split
  · exact .refl s
  · split
    · exact .refl s
    · exact (modCtx_frame ..).trans (handOff_frame ..)

theorem setPhase_frame (l : LineId) (p : Phase) (f : Context → Context) (s : State) : LineFrame s (setPhase l p f s) := by
  unfold setPhase; split
  · exact .refl s
  · exact setLine_frame ..

theorem exitIfInject_frame (l : LineId) (s : State) : LineFrame s (exitIfInject l s) := by
  unfold exitIfInject exitInject; split
  · split
    · exact .refl s
    · exact (modCtx_frame ..).trans (handOff_frame ..)
  · exact .refl s

theorem enterStarved_frame (l : LineId) (s : State) : LineFrame s (enterStarved l s) := by
  unfold enterStarved
  split
  · exact .refl s
  · dsimp only
    split
    · exact (setPhase_frame ..).trans (raiseRequest_frame ..)
    · exact setPhase_frame ..

theorem injectOrStarve_frame (l : LineId) (pe : Nat) (s : State) : LineFrame s (injectOrStarve l pe s) := by
  unfold injectOrStarve; split
  · exact .refl s
  · split
    · exact setPhase_frame ..
    · exact enterStarved_frame ..

theorem enterHold_frame (l : LineId) (before : Phase) (cause : Cause) (add : HoldSet → HoldSet) (s : State) :
    LineFrame s (enterHold l before cause add s) :=
  ((exitIfInject_frame ..).trans (setPhase_frame ..)).trans (lineReport_frame ..)

theorem addCause_frame (l : LineId) (cause : Cause) (add : HoldSet → HoldSet) (s : State) :
    LineFrame s (addCause l cause add s) := (modCtx_frame ..).trans (lineReport_frame ..)

theorem leaveHold_frame (l : LineId) (pe : Nat) (cause : Option Cause) (cond : Release) (s : State) :
    LineFrame s (leaveHold l pe cause cond s) := by
  unfold leaveHold
  dsimp only
  split
  · exact injectOrStarve_frame ..
  · exact (injectOrStarve_frame ..).trans (lineReport_frame ..)

/-- The release of causes (R70). -/
theorem releaseCauses_frame (l : LineId) (drop : HoldSet → HoldSet) (cause : Option Cause) (cond : Release) (s : State) :
    LineFrame s (releaseCauses l drop cause cond s) := by
  unfold releaseCauses
  dsimp only
  split
  · exact modCtx_frame ..
  · split
    · exact (modCtx_frame ..).trans (leaveHold_frame ..)
    · exact (modCtx_frame ..).trans (lineReport_frame ..)

/-- A hold cause from outside (R68). -/
theorem imposeCause_frame (l : LineId) (cause : Cause) (add : HoldSet → HoldSet) (s : State) :
    LineFrame s (imposeCause l cause add s) := by
  unfold imposeCause
  split
  · exact .refl s
  · split
    · exact enterHold_frame ..
    · exact enterHold_frame ..
    · exact enterHold_frame ..
    · split
      · exact modCtx_frame ..
      · exact addCause_frame ..
    · exact .refl s

theorem fillLatch_frame (l : LineId) (o : PassOutcome) (p : Phase) (u : Int) (s : State) :
    LineFrame s (fillLatch l o p u s) := by
  unfold fillLatch; split
  · exact .refl s
  · exact setLine_frame ..

theorem dropRequest_lineFrame (l : LineId) (c : Context) (s : State) : LineFrame s (dropRequest l c s) := by
  rw [dropRequest_frame]; exact ⟨rfl, rfl, rfl, rfl, rfl, rfl, rfl, rfl⟩

theorem withdrawalReport_frame (l : LineId) (x : Line) (c : Context) (step : Nat) (s : State) :
    LineFrame s (withdrawalReport l x c step s) := by
  unfold withdrawalReport; split
  · exact .refl s
  · exact report_frame ..

/-- The entry to DRAIN (R77). -/
theorem enterDrain_frame (l : LineId) (s : State) : LineFrame s (enterDrain l s) := by
  unfold enterDrain
  split
  · exact .refl s
  · dsimp only
    refine LineFrame.trans ?_ (withdrawalReport_frame ..)
    split
    · exact ((((exitIfInject_frame ..).trans (setPhase_frame ..)).trans (setLine_frame ..)).trans
        (dropRequest_lineFrame ..)).trans (lineReport_frame ..)
    · exact (((exitIfInject_frame ..).trans (setPhase_frame ..)).trans (setLine_frame ..)).trans (dropRequest_lineFrame ..)

/-- A drain by an event that is no sample (R77). -/
theorem drainLine_frame (l : LineId) (o : PassOutcome) (s : State) : LineFrame s (drainLine l o s) := by
  unfold drainLine
  split
  · exact .refl s
  · split
    · exact (enterDrain_frame ..).trans (fillLatch_frame ..)
    · exact .refl s

/-- A notice to a line (R121). -/
theorem sendNotice_frame (l : LineId) (n : Notice) (s : State) : LineFrame s (sendNotice l n s) := by
  rw [sendNotice_eq]; exact ⟨rfl, rfl, rfl, rfl, rfl, rfl, rfl, rfl⟩

theorem sendNoticeIf_frame (s : State) (x : LineId × Option Notice) : LineFrame s (sendNoticeIf s x) := by
  unfold sendNoticeIf; split
  · exact .refl s
  · exact sendNotice_frame ..

/-- The reports of a tank event (R137). -/
theorem flushReqs_frame (reqs : List MixReport) (s : State) : LineFrame s (flushReqs reqs s) :=
  .foldl (fun _ _ => report_frame ..) ..

/-- The reports of a tank event leave lines and hand-offs as they are. -/
theorem flushReqs_lines_handoffs (reqs : List MixReport) (s : State) :
    (flushReqs reqs s).lines = s.lines ∧ (flushReqs reqs s).handoffs = s.handoffs := by
  unfold flushReqs State.reportAll
  generalize (allLines.flatMap (fun l => reqs.filter (fun r => r.line == l))).map Report.mixreq = rs
  induction rs generalizing s with
  | nil => exact ⟨rfl, rfl⟩
  | cons r rest ih =>
    have h := ih (s.report r)
    rw [State.report_eq] at h
    rw [List.foldl_cons, State.report_eq]
    exact h

/-- The close of a tank event writes lines, hand-offs and reports, and nothing else (R121, R137). -/
theorem closeTank_frame (t : TankId) (before : State) (w : TankWork) : LineFrame w.s (closeTank t before w) :=
  (flushReqs_frame ..).trans (.foldl (fun _ _ => sendNoticeIf_frame ..) ..)

/-- The routing of a trip (R149). -/
theorem routeTrip_frame (z : ZoneId) (s : State) : LineFrame s (routeTrip z s) := by
  unfold routeTrip
  split
  · exact .foldl (fun _ _ => drainLine_frame ..) ..
  · exact .foldl (fun _ _ => imposeCause_frame ..) ..
  · exact .refl s

/-- The action of a gauge fault, and of its clearing (R151). -/
theorem actOnFaultChange_frame (g : GaugeId) (z : ZoneId) (before s : State) :
    LineFrame s (actOnFaultChange g z before s) := by
  unfold actOnFaultChange holdForGauge releaseGauge
  split
  · exact .refl s
  · split
    · exact .foldl (fun _ _ => imposeCause_frame ..) ..
    · exact .foldl (fun _ _ => releaseCauses_frame ..) ..

theorem zoneReport_frame (z : ZoneId) (e : HeaveEvent) (before : State) (acts : List (LineId × LineAction)) (s : State) :
    LineFrame s (zoneReport z e before acts s) := by
  unfold zoneReport; split
  · exact .refl s
  · exact report_frame ..

theorem gaugeReport_frame (g : GaugeId) (e : HeaveEvent) (z : ZoneId) (before : State) (acts : List (LineId × LineAction))
    (s : State) : LineFrame s (gaugeReport g e z before acts s) := by
  unfold gaugeReport; split
  · exact .refl s
  · exact report_frame ..

/-- The warn judgement writes one zone's WARN, and nothing else (R145). -/
theorem judgeWarn_eq (z : ZoneId) (s : State) :
    judgeWarn z s = { s with zoneWarn := (judgeWarn z s).zoneWarn } := by
  unfold judgeWarn; split <;> rfl

/-- The warn judgement of a zone not in TRIP: at or beyond warn enters WARN, below its release leaves it (R145). -/
theorem judgeWarn_warned (z : ZoneId) (s : State) (h : s.latched z = false) :
    (judgeWarn z s).warned z =
      if s.warned z then s.someAtOrBeyond z (warnRelease (s.zoneCfg z).warn) else s.someAtOrBeyond z (s.zoneCfg z).warn := by
  unfold judgeWarn; simp [h]

/-- Every command answers a next state. -/
theorem exec_next (i : Instr) (s : State) : ∃ t, exec i s = .next t := by
  cases i <;> exact ⟨_, rfl⟩

end Sys2Proof.Machine
end

