-- ==== Sys2Proof/Laws/Tables.lean ====
section
/-! SUPPORT. The laws of the plan tables (R1): what a lookup finds after a write, a removal or a change, and that every
operation keeps the keys rising. -/

namespace Sys2Proof.Machine

variable {α : Type}

theorem tfind_tput (t : Table α) (k n : Nat) (v : α) : tfind (tput t k v) n = if n = k then some v else tfind t n := by
  induction t with
  | nil => simp [tput, tfind, eq_comm]
  | cons p rest ih =>
    obtain ⟨j, x⟩ := p
    by_cases h1 : k < j
    · simp only [tput, h1, if_true, tfind]
      by_cases hn : n = k
      · subst hn; simp
      · simp [hn, Ne.symm hn]
    · by_cases h2 : k = j
      · subst h2
        simp only [tput, lt_self_iff_false, if_false, if_true, tfind]
        by_cases hn : n = k
        · subst hn; simp
        · simp [hn, Ne.symm hn]
      · simp only [tput, h1, h2, if_false, tfind]
        by_cases hj : j = n
        · subst hj; simp [Ne.symm h2]
        · simp [hj, ih]

theorem tfind_tmod (t : Table α) (k n : Nat) (f : α → α) :
    tfind (tmod t k f) n = if n = k then (tfind t n).map f else tfind t n := by
  induction t with
  | nil => simp [tmod, tfind]
  | cons p rest ih =>
    obtain ⟨j, x⟩ := p
    simp only [tmod, List.map_cons] at ih ⊢
    by_cases hj : j = k
    · subst hj
      simp only [tfind, if_true]
      by_cases hn : j = n
      · subst hn; simp
      · simpa [hn, Ne.symm hn] using ih
    · simp only [hj, if_false, tfind]
      by_cases hn : j = n
      · subst hn; simp [hj]
      · simpa [hn] using ih

theorem tfind_filter (t : Table α) (p : Nat → Bool) (n : Nat) :
    tfind (t.filter (fun q => p q.1)) n = if p n then tfind t n else none := by
  induction t with
  | nil => simp [tfind]
  | cons q rest ih =>
    obtain ⟨j, x⟩ := q
    by_cases hj : p j
    · simp only [List.filter_cons, hj, if_true, tfind, ih]
      by_cases hn : j = n
      · subst hn; simp [hj]
      · simp [hn]
    · simp only [List.filter_cons, hj, tfind]
      by_cases hn : j = n
      · subst hn; simp [hj, ih]
      · simp [hn, ih]

theorem tfind_tdel (t : Table α) (k n : Nat) : tfind (tdel t k) n = if n = k then none else tfind t n := by
  have := tfind_filter t (fun i => i != k) n
  unfold tdel
  rw [this]
  by_cases h : n = k <;> simp [h]

theorem tfind_map {β : Type} (t : Table α) (f : Nat → α → β) (n : Nat) :
    tfind (t.map (fun q => (q.1, f q.1 q.2))) n = (tfind t n).map (f n) := by
  induction t with
  | nil => simp [tfind]
  | cons q rest ih =>
    obtain ⟨j, x⟩ := q
    by_cases hn : j = n
    · subst hn; simp [tfind]
    · simp [tfind, hn, ih]

theorem tfind_mem (t : Table α) (n : Nat) (x : α) (h : tfind t n = some x) : (n, x) ∈ t := by
  induction t with
  | nil => simp [tfind] at h
  | cons q rest ih =>
    obtain ⟨j, y⟩ := q
    by_cases hn : j = n
    · subst hn; simp [tfind] at h; simp [h]
    · simp [tfind, hn] at h; exact List.mem_cons_of_mem _ (ih h)

/-- Rising keys, as a pairwise law. -/
theorem tsorted_iff (t : Table α) : tsorted t = true ↔ t.Pairwise (fun a b => a.1 < b.1) := by
  induction t with
  | nil => simp [tsorted]
  | cons p rest ih =>
    obtain ⟨i, x⟩ := p
    cases rest with
    | nil => simp [tsorted]
    | cons q more =>
      obtain ⟨j, y⟩ := q
      simp only [tsorted, Bool.and_eq_true, decide_eq_true_eq, ih, List.pairwise_cons]
      constructor
      · rintro ⟨hij, hq, hm⟩
        refine ⟨?_, hq, hm⟩
        intro b hb
        rcases List.mem_cons.1 hb with rfl | hb
        · exact hij
        · exact lt_trans hij (hq b hb)
      · rintro ⟨hp, hq, hm⟩
        exact ⟨hp _ (List.mem_cons_self ..), hq, hm⟩

theorem tput_keys (t : Table α) (k : Nat) (v : α) (q : Nat × α) (h : q ∈ tput t k v) : q = (k, v) ∨ q ∈ t := by
  induction t with
  | nil => simp [tput] at h; exact Or.inl h
  | cons p rest ih =>
    obtain ⟨j, x⟩ := p
    unfold tput at h
    split_ifs at h with h1 h2
    · rcases List.mem_cons.1 h with h | h
      · exact Or.inl h
      · exact Or.inr h
    · rcases List.mem_cons.1 h with h | h
      · exact Or.inl h
      · exact Or.inr (List.mem_cons_of_mem _ h)
    · rcases List.mem_cons.1 h with h | h
      · exact Or.inr (h ▸ List.mem_cons_self ..)
      · exact (ih h).imp id (List.mem_cons_of_mem _)

theorem tput_sorted (t : Table α) (k : Nat) (v : α) (h : tsorted t = true) : tsorted (tput t k v) = true := by
  rw [tsorted_iff] at h ⊢
  induction t with
  | nil => simp [tput]
  | cons p rest ih =>
    obtain ⟨j, x⟩ := p
    rw [List.pairwise_cons] at h
    unfold tput
    split_ifs with h1 h2
    · rw [List.pairwise_cons, List.pairwise_cons]
      refine ⟨?_, h⟩
      intro b hb
      rcases List.mem_cons.1 hb with rfl | hb
      · exact h1
      · exact lt_trans h1 (h.1 b hb)
    · rw [List.pairwise_cons]
      exact ⟨fun b hb => h2 ▸ h.1 b hb, h.2⟩
    · rw [List.pairwise_cons]
      refine ⟨?_, ih h.2⟩
      intro b hb
      rcases tput_keys rest k v b hb with rfl | hb
      · show j < k
        omega
      · exact h.1 b hb

theorem tmod_sorted (t : Table α) (k : Nat) (f : α → α) (h : tsorted t = true) : tsorted (tmod t k f) = true := by
  rw [tsorted_iff] at h ⊢
  unfold tmod
  rw [List.pairwise_map]
  refine h.imp ?_
  intro a b hab
  split_ifs <;> exact hab

theorem filter_sorted (t : Table α) (p : Nat × α → Bool) (h : tsorted t = true) : tsorted (t.filter p) = true := by
  rw [tsorted_iff] at h ⊢
  exact h.filter p

theorem tmod_length (t : Table α) (k : Nat) (f : α → α) : (tmod t k f).length = t.length := by simp [tmod]

theorem tput_length (t : Table α) (k : Nat) (v : α) :
    (tput t k v).length = if (tfind t k).isSome then (tput t k v).length else t.length + 1 := by
  split_ifs with h
  · rfl
  · induction t with
    | nil => rfl
    | cons p rest ih =>
      obtain ⟨j, x⟩ := p
      unfold tput
      split_ifs with h1 h2
      · rfl
      · subst h2; simp [tfind] at h
      · have hj : ¬ j = k := fun e => h2 e.symm
        simp [tfind, hj] at h
        simp [ih (by simpa using h)]

end Sys2Proof.Machine
end

