-- ==== Sys2Proof/Laws/Tanks.lean ====
section
/-! SUPPORT. What a tank event does at its close, and what its notices come to at a line. -/

namespace Sys2Proof.Machine

/-! ### Notices on their way -/

@[simp] theorem Line.step_append (x : Line) (ns : List Notice) (n : Notice) (c : Context) :
    ({ x with notices := ns ++ [n] } : Line).step c = n.step.getD (({ x with notices := ns } : Line).step c) := by
  simp [Line.step]

@[simp] theorem Line.pending_append (x : Line) (ns : List Notice) (n : Notice) (c : Context) :
    ({ x with notices := ns ++ [n] } : Line).pending c = n.pend.getD (({ x with notices := ns } : Line).pending c) := by
  simp [Line.pending]

/-- With no notice on its way a line's request and step are its context's. -/
theorem Line.pending_none {x : Line} (h : x.notices = []) (c : Context) : x.pending c = c.pendingReq := by
  simp [Line.pending, h]

@[simp] theorem Line.unreported_append (x : Line) (ns : List Notice) (n : Notice) (c : Context) :
    ({ x with notices := ns ++ [n] } : Line).unreported c = n.leaves (({ x with notices := ns } : Line).unreported c) := by
  simp [Line.unreported]

theorem Line.unreported_none {x : Line} (h : x.notices = []) (c : Context) : x.unreported c = c.pendingReq := by
  simp [Line.unreported, h]

theorem Line.step_none {x : Line} (h : x.notices = []) (c : Context) : x.step c = c.step := by simp [Line.step, h]

/-! ### What an event collects -/

@[simp] theorem TankWork.note_s (w : TankWork) (l : LineId) (n : Notice) : (w.note l n).s = w.s := rfl

@[simp] theorem TankWork.note_reqs (w : TankWork) (l : LineId) (n : Notice) : (w.note l n).reqs = w.reqs := rfl

@[simp] theorem TankWork.note_self (w : TankWork) (l : LineId) (n : Notice) :
    (w.note l n).notes[l] = some ((w.notes[l]).elim n n.over) := by simp [TankWork.note]

theorem TankWork.note_other (w : TankWork) {l k : LineId} (n : Notice) (h : k ≠ l) :
    (w.note l n).notes[k] = w.notes[k] := by
  have hv : l.val ≠ k.val := fun e => h (Fin.ext e.symm)
  simp [TankWork.note, hv]

/-! ### The close of an event -/

/-- The hand-off of a notice, where there is one. -/
def noticeHandOffs (x : LineId × Option Notice) : List Instr := if x.2.isSome then [.tankNotice x.1] else []

/-- A notice is sent, or nothing is (R121). -/
theorem sendNoticeIf_eq (s : State) (x : LineId × Option Notice) :
    sendNoticeIf s x =
      { s with
        lines := s.lines.set x.1 { s.line x.1 with notices := (s.line x.1).notices ++ x.2.toList }
        handoffs := s.handoffs ++ noticeHandOffs x } := by
  obtain ⟨l, n⟩ := x
  cases n with
  | none =>
    have e : s.lines.set l { s.line l with notices := (s.line l).notices ++ [] } = s.lines := by
      rw [List.append_nil]; exact Vector.set_getElem_self ..
    simp only [sendNoticeIf, noticeHandOffs, Option.toList, Option.isSome, Bool.false_eq_true, if_false]
    rw [e, List.append_nil]
  | some n => simp [sendNoticeIf, noticeHandOffs, sendNotice_eq]

/-- Notices sent one after another, at most one to a line: each line's stand behind its others, and their hand-offs behind
those that wait, in the order of the list. -/
theorem sendNotices_spec (xs : List (LineId × Option Notice)) (h : (xs.map (·.1)).Nodup) (s : State) :
    (xs.foldl sendNoticeIf s).handoffs = s.handoffs ++ xs.flatMap noticeHandOffs ∧
    ∀ l, (xs.foldl sendNoticeIf s).line l =
      { s.line l with notices := (s.line l).notices ++ ((xs.find? (fun x => x.1 == l)).bind (·.2)).toList } := by
  induction xs generalizing s with
  | nil => simp
  | cons x rest ih =>
    obtain ⟨hx, hr⟩ := List.nodup_cons.1 h
    obtain ⟨ih1, ih2⟩ := ih hr (sendNoticeIf s x)
    refine ⟨?_, fun l => ?_⟩
    · rw [List.foldl_cons, ih1, sendNoticeIf_eq]; simp
    · rw [List.foldl_cons, ih2 l, sendNoticeIf_eq]
      by_cases hl : x.1 = l
      · subst hl
        have : rest.find? (fun y => y.1 == x.1) = none := by
          rw [List.find?_eq_none]
          intro y hy e
          exact hx (by rw [List.mem_map]; exact ⟨y, hy, by simpa using e⟩)
        simp [State.line, this]
      · have hv : x.1.val ≠ l.val := fun e => hl (Fin.ext e)
        simp [State.line, hv, hl]

/-- The close of a tank event, at every line and in the hand-offs (R121). -/
theorem closeTank_spec (t : TankId) (before : State) (w : TankWork) :
    (closeTank t before w).handoffs =
      w.s.handoffs ++ allLines.flatMap (fun l => if (w.noticeTo t before l).isSome then [.tankNotice l] else []) ∧
    ∀ l, (closeTank t before w).line l =
      { w.s.line l with notices := (w.s.line l).notices ++ (w.noticeTo t before l).toList } := by
  have hf := flushReqs_lines_handoffs w.reqs w.s
  have hn : ((allLines.map (fun l => (l, w.noticeTo t before l))).map (·.1)).Nodup := by simp [allLines]
  obtain ⟨h1, h2⟩ := sendNotices_spec _ hn (flushReqs w.reqs w.s)
  refine ⟨?_, fun l => ?_⟩
  · rw [closeTank, h1, hf.2, List.flatMap_map]; rfl
  · have hl : ∀ k, (flushReqs w.reqs w.s).line k = w.s.line k := fun k => by simp [State.line, hf.1]
    rw [closeTank, h2 l, hl]
    fin_cases l <;> rfl

end Sys2Proof.Machine
end

