-- ==== Sys2Proof/Tests/Slice0.lean ====
section
/-! SUPPORT. Tests: commands that `wellFormed` refuses, the worked figures of the manual, and, for each statement that has
hypotheses, a witness `witness_<Name>`: concrete states and operands that meet the hypotheses of each of its clauses, at the
boundary values of their ranges. -/

namespace Sys2Proof.Tests

open Sys2Proof.Machine

/-! ### Well-formedness: one ill-formed command for each check -/

theorem test_wellFormed_widths :
    (Instr.defsec 0 256).wellFormed = false ∧ (Instr.defsec 0 255).wellFormed = true ∧
    (Instr.qhole 0 65536).wellFormed = false ∧ (Instr.qhole 0 65535).wellFormed = true ∧
    (Instr.tankcfg 0 1 4294967296).wellFormed = false ∧ (Instr.tankcfg 0 1 4294967295).wellFormed = true ∧
    (Instr.defband 0 1 32768 0 1 100).wellFormed = false ∧ (Instr.defband 0 1 0 (-32769) 1 100).wellFormed = false ∧
    (Instr.defband 0 1 32767 (-32768) 1 100).wellFormed = true ∧
    (Instr.pause 0 1 (some 65536) none).wellFormed = false ∧ (Instr.pause 0 1 none none).wellFormed = true := by decide

theorem test_wellFormed_lists :
    (Instr.defhole 0 1 1 1 0 [2, 3, 4] 0 0 none 0).wellFormed = false ∧
    (Instr.defhole 0 1 1 1 0 [2, 65536] 0 0 none 0).wellFormed = false ∧
    (Instr.deflim 0 1 0 0 0 0 0 0 0 0 0 0 [(1, 1), (2, 2), (3, 3), (4, 4), (5, 0)]).wellFormed = false ∧
    (Instr.deflim 0 1 0 0 0 0 0 0 0 0 0 0 [(256, 0)]).wellFormed = false ∧
    (Instr.deflim 0 1 0 0 0 0 0 0 0 0 0 0 []).wellFormed = true := by decide

theorem test_wellFormed_events :
    (Instr.sample 0 25001).wellFormed = false ∧ (Instr.sample 0 25000).wellFormed = true ∧
    (Instr.tankDraw 0 0).wellFormed = false ∧ (Instr.tankDraw 0 65535001).wellFormed = false ∧
    (Instr.mixRequest 0 0 0).wellFormed = false ∧ (Instr.adopt 0 0 9).wellFormed = false ∧
    (Instr.gaugeConversion 65536).wellFormed = false := by decide

/-! ### Worked figures of the manual -/

/-- R163: the check of the digits one to nine. -/
theorem test_crc_check_value : crc [0x31, 0x32, 0x33, 0x34, 0x35, 0x36, 0x37, 0x38, 0x39] = 0x29B1 := by decide +kernel

/-- R41, its table. -/
theorem test_gauge_pressure :
    gaugePressure 10000 5440 = 900 ∧ gaugePressure 10000 3610 = 0 ∧ gaugePressure 10000 4000 = 0 ∧
    gaugePressure 16000 12000 = 8000 ∧ gaugePressure 10000 20000 = 10000 ∧ gaugePressure 10000 21000 = 10000 := by decide

/-- A front end with "2 or more" pulses, the last at time 0, and this last period. -/
def twoPulses (p : Nat) : FrontEnd := { fault := false, count := 0, pulses := 2, lastPulse := some 0, pLast := some p }

/-- R48, its table. -/
theorem test_flow :
    flow 50 (twoPulses 1500) 400 = 20 ∧ flow 50 (twoPulses 1500) 4000 = 7 ∧ flow 50 (twoPulses 260) 150 = 115 ∧
    flow 50 { twoPulses 1500 with pulses := 1, pLast := none } 900 = 0 ∧ flow 50 (twoPulses 1500) 600000 = 0 ∧
    flow 200 (twoPulses 45000) 12000 = 2 := by decide

/-- R49, R50, R51 and R52, their tables. -/
theorem test_heads_and_take :
    groutHead 1650 437 = 707 ∧ groutHead 1800 437 = 771 ∧ groutHead 2200 1999 = 4314 ∧ waterHead 317 = 310 ∧
    waterHead 1999 = 1961 ∧ effective 900 707 310 = 1297 ∧ takeOf 186400 50 = 372 ∧ takeOf 13150 50 = 26 ∧
    takeOf 99 10 = 0 := by decide

/-- R86, its table; R141, its table. -/
theorem test_ramp_and_reading :
    rampStep 5 100 = 1 ∧ rampStep 75 200 = 15 ∧ readingOf 5000 33505 = 112 ∧ readingOf 5000 32000 = -117 ∧
    readingOf 10000 1 = -9999 ∧ readingOf 10000 65534 = 9999 := by decide

/-! ### States for the witnesses -/

/-- A limit set's fields. -/
def limits : Limits :=
  { pmax := 2000, gin := 500, tmax := 800, overshoot := 50, reliefLimit := 1, ramp := 100, refFlow := 10, refBand := 20,
    refTime := 60, breakDrop := 100 }

/-- Mix 1 up to 30.0 L/m, then mix 2. -/
def ladder : List LadderStep := [{ mix := 1, advance := some 300 }, { mix := 2, advance := none }]

/-- Hole 1. -/
def hole : Hole :=
  { sec := 1, order := 1, collar := 0, neighbours := [2], dfltSet := some 1, zones := 1, groundwater := some 100
    locked := false }

/-- A PLANNED stage. -/
def stage : Stage :=
  { top := 100, bottom := 150, length := 50, limitSet := none, status := .planned, prior := none, pass := 1, passVol := 0
    cumVol := 0, outcome := none, image := none }

/-- The context of stage 1 of hole 1. -/
def ctx : Context :=
  { hole := 1, stage := 1, pass := 1, setNo := 1, limits := limits, bandCap := none, ladder := ladder, step := 1, tank := 0
    pendingReq := none, starve := none, zones := 1, midDepth := 125, waterDepth := 25, length := 50, vol := 0, take := 0
    lastPg := 0, lastPe := 10, lastQ := 0, lastCap := 2000, lastPtgt := 0, pRamp := 0, u := 0, ePrev := 0, first := false
    refusalTimer := 0, reliefCount := 0, maxPe := 0, hold := HoldSet.none, startUptime := some 0 }

/-- A planned part with every line IDLE, still sending its first report. -/
def demo : State :=
  { State.reset with
    store := { State.reset.store with
      secs := [(1, { locked := false }), (2, { locked := true })]
      holes := [(1, hole), (2, { hole with neighbours := [] }), (3, { hole with sec := 2, locked := true })]
      stages := [(stageKey 1 1, stage), (stageKey 1 2, { stage with top := 150, bottom := 200, status := .complete }),
        (stageKey 2 1, { stage with status := .opened })]
      sets := [(1, { limits := limits, ladder := ladder, used := false })]
      bands := [(1, { upper := 0, lower := -200, mask := 1, cap := 1500 })]
      mixes := [(1, { ratio := 100, density := 1500 }), (2, { ratio := 80, density := 1600 })] } }

/-- What a line holds in this state, its context changed by `f`. -/
def holding (p : Phase) (f : Context → Context := id) : Live := { phase := p, ctx := f ctx, latch := none }

/-- `demo` with L1 holding this. -/
def onL1 (v : Live) : State := demo.setLive 0 v

/-- `demo` with this store. -/
def stored (f : Store → Store) : State := demo.modStore f

/-- The next state of a command. -/
def after (c : Instr) (s : State) : State := match exec c s with | .next t => t | _ => s

/-- A state that listens and has room for 7 reports. -/
def ready (s : State) : Bool :=
  !s.supply.failed && decide (s.link.state = .ok) && decide (s.link.answers.length < Config.maxAnswers)
    && decide (s.link.reports.length + 7 ≤ Config.maxReports)

/-- `ready` is what the statements ask: the part listens, with room for up to 7 reports. -/
theorem ready_meets_the_hypotheses (s : State) (h : ready s = true) (n : Nat) (hn : n ≤ 7) : s.Listening ∧ s.roomFor n := by
  simp [ready] at h
  exact ⟨⟨h.1.1.1, h.1.1.2, h.1.2⟩, Nat.le_trans (Nat.add_le_add_left hn _) h.2⟩

/-! ### Worked figures on these states -/

/-- Section 5.9, samples S1, S2, S3 and S5, with Kp 64 and Ki 128. -/
theorem test_regulation :
    ({ ctx with lastPtgt := 650, first := true }.regulate 64 128 610).u = 20 ∧
    ({ ctx with lastPtgt := 700, u := 20, ePrev := 40 }.regulate 64 128 630).u = 115 ∧
    ({ ctx with lastPtgt := 750, u := 115, ePrev := 70 }.regulate 64 128 690).u = 125 ∧
    ({ ctx with lastPtgt := 850, u := 105, ePrev := 40 }.regulate 64 128 815).u = 112 := by decide

/-- R92, its table: last p_e 1400, break drop 250. -/
theorem test_pressure_break :
    let c := { ctx with lastPe := 1400, limits := { limits with breakDrop := 250 } }
    let m := fun q pe => ({ reading := { pg := 0, fault := false, dv := 0, q := q }, pe := pe, cap := 2000, pint := none
                            first := false, interval := 200 } : Sampled)
    pressureBreak { c with lastQ := 30 } (m 45 1120) = true ∧ pressureBreak { c with lastQ := 30 } (m 30 1120) = true ∧
    pressureBreak { c with lastQ := 30 } (m 20 1120) = false ∧ pressureBreak { c with lastQ := 30 } (m 45 1160) = false := by
  decide

/-- Section 2.4, worked figures: the four bands, and a base of 2450 derated to 65 % and then to 33 %. -/
theorem test_band_cap_and_cap :
    bandCapOver
      [(1, { upper := 3100, lower := 3000, mask := 3, cap := 2400 }), (2, { upper := 2988, lower := 2800, mask := 2, cap := 2000 }),
       (3, { upper := 2950, lower := 2500, mask := 2, cap := 1500 }), (4, { upper := 3200, lower := 2900, mask := 16, cap := 1200 })]
      2 2988 3038 = some 2000 ∧
    State.cap
      { (demo.setWarned 0 true).setZoneCfg 0 { warn := 200, trip := 500, derate := 65, routing := .stop } with
        link := { demo.link with safeLatch := true }
        store := { (demo.setZoneCfg 0 { warn := 200, trip := 500, derate := 65, routing := .stop }).store with
          linkCfg := { t1 := 30, t2 := 60, safe := 33 } } }
      { ctx with limits := { limits with pmax := 2450 } } = 525 := by decide

theorem demo_listens : demo.Listening ∧ demo.roomFor 7 := ready_meets_the_hypotheses demo (by decide) 7 (by decide)

/-! ### Witnesses: steps, supply, requests and frames -/

/-- A hand-off waits; T1 is due at 0 ms left and not at 1; nothing is due; the supply is FAILED. A tick counts T1 down. -/
theorem witness_StepTakesTheFrontCommand :
    (demo.pending = [] ∧ demo.supply.failed = false ∧ demo.handoffs = [] ∧ demo.dueExpiry = none) ∧
    { demo with handoffs := [.headExamination 0] }.handoffs = [.headExamination 0] ∧
    { demo with link := { demo.link with t1 := some 0 } }.dueExpiry = some .t1Expiry ∧
    { demo with link := { demo.link with t1 := some 1 } }.dueExpiry = none ∧
    (match step { demo with link := { demo.link with t1 := some 1 } } with | .next t => t.link.t1 | _ => none) = some 0 ∧
    { demo with supply := { demo.supply with failed := true } }.supply.failed = true := by decide

/-- A running image. -/
def image : RunningImage :=
  { snap := { uptime := 5, phase := .inject, pg := 1, pe := 2, q := 3, vol := 4, take := 5, ptgt := 6, cap := 7, u := 8 }
    maxPe := 9, reliefCount := 1, step := 2, elapsed := 10, refusalTimer := 400 }

/-- A stage of each kind that power-on tells apart. -/
def mixedStages : Table Stage :=
  [(33, stage), (34, { stage with status := .bound, prior := some { status := .opened, redo := none } }),
   (35, { stage with status := .bound, prior := some { status := .complete, redo := some (1, 9) } }),
   (36, { stage with status := .active, image := some image }), (37, { stage with status := .active })]

/-- A key of each kind of stage, planned before and after. -/
theorem witness_PowerOnConvertsStages :
    ∀ k ∈ [33, 34, 35, 36, 37], (tfind mixedStages k).isSome = true ∧
      (tfind (after (.powerOn true false false 63)
        (stored (fun p => { p with stages := mixedStages }))).store.stages k).isSome = true := by decide

theorem witness_SupplyFailureLosesAllButTheStore :
    demo.supply.failed = false ∧ { demo with supply := { demo.supply with failed := true } }.supply.failed = true ∧
    ∀ low lost loop keys, Instr.wipe 0 ≠ .powerOn low lost loop keys :=
  ⟨by decide, by decide, fun _ _ _ _ h => by cases h⟩

/-- A part with 8 answers waiting. -/
def full : State :=
  { demo with link := { demo.link with
      answers := List.replicate 8 { kind := 0x81, tag := 0, reply := { result := .ok, body := [] } } } }

theorem witness_RequestAnsweredOnce :
    requestKind (.defsec 7 1) = some 1 ∧ ready demo = true ∧ full.supply.failed = false ∧ full.link.state = .ok ∧
    Config.maxAnswers ≤ full.link.answers.length ∧ ∀ tag, Instr.defsec 7 1 ≠ .clearsafe tag :=
  ⟨by decide, by decide, by decide, by decide, by decide, fun _ h => by cases h⟩

theorem witness_RefusedRequestChangesNothing :
    (handle (.defsec 0 9) demo).2.result = .range ∧ (handle (.defsec 0 0) demo).2.result = .range := by decide

/-- Every field of a DEFHOLE, a DEFLIM and a PAUSE at an end of what it may be. -/
theorem witness_DecodeReadsBackEncode :
    ∀ p ∈ [(Instr.defhole 255 65535 255 255 (-32768) [65535, 0] 255 255 (some 65535) 255, (0x02 : Byte)),
      (.deflim 0 0 0 0 0 0 0 0 0 0 0 0 [(255, 65535), (0, 0), (1, 1), (2, 2)], 0x04), (.pause 1 255 (some 65535) none, 0x1B)],
      requestKind p.1 = some p.2 ∧ p.1.wellFormed = true := by decide

/-- Frames written out by hand from R163 and section 11.4, their checks computed by hand: STATUS with tag 7, DEFSEC of
section 8 with tag 9 (in the order length, kind, tag, body), and PAUSE of L2 for 60 s with tag 5. -/
theorem witness_FrameBytesReachTheRequest :
    encodeFrame (.status 7) = some [0xC3, 0x02, 0x28, 0x07, 0x5D, 0x54] ∧
    encodeFrame (.defsec 9 8) = some [0xC3, 0x03, 0x01, 0x09, 0x08, 0x13, 0xBC] ∧
    encodeFrame (.pause 5 2 (some 60) none) = some [0xC3, 0x07, 0x1B, 0x05, 0x02, 0x01, 0x00, 0x3C, 0x00, 0xBB, 0xBC] ∧
    (Instr.status 7).wellFormed = true ∧ demo.supply.failed = false ∧ demo.link.framer = .hunt ∧ demo.link.gap = none ∧
    demo.link.tx ≠ none := by decide +kernel

/-! ### Witnesses: the plan store -/

/-- L1 holds hole 1. -/
def bound : State := onL1 (holding .bound)

/-- 96 holes, and stages at every place of them. -/
def crowded : State :=
  stored (fun p => { p with
    holes := (List.range 96).map (fun n => (n + 1, { hole with neighbours := [] }))
    stages := (List.range 768).map (fun n => (stageKey (n / 8 + 1) (n % 8 + 1), stage)) })

theorem witness_DefholeWritesTheRecord :
    ready demo = true ∧ ready bound = true ∧ ready crowded = true ∧
    holeInRange 10000 1 1 0 [2] 1 1 none = false ∧ flagOf 1 = some true ∧
    holeInRange 9999 8 4 30000 [] 24 15 (some 2000) = true ∧ tfind demo.store.secs 8 = none ∧
    holeInRange 1 1 4 0 [2] 1 1 (some 100) = true ∧ (tfind demo.store.secs 1).isSome = true ∧
    tfind demo.store.holes 1 = some hole ∧ (bound.boundOn 1).isSome = true ∧ demo.boundOn 1 = none ∧
    demo.hasHistory 1 = true ∧ hole.order ≠ 4 ∧
    tfind crowded.store.holes 97 = none ∧ Config.maxHoles ≤ crowded.store.holes.length ∧
    holeInRange 97 1 1 0 [] 0 0 none = true ∧ (tfind crowded.store.secs 1).isSome = true ∧
    tfind demo.store.holes 9999 = none ∧ demo.store.holes.length < Config.maxHoles ∧
    holeInRange 1 1 1 0 [] 1 0 (some 100) = true := by decide +kernel

/-- Stage 1 of hole 1 is PLANNED over 100..150; over 150..200 stands stage 2, COMPLETE. Hole 9999 is not planned; hole 1 is
bound on L1; stage 1 rewritten to 100..151 meets stage 2. -/
theorem witness_DefstageWritesFixedFields :
    ready demo = true ∧ ready crowded = true ∧ stageInRange 1 25 0 1 10 0 = false ∧
    stageInRange 1 2 150 200 50 0 = true ∧ demo.boundOn 1 = none ∧ (tfind demo.store.holes 1).isSome = true ∧
    demo.stageRec 1 2 = some { stage with top := 150, bottom := 200, status := .complete } ∧
    stageInRange 1 24 199 250 51 24 = true ∧ demo.stageRec 1 24 = none ∧ (1, stage) ∈ demo.stagesOf 1 ∧
    (2, { stage with top := 150, bottom := 200, status := .complete }) ∈ demo.stagesOf 1 ∧
    stageInRange 1 24 200 250 50 24 = true ∧ (∀ p ∈ demo.stagesOf 1, ¬(p.1 ≠ 24 ∧ p.2.top < 250 ∧ 200 < p.2.bottom)) ∧
    demo.store.stages.length < Config.maxStages ∧ demo.stageRec 1 1 = some stage ∧
    (∀ p ∈ demo.stagesOf 1, ¬(p.1 ≠ 1 ∧ p.2.top < 150 ∧ 100 < p.2.bottom)) ∧
    stageInRange 9999 24 0 50 50 24 = true ∧ tfind demo.store.holes 9999 = none ∧
    ready bound = true ∧ (bound.boundOn 1).isSome = true ∧ stageInRange 1 1 100 151 51 0 = true ∧
    stage.status = .planned ∧ (2 ≠ 1 ∧ 150 < 151 ∧ 100 < 200) ∧ crowded.stageRec 96 24 = none ∧ Config.maxStages ≤ crowded.store.stages.length ∧
    (∀ p ∈ crowded.stagesOf 96, ¬(p.1 ≠ 24 ∧ p.2.top < 250 ∧ 200 < p.2.bottom)) ∧ crowded.boundOn 96 = none := by
  decide +kernel

/-- `demo` with set 1 used, and L1 bound on it. -/
def used : State :=
  { bound with store := { bound.store with sets := [(1, { limits := limits, ladder := ladder, used := true })] } }

theorem witness_DeflimPushesLoweredLimits :
    ready demo = true ∧ ready used = true ∧ inRange 1 24 25 = false ∧ inRange 1 24 24 = true ∧ limits.inRange = true ∧
    ladderWellFormed (ladderOf [(1, 300), (2, 0)]) = true ∧ ladderWellFormed (ladderOf [(8, 0)]) = true ∧
    (∀ x ∈ ladderOf [(1, 300), (2, 0)], (tfind demo.store.mixes x.mix).isSome = true) ∧ tfind demo.store.mixes 8 = none ∧
    tfind used.store.sets 1 = some { limits := limits, ladder := ladder, used := true } ∧
    limits.loosens { limits with pmax := 2001 } = true ∧ limits.loosens { limits with pmax := 1999 } = false ∧
    ({ limits with pmax := 1999 } : Limits).inRange = true ∧
    (tfind demo.store.sets 1).all (fun o => !o.used) = true ∧ (tfind demo.store.sets 24).all (fun o => !o.used) = true := by
  decide

theorem witness_DefbandPushesLoweredCaps :
    ready bound = true ∧ bandInRange 5 1 0 1 100 = false ∧ bandInRange 4 30000 (-30000) 255 8000 = true ∧
    bandInRange 1 1 0 0 100 = true := by decide

theorem witness_DefsecAndDefmixWriteTheRecord :
    ready demo = true ∧ ready bound = true ∧ inRange 1 8 9 = false ∧ inRange 1 8 8 = true ∧
    (tfind demo.store.secs 1).isSome = true ∧ tfind demo.store.secs 8 = none ∧
    inRange 40 500 500 = true ∧ inRange 1100 2200 2200 = true ∧ inRange 40 500 39 = false ∧
    (tfind bound.store.mixes 1).isSome = true ∧ bound.ctx 0 = some ctx ∧ ctx.mix = 1 ∧
    tfind demo.store.mixes 8 = none ∧ (∀ t : TankId, (demo.tank t).mix ≠ some 2) ∧ ∀ l, demo.ctx l = none := by decide

theorem witness_LockAndUnlockWriteTheFlag :
    ready demo = true ∧ inRange 1 8 0 = false ∧ inRange 1 8 8 = true ∧ tfind demo.store.secs 8 = none ∧
    (tfind demo.store.secs 2).isSome = true ∧ inRange 1 9999 10000 = false ∧ inRange 1 9999 9999 = true ∧
    tfind demo.store.holes 9999 = none ∧ tfind demo.store.holes 1 = some hole ∧ (3 : Nat) ≠ 1 ∧ (3 : Nat) ≠ 2 := by decide

/-- Section 2 holds hole 3, without history, and section 1 holes with history. -/
theorem witness_PurgeRemovesUnusedHoles :
    ready demo = true ∧ inRange 1 8 0 = false ∧ inRange 1 8 8 = true ∧ tfind demo.store.secs 8 = none ∧
    (tfind demo.store.secs 1).isSome = true ∧ (tfind demo.store.secs 2).isSome = true ∧
    tsorted demo.store.holes = true ∧ tsorted demo.store.stages = true ∧ demo.hasHistory 3 = false ∧
    demo.hasHistory 1 = true := by decide

theorem witness_WipeEmptiesThePlan :
    ready bound = true ∧ bound.live 0 = some (holding .bound) ∧ ready demo = true ∧ (∀ l, demo.live l = none) ∧
    (∀ g, (demo.gauge g).fault = false) ∧ (∀ z, demo.zoneState z ≠ .warn) ∧
    ∀ k : TankId, judgeTank (demo.tank k).mix (demo.tank k).contents 100000 = demo.tankState k := by decide

theorem witness_QueriesReadAndChangeNothing :
    ready demo = true ∧ (inRange 1 9999 10000 && inRange 1 24 24) = false ∧ inRange 1 9999 9999 = true ∧
    inRange 1 24 24 = true ∧ demo.stageRec 9999 24 = none ∧ demo.stageRec 1 1 = some stage ∧ inRange 1 9999 0 = false ∧
    tfind demo.store.holes 9999 = none ∧ tfind demo.store.sets 24 = none ∧ tfind demo.store.bands 4 = none ∧
    tfind demo.store.mixes 8 = none ∧ tfind demo.store.holes 1 = some hole ∧
    tfind demo.store.sets 1 = some { limits := limits, ladder := ladder, used := false } ∧
    tfind demo.store.bands 1 = some { upper := 0, lower := -200, mask := 1, cap := 1500 } ∧
    tfind demo.store.mixes 1 = some { ratio := 100, density := 1500 } ∧ inRange 1 16 17 = false ∧ inRange 1 4 5 = false ∧
    (bound.ctx 0).all (fun c => decide (c.ladder.length ≤ 4)) = true := by decide

/-! ### Witnesses: resolution and BIND -/

/-- The resolution of stage 1 of hole 1 on L1. -/
def resolved : Resolution :=
  { setNo := 1, limits := limits, ladder := ladder, bandCap := some 1500, zones := 1, tank := 0, pass := 1, midDepth := 125
    waterDepth := 25, length := 50, vol := 0, take := 0, step := 1 }

theorem witness_BindCreatesTheContext :
    ready demo = true ∧ admission demo 7 1 1 false = .error { result := .range, value := 0, qualifier := 0 } ∧
    admission demo 1 1 1 false = .ok (0, resolved) := ⟨by decide, rfl, rfl⟩

/-- Zone 1 in TRIP with its default routing STOP. -/
def tripped : State := demo.setLatch 0 true

/-- `demo` with this record of hole 1. -/
def withHole (h : Hole) : State := stored (fun p => { p with holes := tput p.holes 1 h })

/-- For each check a state in which it fails: its own condition, where the conditions of the checks before it hold. -/
theorem witness_AdmissionChecksInOrder :
    bound.live 0 = some (holding .bound) ∧ demo.live 5 = none ∧ tfind demo.store.holes 9999 = none ∧
    tfind demo.store.holes 1 = some hole ∧ demo.stageRec 1 24 = none ∧ demo.stageRec 1 1 = some stage ∧
    (withHole { hole with sec := 2 }).store.secs = [(1, { locked := false }), (2, { locked := true })] ∧
    tfind (withHole { hole with locked := true }).store.holes 1 = some { hole with locked := true } ∧
    demo.stageRec 1 2 = some { stage with top := 150, bottom := 200, status := .complete } ∧
    resolve demo 0 { hole with dfltSet := none } stage false = none ∧ resolve demo 0 hole stage false = some resolved ∧
    (demo.setLive 1 (holding .bound)).ctx 1 = some ctx ∧ (demo.setLive 1 (holding .bound)).live 0 = none ∧
    (demo.setLive 1 (holding .bound (fun c => { c with hole := 2 }))).ctx 1 = some { ctx with hole := 2 } ∧
    (demo.setLive 1 (holding .bound (fun c => { c with hole := 2 }))).neighbours 1 2 = true ∧
    (withHole { hole with order := 2 }).neighbours 1 2 = true ∧ (withHole { hole with order := 2 }).holeClosed 2 = false ∧
    tripped.latched 0 = true ∧ (tripped.zoneCfg 0).routing = .stop ∧ hasZone hole.zones 0 = true ∧
    (∀ z, ¬(hasZone hole.zones z = true ∧ demo.latched z = true)) := by decide

/-- Hole 1 in order 3, its neighbours 3 and 2 of order 1 open: ORDER names hole 2 (R30). -/
def behind : State :=
  stored (fun p => { p with holes := [(1, { hole with order := 3, neighbours := [3, 2] }), (2, hole), (3, hole)] })

theorem demo_canonical : demo.store.canonical where
  secs := by unfold keysIn; decide
  holes := by unfold keysIn; decide
  stages := by decide
  sets := by unfold keysIn; decide
  bands := by unfold keysIn; decide
  mixes := by unfold keysIn; decide

theorem witness_AdmissionChecksInOrder_lowest :
    behind.store.canonical ∧ behind.live 0 = none ∧ (∀ l, behind.ctx l = none) ∧
    resolve behind 0 { hole with order := 3, neighbours := [3, 2] } stage false ≠ none ∧
    (∀ y ∈ [2, 3], behind.neighbours 1 y = true ∧ tfind behind.store.holes y = some hole ∧ behind.holeClosed y = false) ∧
    (match admission behind 1 1 1 false with | .error d => d.value | .ok _ => 0) = 2 :=
  ⟨{ demo_canonical with holes := by unfold keysIn; decide }, by decide, by decide, by decide, by decide, by decide⟩

theorem witness_ResolutionFindsPlanValues :
    resolve demo 0 hole stage false = some resolved ∧
    resolve demo 0 { hole with groundwater := none } { stage with limitSet := some 1, passVol := 150000 } true ≠ none ∧
    stepAdvance ladder 1 = some 300 ∧ tfind demo.store.sets 1 = some { limits := limits, ladder := ladder, used := false } := by
  decide

/-- Two zones in WARN, the safe latch set and clear, and a context of both zones. -/
theorem witness_CapStagesOnlyLower :
    (∀ z, hasZone ctx.zones z = true → demo.zoneState z ≠ .warn) ∧ (demo.setWarned 0 true).zoneState 0 = .warn ∧
    hasZone ctx.zones 0 = true ∧ (∀ y, hasZone ctx.zones y = true → y = 0) ∧ demo.link.safeLatch = false ∧
    { demo with link := { demo.link with safeLatch := true } }.link.safeLatch = true := by decide

/-- The configuration at its defaults is valid. -/
theorem demo_configValid : demo.store.configValid where
  lines := by unfold LineCfg.valid; decide
  tanks := by decide
  gauges := by decide
  zones := by unfold ZoneCfg.valid; decide
  link := by decide

/-! ### Witnesses: requests of a line -/

theorem witness_LinecfgStoresTheNearestValues :
    ready demo = true ∧ ready bound = true ∧ ¬(1 ≤ 0 ∧ 0 ≤ 6) ∧ ¬(1 ≤ 3 ∧ 3 ≤ 2) ∧ bound.live 0 = some (holding .bound) ∧
    demo.live 5 = none ∧ 6 = (5 : LineId).val + 1 ∧ 2 = (1 : TankId).val + 1 := by decide

/-- `demo` with tank A holding `contents` mL of mix `m`. -/
def filled (m contents : Nat) : State :=
  demo.setTank 0 { demo.tank 0 with mix := some m, contents := contents, delivered := contents }

/-- START: LOCAL, STATE, ESTOP, HEAVE, SENSOR, and accepted. -/
theorem witness_StartEntersInjectOrStarved :
    ready bound = true ∧ (onL1 (holding .localPanel)).live 0 = some (holding .localPanel) ∧
    (onL1 (holding .inject)).live 0 = some (holding .inject) ∧ bound.live 0 = some (holding .bound) ∧
    (bound.line 0).key = false ∧ bound.supply.loopOpen = false ∧ (bound.line 0).fe.fault = false ∧
    { bound with supply := { bound.supply with loopOpen := true } }.supply.loopOpen = true ∧
    (bound.setLatch 0 true).latched 0 = true ∧ ((bound.setLatch 0 true).zoneCfg 0).routing ≠ .report ∧
    (bound.setLine 0 { bound.line 0 with fe := { (bound.line 0).fe with fault := true } }).supply.loopOpen = false ∧
    ∀ z, ¬(hasZone ctx.zones z = true ∧ (bound.latched z = true ∨ bound.zoneFault z = true)) := by decide

/-- START in BOUND and in ENDED with the key asserted: both are answered LOCAL (log entry 36). -/
theorem witness_StartEntersInjectOrStarved_keyed :
    ∀ p ∈ [Phase.bound, .ended],
      let s := onL1 (holding p)
      let k := s.setLine 0 { s.line 0 with key := true }
      ready k = true ∧ k.live 0 = some (holding p) ∧ (k.line 0).key = true ∧
      (handle (.start 0 1) k).2.result = .localKey := by decide

/-- A context held by SITE, and one held by SITE and BREAK. -/
def siteHeld : Live :=
  holding .hold (fun c => { c with hold := { HoldSet.none with site := some { timer := some 1, decay := some 10 } } })
def siteBreak : Live := { siteHeld with ctx := { siteHeld.ctx with hold := { siteHeld.ctx.hold with brk := true } } }

/-- PAUSE with the last p_e of 10: a threshold of 10 is not met, and one of 11 is. -/
theorem witness_PauseHoldsWithSite :
    ready (onL1 siteHeld) = true ∧ (onL1 siteHeld).live 0 = some siteHeld ∧ (onL1 siteBreak).live 0 = some siteBreak ∧
    (onL1 (holding .inject)).live 0 = some (holding .inject) ∧
    (some 3600).all (inRange 1 3600) = true ∧ (some 20000).all (inRange 1 20000) = true ∧
    (some 10).all (inRange 1 20000) = true ∧ (some 11).all (inRange 1 20000) = true ∧
    ¬ctx.lastPe < 10 ∧ ctx.lastPe < 11 ∧
    ({ siteHeld.ctx.hold with site := none } : HoldSet).isEmpty = true ∧ HoldSet.none.isEmpty = true ∧
    ({ siteBreak.ctx.hold with site := none } : HoldSet).isEmpty = false := by decide

/-- Contexts held by HEAVE for a zone, SENSOR, GAUGE alone, and GAUGE with SITE. -/
def heaveHeld : Live := holding .hold (fun c => { c with hold := { HoldSet.none with heave := some 1 } })
def sensorHeld : Live := holding .hold (fun c => { c with hold := { HoldSet.none with sensor := true } })
def gaugeHeld : Live := holding .hold (fun c => { c with hold := { HoldSet.none with gauge := true } })
def gaugeSite : Live := { siteHeld with ctx := { siteHeld.ctx with hold := { siteHeld.ctx.hold with gauge := true } } }

theorem witness_ResumeReleasesAllButGauge :
    ready (onL1 heaveHeld) = true ∧ (onL1 heaveHeld).live 0 = some heaveHeld ∧
    (onL1 (holding .localPanel)).live 0 = some (holding .localPanel) ∧
    ((onL1 heaveHeld).setLatch 0 true).latched 0 = true ∧ heaveHeld.ctx.hold.heave = some 1 ∧ hasZone 1 0 = true ∧
    sensorHeld.ctx.hold.heave = none ∧ sensorHeld.ctx.hold.sensor = true ∧
    gaugeSite.ctx.hold.gauge = true ∧ gaugeSite.ctx.hold.holds .site = true ∧ gaugeSite.ctx.hold.heave = none ∧
    (∀ x, x ≠ Cause.gauge → gaugeHeld.ctx.hold.holds x = false) ∧
    siteHeld.ctx.hold.gauge = false ∧ siteHeld.ctx.hold.isEmpty = false ∧ siteHeld.ctx.hold.sensor = false :=
  ⟨by decide, by decide, by decide, by decide, by decide, by decide, by decide, by decide, by decide, by decide, by decide,
    by intro x; cases x <;> simp [gaugeHeld, holding, HoldSet.none, HoldSet.holds], by decide, by decide, by decide⟩

/-- A started line whose request stands at the head of its tank's queue. -/
theorem witness_AbortDrainsAStartedLine :
    ready (onL1 (holding .drain)) = true ∧ (onL1 (holding .drain)).live 0 = some (holding .drain) ∧
    (∀ p ∈ [Phase.inject, .relief, .hold, .starved, .localPanel], p.started = true) ∧
    (onL1 (holding .starved (fun c => { c with pendingReq := some 1 }))).live 0 =
      some (holding .starved (fun c => { c with pendingReq := some 1 })) := by decide

/-- Two notices wait at L1, the first clearing its request, which the tank has reported: the entry to DRAIN clears it in the same
event (R129), and reports no second end of it (log entry 26). -/
theorem test_abort_clears_a_request_under_a_notice :
    let n : Notice := { step := some 2, pend := some none, mismatch := none, reported := true }
    let s := onL1 (holding .starved (fun c => { c with pendingReq := some 1 }))
    let s := s.setLine 0 { s.line 0 with notices := [n, Notice.plain] }
    ((after (.abort 0 1) s).ctx 0).map (·.pendingReq) = some none ∧
    ((after (.abort 0 1) s).line 0).notices = [{ n with pend := none }, Notice.plain] ∧
    ((after (.abort 0 1) s).link.reports.map Report.kind).contains 0xC7 = false ∧
    ((after (.tankNotice 0) (after (.abort 0 1) s)).line 0).notices = [Notice.plain] := by decide

/-- A request the tank has not taken, under the notice of an adoption that L1 follows: no report has ended it, and the entry to
DRAIN reports it WITHDRAWN (R129, R137). -/
theorem test_abort_withdraws_a_request_on_its_way :
    let s := after (.batch 0 1 2 1) (onL1 (holding .starved (fun c => { c with pendingReq := some 1 })))
    (s.line 0).pending ctx = none ∧
    (after (.abort 0 1) s).link.reports.getLast? =
      some (.mixreq { tank := 0, line := 0, mix := 1, disposition := .withdrawn, position := 0, step := 1 }) := by decide

theorem witness_AbortAndReleaseReturnToIdle :
    ready demo = true ∧ ¬(1 ≤ 0 ∧ 0 ≤ 6) ∧ ¬(1 ≤ 7 ∧ 7 ≤ 6) ∧ (some 3601).all (inRange 1 3600) = false ∧
    demo.live 5 = none ∧ ready bound = true ∧ bound.live 0 = some (holding .bound) ∧ bound.stageRec 1 1 = some stage ∧
    (onL1 (holding .ended)).live 0 = some (holding .ended) ∧ ((onL1 (holding .ended)).line 0).key = false ∧
    ((onL1 (holding .ended)).setLine 0 { (onL1 (holding .ended)).line 0 with key := true }).live 0 = some (holding .ended) ∧
    ({ bound with store := { bound.store with stages := [(33, { stage with prior := some { status := .planned, redo := none } })] } }
      : State).stageRec 1 1 = some { stage with prior := some { status := .planned, redo := none } } := by decide

/-! ### Witnesses: field events of a line -/

theorem witness_HoldTimerReleasesSite :
    demo.supply.failed = false ∧ demo.holdTimer 0 = none ∧ ready (onL1 siteHeld) = true ∧
    (onL1 siteHeld).live 0 = some siteHeld ∧ siteHeld.ctx.hold.site = some { timer := some 1, decay := some 10 } ∧
    ({ siteHeld.ctx.hold with site := none } : HoldSet).isEmpty = true ∧
    ({ siteBreak.ctx.hold with site := none } : HoldSet).isEmpty = false ∧ (onL1 siteBreak).live 0 = some siteBreak := by decide

theorem witness_LocalKeyEntersAndLeavesLocal :
    ready demo = true ∧ demo.live 0 = none ∧ ready bound = true ∧ bound.live 0 = some (holding .bound) ∧
    ∀ p ∈ [Phase.inject, .relief, .hold, .starved, .localPanel],
      ready (onL1 (holding p)) = true ∧ (onL1 (holding p)).live 0 = some (holding p) := by decide

/-- No pulse yet; a pulse in the same ms; a count at its top. -/
theorem witness_PulseIsCountedAndTimed :
    demo.supply.failed = false ∧ (demo.line 0).fe.lastPulse = none ∧
    ((demo.setLine 0 { demo.line 0 with fe := { twoPulses 1 with count := 65535 } }).line 0).fe.lastPulse = some 0 := by decide

theorem witness_OutputsFollowTheState :
    { demo with supply := { demo.supply with failed := true } }.supply.failed = true ∧ demo.supply.failed = false ∧
    demo.live 0 = none ∧
    ∀ p ∈ [Phase.bound, .inject, .relief, .hold, .starved, .localPanel, .drain, .ended],
      (onL1 (holding p)).live 0 = some (holding p) := by decide

/-! ### Witnesses: samples -/

/-- L1 in this state on a context changed by `f`, its front end holding these pulses, at 600000 ms. -/
def sampling (p : Phase) (f : Context → Context) (fe : FrontEnd) : State :=
  let s := onL1 (holding p f)
  { s.setLine 0 { s.line 0 with fe := fe } with supply := { s.supply with now := 600000 } }

/-- The last pulse 600000 ms and 599999 ms ago; one pulse; the loop at both ends of its range and beyond. -/
theorem witness_SampleMeasures :
    (sampling .inject id (twoPulses 1500)).supply.failed = false ∧
    (sampling .inject id (twoPulses 1500)).live 0 = some (holding .inject) ∧
    tfind demo.store.mixes ctx.mix = some { ratio := 100, density := 1500 } ∧
    ((sampling .inject id (twoPulses 1500)).line 0).fe.lastPulse = some 0 ∧ 600000 ≤ 600000 - 0 ∧
    ((sampling .inject id { twoPulses 1500 with lastPulse := some 1 }).line 0).fe.lastPulse = some 1 ∧ 600000 - 1 < 600000 ∧
    ((sampling .drain id { twoPulses 1500 with pulses := 1 }).line 0).fe.pulses < 2 ∧
    loopInRange 3600 = true ∧ loopInRange 21000 = true ∧ loopInRange 3599 = false ∧ loopInRange 21001 = false ∧
    (sampling .inject id { twoPulses 1 with count := 65535 }).stageRec 1 1 = some stage := by decide

theorem witness_DisplaySampleOnlyMeasures :
    demo.supply.failed = false ∧ demo.live 0 = none ∧ bound.live 0 = some (holding .bound) ∧
    (onL1 (holding .ended)).live 0 = some (holding .ended) := by decide

/-- A context that proves refusal, its refusal timer at `n` ms, and an INJECT sample of it at 4000 µA. -/
def refusing (n : Nat) (c : Context) : Context := { c with pRamp := 2000, refusalTimer := n }

/-- With p_g 0 the sample of `ctx` has p_e 159: h_g 183 and h_w 24. The cap is 2000, the ramp 20 after its step. -/
theorem witness_InjectSampleRegulates :
    let s := onL1 (holding .inject)
    s.supply.failed = false ∧ ready s = true ∧ s.live 0 = some (holding .inject) ∧ loopInRange 4000 = true ∧
    s.pe ctx (s.read 0 4000 0).pg = 159 ∧ s.cap ctx = 2000 ∧ (ctx.vol + (s.read 0 4000 0).dv) / (10 * ctx.length) = 0 ∧
    0 < ctx.limits.tmax ∧ 159 * 0 < ctx.limits.gin * 1000 ∧ 200 < ctx.limits.refTime * 1000 ∧
    159 ≤ 2000 + ctx.limits.overshoot ∧ ctx.lastPe < 159 + ctx.limits.breakDrop := by decide

/-- A pressure break: the last p_e is 259 and the sample's 159, with a break drop of 100; and a faulted sample of RELIEF, which
runs on the held p_g of 0. A faulted sample holds the line, and with a trace of 1 its TRACE report is due. -/
theorem witness_InjectSampleRegulates_holds :
    let breaking := fun c : Context => { c with lastPe := 259 }
    let s := onL1 (holding .inject breaking)
    let x := (onL1 (holding .relief)).modStore (fun p => { p with lineCfg := p.lineCfg.set 0 { demo.lineCfg 0 with trace := 1 } })
    ready s = true ∧ s.live 0 = some (holding .inject breaking) ∧ ctx.first = false ∧
    s.pe (breaking ctx) (s.read 0 4000 0).pg + ctx.limits.breakDrop ≤ (breaking ctx).lastPe ∧ ctx.lastQ ≤ (s.read 0 4000 0).q ∧
    (after (.sample 0 4000) s).phase 0 = some .hold ∧ ready x = true ∧ x.live 0 = some (holding .relief) ∧
    loopInRange 3599 = false ∧ (after (.sample 0 3599) x).phase 0 = some .hold ∧
    (after (.sample 0 3599) x).link.reports.length = 2 := by decide

/-- VOLUME at a take of 800; INTENSITY at a take of 799 with p_e at 626 (626 × 799 = 500174); REFUSAL at 60000 ms. -/
theorem witness_SampleEndsThePass :
    (onL1 (holding .localPanel (fun c => { c with vol := 400000 }))).live 0 =
      some (holding .localPanel (fun c => { c with vol := 400000 })) ∧
    ctx.limits.tmax ≤ 400000 / (10 * ctx.length) ∧
    (onL1 (holding .relief (fun c => { c with vol := 399999 }))).live 0 =
      some (holding .relief (fun c => { c with vol := 399999 })) ∧
    399999 / (10 * ctx.length) < ctx.limits.tmax ∧ demo.pe ctx (demo.read 0 4748 0).pg = 626 ∧
    ctx.limits.gin * 1000 ≤ 626 * (399999 / (10 * ctx.length)) ∧
    (onL1 (holding .inject (refusing 59800))).live 0 = some (holding .inject (refusing 59800)) ∧
    demo.pe ctx (demo.read 0 6946 0).pg = 2000 ∧ (demo.read 0 6946 0).q ≤ ctx.limits.refFlow ∧
    ctx.limits.refTime * 1000 ≤ 59800 + (demo.lineCfg 0).interval := by decide

/-- Samples that tests (a) and (b) do not end, at a take of 0: RELIEF at a p_e of 2000, the cap, and at 2001; HOLD with a decay
threshold of 160, above the p_e of 159, and with one of 159, in a set that the release empties and in one that keeps BREAK. -/
theorem witness_SampleEndsThePass_goesOn :
    let held := fun (d : Nat) (brk : Bool) (c : Context) =>
      { c with hold := { HoldSet.none with site := some { timer := none, decay := some d }, brk := brk } }
    (∀ v ∈ [holding .relief, holding .starved, holding .hold (held 159 false), holding .hold (held 160 false),
        holding .hold (held 160 true)], ready (onL1 v) = true ∧ (onL1 v).live 0 = some v ∧ v.phase.started = true) ∧
    demo.pe ctx (demo.read 0 6946 0).pg = demo.cap ctx ∧ demo.cap ctx < demo.pe ctx (demo.read 0 6948 0).pg ∧
    demo.pe ctx (demo.read 0 4000 0).pg = 159 ∧ 159 * 0 < ctx.limits.gin * 1000 ∧ 0 < ctx.limits.tmax ∧
    (after (.sample 0 6946) (onL1 (holding .relief))).phase 0 = some .inject ∧
    (after (.sample 0 6948) (onL1 (holding .relief))).phase 0 = some .relief ∧
    (after (.sample 0 4000) (onL1 (holding .hold (held 159 false)))).phase 0 = some .hold ∧
    (after (.sample 0 4000) (onL1 (holding .hold (held 160 false)))).phase 0 = some .starved ∧
    (after (.sample 0 4000) (onL1 (holding .hold (held 160 true)))).phase 0 = some .hold := by decide

/-- A take of 800 in STARVED with the head request of tank A: the entry to DRAIN withdraws it, hands over one examination, and
queues a LINE and a MIXREQ report (R84, R129). -/
theorem witness_SampleEndsThePass_withdraws :
    let v := holding .starved (fun c => { c with vol := 400000, pendingReq := some 1 })
    let s := (onL1 v).setTank 0 { demo.tank 0 with queue := [(0, 1), (1, 2)] }
    s.live 0 = some v ∧ v.phase.started = true ∧ ready s = true ∧
    ((after (.sample 0 4000) s).tank 0).queue = [(1, 2)] ∧
    (after (.sample 0 4000) s).handoffs = [.headExamination 0] ∧
    (after (.sample 0 4000) s).link.reports.length = 2 := by decide

/-- The cap is 2000 and the overshoot 50: p_e is 2051 at a p_g of 1892. The first relief is within the limit of 1, the
second beyond it. -/
theorem witness_OverLimitRelievesOrEndsUnstable :
    (onL1 (holding .inject)).live 0 = some (holding .inject) ∧ loopInRange 7028 = true ∧
    demo.pe ctx (demo.read 0 7028 0).pg = 2051 ∧ demo.cap ctx + ctx.limits.overshoot < 2051 ∧
    ctx.refusalTimer + 200 < ctx.limits.refTime * 1000 ∧ ctx.reliefCount + 1 ≤ ctx.limits.reliefLimit ∧
    (onL1 (holding .inject (fun c => { c with reliefCount := 1 }))).live 0 =
      some (holding .inject (fun c => { c with reliefCount := 1 })) ∧ ctx.limits.reliefLimit < 1 + 1 := by decide

/-- The second relief, with the head request of tank A pending: the tank is told of the line that left INJECT and of its new
head, and a MIXREQ report is queued (R65, R129). -/
theorem witness_OverLimitRelievesOrEndsUnstable_withdraws :
    let v := holding .inject (fun c => { c with reliefCount := 1, pendingReq := some 1 })
    let s := (onL1 v).setTank 0 { demo.tank 0 with queue := [(0, 1)] }
    s.live 0 = some v ∧ ready s = true ∧ ((after (.sample 0 7028) s).tank 0).queue = [] ∧
    (after (.sample 0 7028) s).handoffs = [.headExamination 0, .headExamination 0] ∧
    (after (.sample 0 7028) s).link.reports.length = 1 := by decide

/-- p_e at the cap clears the flag, above it keeps it, beyond the overshoot sets it; a fault sets it. -/
theorem witness_LocalSampleTestsThePermit :
    (onL1 (holding .localPanel)).live 0 = some (holding .localPanel) ∧ 0 / (10 * ctx.length) < ctx.limits.tmax ∧
    demo.pe ctx (demo.read 0 6946 0).pg = 2000 ∧ demo.pe ctx (demo.read 0 6948 0).pg = 2001 ∧
    demo.pe ctx (demo.read 0 7028 0).pg = 2051 ∧ loopInRange 3599 = false ∧ demo.supply.loopOpen = false ∧
    ready (onL1 (holding .localPanel)) = true := by decide

/-- L1 in DRAIN with this drain time. -/
def draining (n : Nat) : Live :=
  { phase := .drain, ctx := ctx
    latch := some
      { outcome := .refusal, finalTake := 1, finalPe := 2, finalProduct := 2, maxPe := 3, finalStep := 1, reliefCount := 0
        snapshot := none, drainTime := n } }

/-- The drain ends by pressure at 50 kPa, not at 51, and by time at 120000 ms. -/
theorem witness_DrainEndsByPressureOrTime :
    ready (onL1 (draining 119800)) = true ∧ (onL1 (draining 119800)).live 0 = some (draining 119800) ∧
    (draining 119800).latch.isSome = true ∧ (onL1 (draining 119800)).stageRec 1 1 = some stage ∧
    (demo.read 0 4080 0).pg = 50 ∧ (demo.read 0 4082 0).pg = 51 ∧
    120000 ≤ 119800 + (demo.lineCfg 0).interval ∧ 119600 + (demo.lineCfg 0).interval < 120000 := by decide

/-! ### Witnesses: tanks -/

theorem witness_TankcfgStoresTheReserve :
    ready bound = true ∧ ¬(1 ≤ 3 ∧ 3 ≤ 2) ∧ max 20000 (min 100000 500000) = bound.reserve 0 ∧
    max 20000 (min 19999 500000) ≠ bound.reserve 0 := by decide

/-- A draw from an empty tank, and one of as much as the tank holds. -/
theorem witness_DrawIsDebitedInFull :
    ready demo = true ∧ min 5 (demo.tank 0).contents = 0 ∧ ready (filled 1 5) = true ∧
    min 5 ((filled 1 5).tank 0).contents ≠ 0 := by decide

/-- UNSET, the mix held, another mix held, and a mix that is not planned. -/
theorem witness_BatchFillsTheTank :
    ready demo = true ∧ ready (filled 1 1499000) = true ∧ ¬(1 ≤ 0 ∧ 0 ≤ 2) ∧ inRange 1 1500 1501 = false ∧
    inRange 1 8 1 = true ∧ inRange 1 1500 1500 = true ∧ (tfind demo.store.mixes 1).isSome = true ∧
    tfind demo.store.mixes 8 = none ∧ (demo.tank 0).mix = none ∧ (demo.tank 0).queue = [] ∧
    ((filled 1 1499000).tank 0).mix = some 1 ∧ ((filled 1 1499000).tank 0).queue = [] ∧
    ((filled 2 5).tank 0).mix = some 2 ∧ ((after (.batch 0 1 1 2) (filled 1 1499000)).tank 0).contents = 1500000 ∧
    ((after (.batch 0 1 1 2) (filled 1 1499000)).tank 0).waste = 1000 := by decide

/-- A head that waits for mix 2 on a tank of mix 1: L1, which follows it, and then L2, which is proving refusal. -/
def waiting (refusal : Nat) : State :=
  (((filled 1 5).setLive 0 (holding .starved (fun c => { c with pendingReq := some 2 }))).setLive 1
    (holding .inject (refusing refusal))).setTank 0 { (filled 1 5).tank 0 with queue := [(0, 2)], changeMade := true }

/-- BATCH grants the head that waits, once a batch is delivered; and leaves it while L2 is proving refusal. -/
theorem witness_BatchFillsTheTank_grants :
    ready (waiting 0) = true ∧ ((waiting 0).tank 0).queue = (0, 2) :: [] ∧ ((waiting 0).tank 0).mix = some 1 ∧
    (∀ l, l ≠ 0 → ((waiting 0).ctx l).all (fun c => decide (c.refusalTimer = 0)) = true) ∧
    ((waiting 0).leftIn 0 2 []) = [] ∧ (waiting 0).follows 0 2 0 = true ∧
    ((after (.batch 0 1 1 2) (waiting 0)).tank 0).mix = some 2 ∧ ((after (.batch 0 1 1 2) (waiting 0)).tank 0).queue = [] ∧
    ((after (.batch 0 1 1 2) (waiting 0)).tank 0).waste = 2005 ∧
    (waiting 1).ctx 1 = some (refusing 1 ctx) ∧ ((after (.batch 0 1 1 2) (waiting 1)).tank 0).queue = [(0, 2)] := by decide

/-- EMPTY adopts the mix of the head that waits, in the same event. -/
theorem witness_EmptyDumpsTheTank_adopts :
    ready (waiting 0) = true ∧ ((waiting 0).leftIn 0 2 []).head? = none ∧
    ((after (.empty 0 1) (waiting 0)).tank 0).mix = some 2 ∧ ((after (.empty 0 1) (waiting 0)).tank 0).contents = 0 ∧
    (after (.empty 0 1) (waiting 0)).link.reports.length = 3 := by decide

theorem witness_EmptyDumpsTheTank :
    ready demo = true ∧ (demo.tank 0).queue = [] ∧ (demo.tank 0).mix = none ∧ (demo.tank 0).contents = 0 ∧
    ready (filled 1 1) = true ∧ ((filled 1 1).tank 0).queue = [] ∧ ((filled 1 1).tank 0).mix ≠ none := by decide

/-- L1 STARVED with its request for mix 1 pending, tank A holding mix `m`, with this queue and these flags. -/
def asking (m : Nat) (queue : List (LineId × Nat)) (since change : Bool) : State :=
  (filled m 5).setLive 0 (holding .starved (fun c => { c with pendingReq := some 1 })) |>.setTank 0
    { (filled m 5).tank 0 with queue := queue, batchSince := since, changeMade := change }

theorem witness_MixRequestJoinsTheQueue :
    ready demo = true ∧ demo.live 0 = none ∧ ready (asking 1 [] false false) = true ∧
    (asking 2 [] false true).live 0 = some (holding .starved (fun c => { c with pendingReq := some 1 })) ∧
    ((asking 1 [] false false).line 0).notices = [] ∧ ((asking 1 [] false false).tank 0).mix = some 1 ∧
    laterStep ladder 1 1 = some 1 ∧ ((asking 2 [(3, 1), (0, 2)] true false).tank 0).mix ≠ some 1 ∧
    ((asking 2 [(3, 1), (0, 2)] true false).tank 0).queue.findIdx (fun q => q.1 == 0) = 1 ∧
    (∀ q ∈ ((asking 2 [(3, 1)] true false).tank 0).queue, q.1 ≠ 0) ∧ ((asking 2 [(3, 1)] true false).tank 0).queue ≠ [] ∧
    ((asking 2 [] false true).tank 0).queue = [] ∧ ((asking 2 [] false true).tank 0).batchSince = false ∧
    ((asking 2 [] false true).tank 0).changeMade = true ∧
    ((asking 2 [] true false).setLive 1 (holding .inject (refusing 1))).ctx 1 = some (refusing 1 ctx) := by decide

/-- A request that becomes the head is granted at once: by adoption on an UNSET tank, and by changeover on another mix. -/
theorem witness_MixRequestJoinsTheQueue_grants :
    let unset := demo.setLive 0 (holding .starved (fun c => { c with pendingReq := some 1 }))
    ready unset = true ∧ (unset.tank 0).mix = none ∧ (unset.tank 0).queue = [] ∧ (unset.line 0).pending ctx = none ∧
    (unset.line 0).pending { ctx with pendingReq := some 1 } = some 1 ∧
    ((after (.mixRequest 0 0 1) unset).tank 0).mix = some 1 ∧ ready (asking 2 [] true false) = true ∧
    ((asking 2 [] true false).tank 0).queue = [] ∧ (∀ x, x ≠ 0 → (asking 2 [] true false).ctx x = none) ∧
    ((after (.mixRequest 0 0 1) (asking 2 [] true false)).tank 0).mix = some 1 ∧
    ((after (.mixRequest 0 0 1) (asking 2 [] true false)).tank 0).waste = 5 := by decide

/-- L1 asks for mix 2, which its tank holds, with L2 bound to the same tank. -/
def askingHeld : State :=
  ((filled 2 5).setLive 0 (holding .starved (fun c => { c with pendingReq := some 2 }))).setLive 1 (holding .bound)

theorem test_a_moved_step_notifies_every_bound_line :
    ready askingHeld = true ∧ (askingHeld.line 0).notices = [] ∧ laterStep ladder 1 2 = some 2 ∧
    (after (.mixRequest 0 0 2) askingHeld).handoffs = [.tankNotice 0, .tankNotice 1] ∧
    ((after (.mixRequest 0 0 2) askingHeld).line 0).notices = [{ step := some 2, pend := some none, mismatch := none, reported := true }] ∧
    ((after (.mixRequest 0 0 2) askingHeld).line 1).notices = [Notice.plain] := by decide

theorem witness_AdoptSetsTheMix :
    ready demo = true ∧ (demo.tank 0).mix = none ∧ ready (filled 1 5) = true ∧ ((filled 1 5).tank 0).mix = some 1 ∧
    (filled 1 5).live 0 = none ∧ ((filled 1 5).setLive 0 (holding .starved)).live 0 = some (holding .starved) ∧
    ctx.mix = 1 ∧ (((filled 1 5).setLive 0 (holding .starved)).line 0).notices = [] ∧
    ((asking 2 [(3, 1)] true false).setLive 0 (holding .starved)).live 0 = some (holding .starved) ∧
    ctx.pendingReq = none ∧ ((asking 2 [(3, 1)] true false).tank 0).queue ≠ [] ∧
    (∀ q ∈ ((asking 2 [(3, 1)] true false).tank 0).queue, q.1 ≠ 0) := by decide

/-- An ADOPT that meets a tank of mix 2, with no request pending: L1 becomes the head and is granted its mix, or withheld while a
batch is awaited. -/
theorem witness_AdoptSetsTheMix_changesOver :
    let s := fun change => (asking 2 [] false change).setLive 0 (holding .starved)
    ready (s false) = true ∧ ((s false).tank 0).mix = some 2 ∧ (s false).live 0 = some (holding .starved) ∧
    ((s false).tank 0).queue = [] ∧ (s false).follows 0 1 0 = true ∧
    ((after (.adopt 0 0 1) (s false)).tank 0).mix = some 1 ∧ ((after (.adopt 0 0 1) (s false)).tank 0).queue = [] ∧
    ((s true).tank 0).changeMade = true ∧ ((after (.adopt 0 0 1) (s true)).tank 0).queue = [(0, 1)] := by decide

/-- A head of the tank's own mix, and one on an UNSET tank. -/
theorem witness_HeadExaminationGrantsOrWithholds_meets :
    let own := asking 1 [(0, 1)] false false
    let unset := own.setTank 0 { own.tank 0 with mix := none, contents := 0 }
    ready own = true ∧ (own.tank 0).queue = [(0, 1)] ∧ (own.tank 0).mix = some 1 ∧ laterStep ladder 1 1 = some 1 ∧
    ((after (.headExamination 0) own).tank 0).queue = [] ∧ ready unset = true ∧ (unset.tank 0).mix = none ∧
    (unset.tank 0).queue = (0, 1) :: [] ∧ (unset.leftIn 0 1 []).head? = none ∧
    ((after (.headExamination 0) unset).tank 0).mix = some 1 := by decide

/-- A head of the tank's own mix, with an entry for mix 2 behind it that waits for a batch. -/
theorem witness_HeadExaminationGrantsOrWithholds_behind :
    let s := asking 1 [(0, 1), (1, 2)] false true
    ready s = true ∧ (s.tank 0).queue = (0, 1) :: [(1, 2)] ∧ (s.tank 0).mix = some 1 ∧ (s.tank 0).batchSince = false ∧
    (s.tank 0).changeMade = true ∧ ((after (.headExamination 0) s).tank 0).queue = [(1, 2)] := by decide

theorem witness_HeadExaminationGrantsOrWithholds :
    ready demo = true ∧ (demo.tank 0).queue = [] ∧ ready (asking 2 [(0, 1), (1, 3)] true true) = true ∧
    ((asking 2 [(0, 1), (1, 3)] true true).tank 0).queue = (0, 1) :: [(1, 3)] ∧
    ((asking 2 [(0, 1), (1, 3)] true true).tank 0).mix = some 2 ∧ (∀ q ∈ [((1 : LineId), 3)], q.2 ≠ 1) ∧
    (∀ x, x ≠ 0 → (asking 2 [(0, 1), (1, 3)] true true).ctx x = none) ∧
    ((asking 2 [(0, 1)] false true).tank 0).batchSince = false ∧ ((asking 2 [(0, 1)] false true).tank 0).changeMade = true ∧
    ((asking 2 [(0, 1)] true true).setLive 1 (holding .inject (refusing 1))).ctx 1 = some (refusing 1 ctx) := by decide

/-- Tank A at its reserve supplies no line, and with 1 mL more it supplies one on its mix. -/
theorem witness_NoticeStarvesOrFeedsTheLine :
    (∀ p ∈ [Phase.inject, .relief, .starved, .bound, .hold, .localPanel, .drain, .ended],
      ready (onL1 (holding p)) = true ∧ (onL1 (holding p)).live 0 = some (holding p)) ∧
    ((filled 1 100000).entry ctx 10).1 = .starved ∧ ((filled 1 100001).entry ctx 10).1 = .inject ∧
    ((filled 2 5).tank 0).mix = some 2 ∧ ctx.mix ≠ 2 ∧ ctx.pendingReq = none ∧ ready demo = true ∧ demo.live 0 = none := by
  decide

/-! ### Witnesses: uplift -/

/-- G1 enabled in zone 1 with this reading, this fault, and this trip count, under dwell. -/
def gauged (reading : Option Int) (fault : Bool) (rail trips : Nat) (s : State := demo) : State :=
  { (s.setGaugeCfg 0 { s.gaugeCfg 0 with enabled := true }).setGauge 0
      { reading := reading, fault := fault, rail := rail, trips := trips } with scan := some { gauge := 0, left := 50 } }

theorem witness_GaugecfgWritesTheGauge :
    ready demo = true ∧ ¬(1 ≤ 17 ∧ 17 ≤ 16) ∧ (demo.gaugeCfg 15).enabled = false ∧ (demo.gaugeCfg 15).zone = 0 ∧
    (demo.gaugeCfg 15).span = 5000 ∧ ready (onL1 (holding .inject)) = true ∧ hasZone ctx.zones 0 = true ∧
    (onL1 (holding .inject)).live 0 = some (holding .inject) ∧ Phase.inject.started = true ∧
    flagOf 1 = some true ∧ (∀ l, demo.live l = none) ∧ demo.scan = none ∧
    (gauged none false 0 0).scan = some { gauge := 0, left := 50 } := by decide

/-- A faulted gauge that GAUGECFG disables: its fault is cleared, and no started line guards its zone. -/
theorem witness_GaugecfgWritesTheGauge_clears :
    ready (gauged none true 1 0) = true ∧ ((gauged none true 1 0).gauge 0).fault = true ∧ flagOf 0 = some false ∧
    ((after (.gaugecfg 0 1 0 1 5000) (gauged none true 1 0)).gauge 0).fault = false := by decide

/-- G1 moves from zone 1 to zone 3, both in WARN: with no fault change both leave WARN and are reported; with a fault that it
clears, the gauge, both zones and the release of a held line of no such zone are. -/
theorem witness_GaugecfgWritesTheGauge_reports :
    let warned := fun fault => ((gauged (some 250) fault 0 0).setWarned 0 true).setWarned 2 true
    let held := (warned true).setLive 0 (holding .hold (fun c => { c with zones := 2, hold := { HoldSet.none with gauge := true } }))
    ready (warned false) = true ∧ (∀ l, (warned false).live l = none) ∧ ready held = true ∧ (held.gauge 0).fault = true ∧
    hasZone 2 0 = false ∧ hasZone 2 2 = false ∧
    (after (.gaugecfg 0 1 1 3 5000) (warned false)).link.reports.length = 2 ∧
    (after (.gaugecfg 0 1 1 3 5000) held).link.reports.length = 4 := by decide +kernel

/-- WIPE with G1 faulted, zone 1 in WARN, and tank A READY over a reserve of 20000 mL and at the reserve of 100000 mL: it reports
the gauge, the zone and the tank (R20, R136, R152). -/
theorem witness_WipeEmptiesThePlan_reports :
    let s := gauged (some 250) true 0 0 ((filled 1 50000).setWarned 0 true)
    let s := s.modStore (fun p => { p with reserve := p.reserve.set 0 20000 })
    ready s = true ∧ (∀ l, s.live l = none) ∧ s.link.reports.length + 22 ≤ Config.maxReports ∧
    (after (.wipe 0) s).link.reports.length = 3 := by decide +kernel

/-- Zone 4, from STOP; zone 1 in TRIP, from STOP and from HOLD. -/
theorem witness_ZonecfgStoresTheThresholds :
    ready demo = true ∧ ¬(1 ≤ 5 ∧ 5 ≤ 4) ∧ 4 = (3 : ZoneId).val + 1 ∧ routingOf 3 = some .report ∧ routingOf 4 = none ∧
    demo.latched 3 = false ∧ ready tripped = true ∧ tripped.latched 0 = true ∧ (tripped.zoneCfg 0).routing = .stop ∧
    ((tripped.setZoneCfg 0 { tripped.zoneCfg 0 with routing := .hold }).zoneCfg 0).routing = .hold := by decide

/-- A gauge that takes part in its zone, whether its zone's latch is set or not. -/
theorem takesPart_gauged (r : Int) : (gauged (some r) false 0 0).takesPartAt 0 0 r :=
  ⟨rfl, rfl, rfl, r, rfl, by rw [show ((gauged (some r) false 0 0).gaugeCfg 0).baseline = 0 from rfl, Int.sub_zero]⟩

theorem takesPart_latched (r : Int) : ((gauged (some r) false 0 0).setLatch 0 true).takesPartAt 0 0 r :=
  takesPart_gauged r

/-- ZERO of the one gauge of a zone in WARN, and of the zone, takes it to NORMAL and reports it. -/
theorem witness_ZeroAndHclearJudgeTheZone_reports :
    let s := (gauged (some 250) false 0 0).setWarned 0 true
    ready s = true ∧ (∀ l, s.live l = none) ∧ s.zoneState 0 = .warn ∧
    (∀ c ∈ [Instr.zero 0 1 1, .zero 0 2 1], (after c s).zoneState 0 = .normal ∧ (after c s).link.reports.length = 1) := by
  decide +kernel

/-- G1 at the trip threshold of 500 reaches it; without a gauge that takes part none is reached. -/
theorem witness_ZeroAndHclearJudgeTheZone :
    ready (gauged (some 500) false 0 0) = true ∧ (gauged (some 500) false 0 0).takesPartAt 0 0 500 ∧
    ((gauged (some 500) false 0 0).gauge 0).reading = some 500 ∧ (∀ l, (gauged (some 500) false 0 0).live l = none) ∧
    (∀ z d, ¬demo.takesPartAt z 0 d) ∧ (onL1 (holding .inject)).live 0 = some (holding .inject) ∧
    hasZone ctx.zones 0 = true ∧ ¬(1 ≤ 17 ∧ 17 ≤ 16) ∧ ¬(1 ≤ 5 ∧ 5 ≤ 4) ∧ demo.latched 0 = false ∧
    ((gauged (some 500) false 0 0).setLatch 0 true).latched 0 = true ∧
    ((gauged (some 500) false 0 0).setLatch 0 true).reaches 0 500 ∧
    tripped.latched 0 = true ∧ (∀ n, ¬tripped.reaches 0 n) :=
  ⟨by decide, takesPart_gauged 500, by decide, by decide, fun _ _ h => absurd h.1 (by decide),
    by decide, by decide, by decide, by decide, by decide, by decide, ⟨0, 500, takesPart_latched 500, Int.le_refl _⟩, by decide,
    fun _ ⟨g, _, h, _⟩ => absurd h.1 (by
      rw [show (tripped.gaugeCfg g).enabled = false from (show ∀ g, (tripped.gaugeCfg g).enabled = false by decide) g]
      decide)⟩

/-- No scan; the second rail reading; the trip threshold of 500 reached at a reading of 500 (count 36045) on the second
reading in a row; a fault that clears; and the states that hold the line of the zone. -/
theorem witness_ConversionMeasuresAndJudges :
    demo.supply.failed = false ∧ demo.scan = none ∧ (gauged (some 0) false 1 0).scan = some { gauge := 0, left := 50 } ∧
    ((gauged (some 0) false 1 0).gauge 0).rail = 1 ∧ readingOf 5000 36045 = 500 ∧ readingOf 5000 36044 = 499 ∧
    ((gauged (some 500) false 0 1).gauge 0).trips = 1 ∧ (gauged (some 500) false 0 1).latched 0 = false ∧
    ((gauged (some 500) false 0 1).gauge 0).fault = false ∧ ((gauged none true 1 0).gauge 0).fault = true ∧
    ((after (.gaugeConversion 0) (gauged none false 1 0)).gauge 0).fault = true ∧
    ((after (.gaugeConversion 65534) (gauged none true 1 0)).gauge 0).fault = false := by decide

/-- G1 in zone 1, which is in WARN at its reading of 250, with L1 in INJECT: the second rail reading faults the gauge and takes the
zone to NORMAL, and both reports give the line acted on (R152). -/
theorem test_both_reports_of_a_fault_give_the_lines :
    ((after (.gaugeConversion 0) (gauged (some 250) false 1 0 ((onL1 (holding .inject)).setWarned 0 true))).link.reports.filterMap
      (fun r => match r with | .gaugeHeave x => some x.lines | .zoneHeave x => some x.lines | _ => none)) =
      [[(0, .holdGauge)], [(0, .holdGauge)]] := by decide

/-! ### Witnesses: the link and the supply -/

/-- A part with 32 reports waiting. -/
def flooded : State :=
  { demo with link := { demo.link with
      reports := List.replicate 32
        (.mixreq { tank := 0, line := 0, mix := 1, disposition := .queued, position := 1, step := 1 }) } }

/-- A report that meets 32 waiting reports is discarded and sets the missed flag, which a STATUS clears (R167). -/
theorem test_a_lost_report_sets_the_missed_flag :
    flooded.link.reports.length = Config.maxReports ∧ (after (.batteryChange true) flooded).link.missed = true ∧
    (after (.batteryChange true) flooded).link.reports = flooded.link.reports ∧
    (after (.status 0) (after (.batteryChange true) flooded)).link.missed = false := by decide

/-- No room for a report, and the part listens. -/
theorem witness_LinkRequestsSetClearAndRead_missed :
    ¬flooded.roomFor 1 ∧ flooded.supply.failed = false ∧ flooded.link.state = .ok ∧
    flooded.link.answers.length < Config.maxAnswers ∧ flooded.supply.batteryLow = false := by
  unfold State.roomFor; decide

theorem witness_LinkRequestsSetClearAndRead :
    ready demo = true ∧ demo.link.safeLatch = false ∧
    ready { demo with link := { demo.link with safeLatch := true } } = true ∧
    { demo with link := { demo.link with safeLatch := true } }.link.safeLatch = true := by decide

/-- The framer in each of its states; length 1, 2, 242 and 243; a request frame with a good check, one of an unknown kind
and one of the wrong form; and an answer, a report, and nothing to send. -/
theorem witness_FramerAndTransmitterMoveOn :
    demo.supply.failed = false ∧ demo.link.tx ≠ none ∧ demo.link.framer = .hunt ∧ (1 : Byte).toNat < 2 ∧
    2 ≤ (2 : Byte).toNat ∧ (242 : Byte).toNat ≤ 242 ∧ 242 < (243 : Byte).toNat ∧
    (after (.byteArrival 0xC3 false) demo).link.framer = .length ∧
    (after (.byteArrival 2 false) (after (.byteArrival 0xC3 false) demo)).link.framer = .collect 2 [] ∧
    ([] : List Byte).length + 1 ≠ (2 : Byte).toNat ∧ [(0x28 : Byte)].length + 1 = (2 : Byte).toNat ∧
    crcBytes (crc [2, 0x28, 7]) = [0x5D, 0x54] ∧ decodeRequest 0x28 7 [] = .request (.status 7) ∧
    decodeRequest 0x3F 7 [] = .unknown ∧ decodeRequest 0x28 7 [1] = .malformed ∧ (64 : Byte).toNat ≤ 64 ∧
    demo.link.answers = [] ∧ demo.link.reports = [] ∧ full.link.answers ≠ [] := by decide +kernel

/-- The link in OK, LOST1 and LOST2. -/
theorem witness_SilenceHoldsThenDrainsTheLines :
    demo.supply.failed = false ∧ demo.link.state = .ok ∧ demo.roomFor 1 ∧
    { demo with link := { demo.link with state := .lost1 } }.link.state = .lost1 ∧
    { demo with link := { demo.link with state := .lost2 } }.link.state ≠ .ok ∧
    { demo with link := { demo.link with state := .lost2 } }.link.answers.length < Config.maxAnswers :=
  ⟨by decide, by decide, (ready_meets_the_hypotheses demo (by decide) 1 (by decide)).2, by decide, by decide, by decide⟩

/-- In LOST1 and in LOST2, the last byte of a STATUS frame, and of a frame of kind 0x45, which is no request: both restore the
link. -/
theorem witness_SilenceHoldsThenDrainsTheLines_restores :
    crcBytes (crc [2, 0x28, 7]) = [0x5D, 0x54] ∧ crcBytes (crc [2, 0x45, 7]) = [0x20, 0x22] ∧ 64 ≤ (0x45 : Byte).toNat ∧
    requestKind (.status 7) = some 0x28 ∧
    ∀ lost ∈ [LinkState.lost1, .lost2], ∀ f ∈ [(Framer.check 2 [0x28, 7] (some 0x5D), (0x54 : Byte)),
        (.check 2 [0x45, 7] (some 0x20), 0x22)],
      let s := { demo with link := { demo.link with state := lost, framer := f.1 } }
      s.supply.failed = false ∧ s.link.state ≠ .ok ∧ s.link.reports.length + 1 ≤ Config.maxReports ∧
      (after (.byteArrival f.2 false) s).link.state = .ok := by decide +kernel

theorem witness_BatteryAndLoopAreReported :
    ready demo = true ∧ demo.supply.batteryLow = false ∧ demo.supply.loopOpen = false ∧
    { demo with supply := { demo.supply with loopOpen := true } }.supply.loopOpen = true := by decide

/-! ### Witnesses: what every step keeps -/

/-- A step that answers a next state, from a state that satisfies the premises of the invariants. -/
theorem steps : step { demo with pending := [.wipe 0] } = .next (after (.wipe 0) demo) := by rfl

theorem idle : ∀ l, demo.live l = none := by decide

theorem unbound : ∀ l, demo.ctx l = none := by decide

theorem witness_StepKeepsTankAccounts : demo.balanced ∧ demo.unsetEmpty :=
  ⟨by unfold State.balanced Tank.balanced; decide, by unfold State.unsetEmpty; decide⟩

/-- L1 waits at the head of tank A, whose queue keeps its law. -/
theorem asking_requestsKept : (asking 2 [(0, 1)] true true).requestsKept where
  attached := fun l c h =>
    have all : ∀ l, ((asking 2 [(0, 1)] true true).ctx l).all
        (fun c => decide (c.tank = ((asking 2 [(0, 1)] true true).lineCfg l).tank)) = true := by decide
    of_decide_eq_true (by have hl := all l; rwa [h] at hl)
  once := by decide
  owned := fun k q h =>
    have all : ∀ k : TankId, ((asking 2 [(0, 1)] true true).tank k).queue = if k = 0 then [(0, 1)] else [] := by decide
    by
      rw [all k] at h
      split at h
      · subst k
        rw [List.mem_singleton.mp h]
        exact ⟨holding .starved (fun c => { c with pendingReq := some 1 }), rfl, rfl, by decide, by decide⟩
      · cases h

theorem witness_StepKeepsQueueBounds :
    demo.queuesBounded ∧ full.queuesBounded ∧ (asking 2 [(0, 1)] true true).requestsKept :=
  ⟨⟨by decide, by decide, by decide⟩, ⟨by decide, by decide, by decide⟩, asking_requestsKept⟩

theorem witness_StepKeepsDemandsAndHolds : demo.demandsKept ∧ demo.holdsMatch :=
  ⟨fun l _ h => (nomatch (idle l).symm.trans h), fun l _ h => (nomatch (idle l).symm.trans h)⟩

theorem witness_StepKeepsTheGuards : demo.stopped ∧ demo.guarded :=
  ⟨by unfold State.stopped; decide, fun l _ _ h => (nomatch (idle l).symm.trans h)⟩

theorem witness_StepKeepsPlanAndBindings :
    demo.store.configValid ∧ demo.store.canonical ∧ demo.boundPlanned ∧ demo.bindingLaws :=
  ⟨demo_configValid, demo_canonical, fun l _ h => (nomatch (unbound l).symm.trans h), fun l _ _ _ _ h => (nomatch (unbound l).symm.trans h)⟩

end Sys2Proof.Tests
end

section
/-! PROOFS. Measurement (chapter 3): the flowmeter pulse, and steps 1 to 4 of a sample in every line state. -/

namespace Sys2Proof.Machine

/-! ### An event that leaves the link to the arbiter -/

/-- The arbiter after an effect that has left the link alone: nothing is answered and nothing is reported. -/
theorem startFrame_reported {s u : State} (h : u.link = s.link) : Reported s (startFrame u) [] where
  link := by
    obtain ⟨hframer, hgap, hstate, ht1, ht2, hsafe⟩ := startFrame_linkKept u
    rw [h] at hframer hgap hstate ht1 ht2 hsafe
    exact ⟨hframer, hgap, hstate, ht1, ht2, hsafe⟩
  answers := by rw [startFrame_answersOut]; simp only [State.answersOut, h]
  reports := by rw [startFrame_reportsOut, List.append_nil]; simp only [State.reportsOut, h]
  missed := by rw [startFrame_missed, h]

/-- The arbiter writes nothing but the link. -/
theorem startFrame_only_link (u : State) : startFrame u = { u with link := (startFrame u).link } := by
  rw [startFrame_eq]

@[simp] theorem startFrame_line (s : State) (l : LineId) : (startFrame s).line l = s.line l := by
  simp [State.line]

/-! ### The flowmeter pulse (R44) -/

theorem exec_flowmeterPulse (l : LineId) (s : State) (h : s.supply.failed = false) :
    exec (.flowmeterPulse l) s = .next (startFrame (evPulse l s)) := takeEvent_good _ _ h

theorem FrontEnd.pulse_pLast_first {fe : FrontEnd} (now : Nat) (h : fe.lastPulse = none) :
    (fe.pulse now).pLast = fe.pLast := by simp [FrontEnd.pulse, h]

theorem FrontEnd.pulse_pLast_next {fe : FrontEnd} (now : Nat) {p : Nat} (h : fe.lastPulse = some p) :
    (fe.pulse now).pLast = some (max 1 (now - p)) := by simp [FrontEnd.pulse, h]

/-- Settles O31: the pulse writes the front end alone, as `FrontEnd.pulse` says, and the arbiter writes the link alone. -/
theorem pulseIsCountedAndTimed : Obligations.PulseIsCountedAndTimed := by
  intro s l hgood
  refine ⟨_, (s.line l).fe.pulse s.supply.now, exec_flowmeterPulse l s hgood, startFrame_only_link _,
    startFrame_reported rfl, rfl, rfl, rfl, rfl, ?_, ?_⟩
  · exact fun p hp => FrontEnd.pulse_pLast_next _ hp
  · exact FrontEnd.pulse_pLast_first _

/-! ### The flow estimate (R48) -/

theorem flow_of_few (factor now : Nat) {fe : FrontEnd} (h : fe.pulses < 2) : flow factor fe now = 0 := by
  simp [flow, h]

theorem flow_of_stale (factor : Nat) {now p : Nat} {fe : FrontEnd} (hp : fe.lastPulse = some p)
    (h : 600000 ≤ now - p) : flow factor fe now = 0 := by
  have hstale : Config.flowTimeout ≤ now - p := h
  simp [flow, hp, hstale]

theorem flow_of_recent (factor : Nat) {now p d : Nat} {fe : FrontEnd} (hpulses : 2 ≤ fe.pulses)
    (hp : fe.lastPulse = some p) (hd : fe.pLast = some d) (h : now - p < 600000) :
    flow factor fe now = factor * 600 / max d (now - p) := by
  have hrecent : ¬ Config.flowTimeout ≤ now - p := Nat.not_le.2 h
  simp [flow, Nat.not_lt.2 hpulses, hp, hd, hrecent]

/-! ### Gauge and effective pressure (R41, R42, R49 to R51) -/

theorem loopInRange_iff (current : Nat) : loopInRange current = true ↔ 3600 ≤ current ∧ current ≤ 21000 := by
  simp [loopInRange, inRange]

theorem clampI_eq_max_min {lo hi : Int} (n : Int) (h : lo ≤ hi) : clampI lo hi n = max lo (min hi n) := by
  unfold clampI
  split_ifs <;> omega

theorem gaugePressure_cast (span current : Nat) :
    (gaugePressure span current : Int) = max 0 (min (span : Int) (trunc (((current : Int) - 4000) * span) 16000)) := by
  rw [gaugePressure, clampI_eq_max_min _ (Int.natCast_nonneg span)]
  exact Int.toNat_of_nonneg (le_max_left ..)

theorem samplePg_cast (span current lastPg : Nat) :
    (samplePg span current lastPg : Int) =
      if 3600 ≤ current ∧ current ≤ 21000 then
        max 0 (min (span : Int) (trunc (((current : Int) - 4000) * span) 16000))
      else (lastPg : Int) := by
  unfold samplePg
  rw [apply_ite (Nat.cast : Nat → Int), gaugePressure_cast]
  exact if_congr (loopInRange_iff current) rfl rfl

/-- The natural subtraction of R51's heads is its clamp at 0. -/
theorem State.pe_cast {s : State} {c : Context} {m : Mix} (h : tfind s.store.mixes c.mix = some m) (pg : Nat) :
    (s.pe c pg : Int) = max 0 ((pg : Int) + (m.density * c.midDepth * 981 / 1000000 : Nat) -
      (1000 * c.waterDepth * 981 / 1000000 : Nat)) := by
  have hdensity : s.density c = m.density := by simp [State.density, h]
  rw [State.pe, hdensity, effective, groutHead, waterHead]
  omega

/-! ### What a sample measures and what its tests write

Steps 1 to 4 and the close of a sample write V, the take and the last values; its tests, entries and exits write the other
fields. `Context.measured` blanks those other fields, so that an action which measures nothing is one that keeps it. -/

/-- A context without the fields that the tests, regulation, entries and exits of a sample write. -/
def Context.measured (c : Context) : Context :=
  { c with
    pendingReq := none, starve := none, lastCap := 0, lastPtgt := 0, pRamp := 0, u := 0, ePrev := 0, first := false
    refusalTimer := 0, reliefCount := 0, maxPe := 0, hold := HoldSet.none }

/-- A field that the tests leave alone is one of the measured part. -/
theorem measured_field {α : Type} (f : Context → α) {c d : Context} (h : c.measured = d.measured)
    (hf : ∀ x, f x.measured = f x := by intro; rfl) : f c = f d := by rw [← hf c, h, hf]

/-- Contexts that measure alike have the same effective pressure at the same gauge pressure in any state of the same plan. -/
theorem State.pe_congr {s t : State} {c d : Context} (hs : t.store = s.store) (hc : c.measured = d.measured) (pg : Nat) :
    t.pe c pg = s.pe d pg := by
  have hpe : ∀ (r : State) (x : Context), r.pe x pg = r.pe x.measured pg := fun _ _ => rfl
  have hst : t.pe d.measured pg = s.pe d.measured pg := by simp only [State.pe, State.density, hs]
  rw [hpe t c, hc, hst, ← hpe]

theorem map_comp_measured (f : Context → Context) (x : Option Context) :
    x.map (fun c => f c.measured) = (x.map Context.measured).map f := by rw [Option.map_map]; rfl

/-- From `s` to `t` the measured part of line `l`'s context has changed by `f`; its front end, its sample timer and the store
stand as they were, and no hand-off has been taken back. -/
structure Writes (l : LineId) (f : Context → Context) (s t : State) : Prop where
  store : t.store = s.store
  fe : (t.line l).fe = (s.line l).fe
  sampleTimer : (t.line l).sampleTimer = (s.line l).sampleTimer
  handoffs : s.handoffs ⊆ t.handoffs
  ctx : (t.ctx l).map Context.measured = (s.ctx l).map (fun c => f c.measured)

/-- From `s` to `t` line `l` has acted without measuring. -/
abbrev Acts (l : LineId) (s t : State) : Prop := Writes l id s t

section
variable {l : LineId} {s t u : State}

theorem Acts.refl (l : LineId) (s : State) : Acts l s s := ⟨rfl, rfl, rfl, List.Subset.refl _, rfl⟩

theorem Writes.trans {f g : Context → Context} (h : Writes l f s t) (k : Writes l g t u) : Writes l (g ∘ f) s u where
  store := k.store.trans h.store
  fe := k.fe.trans h.fe
  sampleTimer := k.sampleTimer.trans h.sampleTimer
  handoffs := List.Subset.trans h.handoffs k.handoffs
  ctx := by rw [k.ctx, map_comp_measured, h.ctx, Option.map_map]; rfl

theorem Acts.trans (h : Acts l s t) (k : Acts l t u) : Acts l s u := Writes.trans h k

theorem Acts.thenWrites {f : Context → Context} (h : Acts l s t) (k : Writes l f t u) : Writes l f s u :=
  Writes.trans h k

theorem Writes.thenActs {f : Context → Context} (h : Writes l f s t) (k : Acts l t u) : Writes l f s u :=
  (Writes.trans h k : Writes l (id ∘ f) s u)

/-- A line that is not IDLE is not IDLE after it has measured and acted. -/
theorem Writes.exists_live {v : Live} {f : Context → Context} (h : Writes l f s t) (hv : s.live l = some v) :
    ∃ w, t.live l = some w := by
  have hmap := h.ctx
  rw [ctx_of_live hv] at hmap
  obtain ⟨d, hd, -⟩ := Option.map_eq_some_iff.1 hmap
  obtain ⟨w, hw, -⟩ := Option.map_eq_some_iff.1 hd
  exact ⟨w, hw⟩

/-! ### The primitive updates as acts -/

/-- Nothing of the line or the store is written, and hand-offs at most join. -/
theorem Acts.of_line_kept (hstore : t.store = s.store) (hline : t.line l = s.line l) (hh : s.handoffs ⊆ t.handoffs) :
    Acts l s t where
  store := hstore
  fe := by rw [hline]
  sampleTimer := by rw [hline]
  handoffs := hh
  ctx := by simp only [State.ctx, State.live, hline, id]

theorem report_acts (l : LineId) (s : State) (r : Report) : Acts l s (s.report r) :=
  .of_line_kept (by simp) (by simp [State.line]) (by simp)

theorem handOff_acts (l : LineId) (s : State) (i : Instr) : Acts l s (s.handOff i) :=
  .of_line_kept rfl rfl (List.subset_append_left ..)

theorem setTank_acts (l : LineId) (s : State) (k : TankId) (x : Tank) : Acts l s (s.setTank k x) :=
  .of_line_kept rfl rfl (List.Subset.refl _)

/-- A write of the line that keeps what it holds, its front end and its timer. -/
theorem setLine_acts {x : Line} (hlive : x.live = s.live l := by rfl) (hfe : x.fe = (s.line l).fe := by rfl)
    (htimer : x.sampleTimer = (s.line l).sampleTimer := by rfl) : Acts l s (s.setLine l x) where
  store := rfl
  fe := by rw [State.line_setLine_self, hfe]
  sampleTimer := by rw [State.line_setLine_self, htimer]
  handoffs := List.Subset.refl _
  ctx := by
    have hctx : (s.setLine l x).ctx l = s.ctx l := by simp [State.ctx, State.live, hlive]
    rw [hctx]; rfl

/-- A write of what the line holds changes the measured part as it changes the context. -/
theorem setLive_writes {v w : Live} {f : Context → Context} (h : s.live l = some v)
    (hf : w.ctx.measured = f v.ctx.measured := by rfl) : Writes l f s (s.setLive l w) where
  store := rfl
  fe := by rw [State.line_setLive_self]
  sampleTimer := by rw [State.line_setLive_self]
  handoffs := List.Subset.refl _
  ctx := by rw [State.ctx_setLive_self, ctx_of_live h]; exact congrArg some hf

theorem setLive_acts {v w : Live} (h : s.live l = some v) (hw : w.ctx.measured = v.ctx.measured) :
    Acts l s (s.setLive l w) := setLive_writes h hw

theorem modCtx_writes (l : LineId) (s : State) (f : Context → Context) {g : Context → Context}
    (h : ∀ c, (f c).measured = g c.measured) : Writes l g s (s.modCtx l f) := by
  cases hv : s.live l with
  | none =>
    have hsame : s.modCtx l f = s := by simp [State.modCtx, hv]
    rw [hsame]
    exact ⟨rfl, rfl, rfl, List.Subset.refl _, by simp [State.ctx, hv]⟩
  | some v => rw [modCtx_eq hv]; exact setLive_writes hv (h v.ctx)

theorem modCtx_acts (l : LineId) (s : State) (f : Context → Context) (h : ∀ c, (f c).measured = c.measured := by intro; rfl) :
    Acts l s (s.modCtx l f) := modCtx_writes l s f h

theorem setPhase_acts (l : LineId) (p : Phase) (f : Context → Context) (s : State)
    (h : ∀ c, (f c).measured = c.measured := by intro; rfl) : Acts l s (setPhase l p f s) := by
  cases hv : s.live l with
  | none => simp only [setPhase, hv]; exact .refl l s
  | some v => rw [setPhase_eq hv]; exact setLive_acts hv (h v.ctx)

/-! ### The shared operations of a line as acts -/

theorem lineReport_acts (l : LineId) (before after : Phase) (cause : Option Cause) (cond : Option Release) (s : State) :
    Acts l s (lineReport l before after cause cond s) := by
  unfold lineReport; split
  · exact .refl l s
  · exact report_acts ..

theorem raiseRequest_acts (l : LineId) (mix : Nat) (s : State) : Acts l s (raiseRequest l mix s) := by
  unfold raiseRequest; split
  · exact .refl l s
  · split
    · exact .refl l s
    · exact (modCtx_acts ..).trans (handOff_acts ..)

theorem exitInject_acts (l : LineId) (s : State) : Acts l s (exitInject l s) := by
  unfold exitInject; split
  · exact .refl l s
  · exact (modCtx_acts ..).trans (handOff_acts ..)

theorem exitIfInject_acts (l : LineId) (s : State) : Acts l s (exitIfInject l s) := by
  unfold exitIfInject; split
  · exact exitInject_acts l s
  · exact .refl l s

theorem enterInject_acts (l : LineId) (pe : Nat) (s : State) : Acts l s (enterInject l pe s) :=
  setPhase_acts ..

theorem enterStarved_acts (l : LineId) (s : State) : Acts l s (enterStarved l s) := by
  unfold enterStarved; split
  · exact .refl l s
  · dsimp only
    split
    · exact (setPhase_acts ..).trans (raiseRequest_acts ..)
    · exact setPhase_acts ..

theorem injectOrStarve_acts (l : LineId) (pe : Nat) (s : State) : Acts l s (injectOrStarve l pe s) := by
  unfold injectOrStarve; split
  · exact .refl l s
  · split
    · exact enterInject_acts ..
    · exact enterStarved_acts ..

theorem leaveHold_acts (l : LineId) (pe : Nat) (cause : Option Cause) (cond : Release) (s : State) :
    Acts l s (leaveHold l pe cause cond s) := by
  unfold leaveHold
  dsimp only
  split
  · exact injectOrStarve_acts ..
  · exact (injectOrStarve_acts ..).trans (lineReport_acts ..)

theorem enterHold_acts (l : LineId) (before : Phase) (cause : Cause) (add : HoldSet → HoldSet) (s : State) :
    Acts l s (enterHold l before cause add s) :=
  ((exitIfInject_acts l s).trans (setPhase_acts ..)).trans (lineReport_acts ..)

theorem dropRequest_acts (l : LineId) (c : Context) (s : State) : Acts l s (dropRequest l c s) := by
  unfold dropRequest
  dsimp only
  split
  · exact (((setTank_acts ..).trans (modCtx_acts ..)).trans setLine_acts).trans (handOff_acts ..)
  · exact ((setTank_acts ..).trans (modCtx_acts ..)).trans setLine_acts

theorem withdrawalReport_acts (l k : LineId) (x : Line) (c : Context) (step : Nat) (s : State) :
    Acts l s (withdrawalReport k x c step s) := by
  unfold withdrawalReport; split
  · exact .refl l s
  · exact report_acts ..

theorem enterDrain_acts (l : LineId) (s : State) : Acts l s (enterDrain l s) := by
  unfold enterDrain; split
  · exact .refl l s
  · dsimp only
    refine Acts.trans ?_ (withdrawalReport_acts ..)
    split
    · exact ((((exitIfInject_acts ..).trans (setPhase_acts ..)).trans setLine_acts).trans (dropRequest_acts ..)).trans
        (lineReport_acts ..)
    · exact (((exitIfInject_acts ..).trans (setPhase_acts ..)).trans setLine_acts).trans (dropRequest_acts ..)

theorem fillLatch_acts (l : LineId) (o : PassOutcome) (p : Phase) (d : Int) (s : State) :
    Acts l s (fillLatch l o p d s) := by
  cases hv : s.live l with
  | none => simp only [fillLatch, hv]; exact .refl l s
  | some v => rw [fillLatch_eq hv]; exact setLive_acts hv rfl

/-! ### The tests and the trace of a sample as acts -/

theorem senseFault_acts (l : LineId) (p : Phase) (fault : Bool) (s : State) : Acts l s (senseFault l p fault s).2 := by
  unfold senseFault; split
  · dsimp only; exact enterHold_acts ..
  · exact .refl l s

theorem decaySite_acts (l : LineId) (pe : Nat) (s : State) : Acts l s (decaySite l pe s) := by
  unfold decaySite; split
  · exact .refl l s
  · split
    · dsimp only
      split
      · exact modCtx_acts ..
      · exact (modCtx_acts ..).trans (lineReport_acts ..)
    · exact .refl l s

theorem relieve_acts (l : LineId) (broken : Bool) (s : State) : Acts l s (relieve l broken s).s := by
  unfold relieve; split
  · exact .refl l s
  · dsimp only
    split
    · dsimp only; exact (modCtx_acts ..).trans (enterDrain_acts ..)
    · dsimp only; exact ((modCtx_acts ..).trans (exitInject_acts ..)).trans (setPhase_acts ..)

theorem injectTests_acts (l : LineId) (m : Sampled) (s : State) : Acts l s (injectTests l m s).s := by
  unfold injectTests; split
  · exact .refl l s
  · dsimp only
    split
    · dsimp only; exact (modCtx_acts ..).trans (enterDrain_acts ..)
    · split
      · exact (modCtx_acts ..).trans (relieve_acts ..)
      · split
        · dsimp only; exact (modCtx_acts ..).trans (enterHold_acts ..)
        · dsimp only; exact modCtx_acts ..

theorem stateTests_acts (l : LineId) (p : Phase) (m : Sampled) (s : State) : Acts l s (stateTests l p m s).s := by
  cases p with
  | inject => exact injectTests_acts l m s
  | relief =>
    simp only [stateTests]; split
    · exact enterInject_acts ..
    · exact .refl l s
  | hold =>
    simp only [stateTests]; split
    · exact leaveHold_acts ..
    · exact .refl l s
  | localPanel =>
    simp only [stateTests]; split
    · exact .refl l s
    · exact setLine_acts
  | bound | starved | drain | ended => exact .refl l s

theorem testSample_acts (l : LineId) (p : Phase) (m : Sampled) (s : State) : Acts l s (testSample l p m s).s := by
  unfold testSample; split
  · exact .refl l s
  · split
    · exact enterDrain_acts ..
    · exact stateTests_acts ..

theorem advanceMix_acts (l : LineId) (m : Sampled) (s : State) : Acts l s (advanceMix l m s) := by
  unfold advanceMix; split
  · exact .refl l s
  · split
    · exact .refl l s
    · exact raiseRequest_acts ..

theorem regulateSample_acts (l : LineId) (p : Phase) (m : Sampled) (s : State) : Acts l s (regulateSample l p m s) := by
  unfold regulateSample; split
  · exact (advanceMix_acts ..).trans (modCtx_acts ..)
  · exact .refl l s

theorem traceSample_acts (l : LineId) (pint : BitVec 32) (s : State) : Acts l s (traceSample l pint s) := by
  unfold traceSample
  dsimp only
  split
  · exact .refl l s
  · split
    · split
      · exact .refl l s
      · exact Acts.trans setLine_acts (report_acts ..)
    · exact setLine_acts

theorem stageEndReport_acts (l k : LineId) (c : Context) (r : OutcomeRecord) (s : State) :
    Acts l s (stageEndReport k c r s) := by
  unfold stageEndReport; split
  · exact .refl l s
  · exact report_acts ..

theorem startFrame_acts (l : LineId) (s : State) : Acts l s (startFrame s) :=
  .of_line_kept (by simp) (by simp) (by simp)

/-! ### The stage record and the draw of a sample (R45 to R47) -/

/-- From `s` to `t` the stage of this context, where it is planned, has grown by `dv`. -/
def StageGrown (s t : State) (c : Context) (dv : Nat) : Prop :=
  ∀ st, s.stageRec c.hole c.stage = some st →
    ∃ st', t.stageRec c.hole c.stage = some st' ∧ st'.passVol = st.passVol + dv ∧ st'.cumVol = st.cumVol + dv

/-- A write of a stage record that adds `dv` to its two volumes (R9). -/
def GrowsBy (f : Stage → Stage) (dv : Nat) : Prop :=
  ∀ st, (f st).passVol = st.passVol + dv ∧ (f st).cumVol = st.cumVol + dv

theorem update_grows (dv : Nat) (img : RunningImage) : GrowsBy (fun st => st.update dv img) dv := fun _ => ⟨rfl, rfl⟩

theorem finish_grows (dv : Nat) (o : OutcomeRecord) : GrowsBy (fun st => st.finish dv o) dv := fun _ => ⟨rfl, rfl⟩

theorem storeUpdate_eq {v : Live} (h : s.live l = some v) (dv : Nat) :
    storeUpdate l dv s = s.modStage v.ctx.hole v.ctx.stage (fun st => st.update dv (runningImage s v)) := by
  simp only [storeUpdate, h]

theorem modStage_grown {c : Context} {dv : Nat} {f : Stage → Stage} (s : State) (hf : GrowsBy f dv) :
    StageGrown s (s.modStage c.hole c.stage f) c dv := by
  intro st hst
  have hfound : (s.modStage c.hole c.stage f).stageRec c.hole c.stage = some (f st) := by
    have : tfind s.store.stages (stageKey c.hole c.stage) = some st := hst
    simp [State.stageRec, tfind_tmod, this]
  exact ⟨f st, hfound, hf st⟩

theorem StageGrown.of_store_eq {s₁ t₁ : State} {c : Context} {dv : Nat} (h : StageGrown s t c dv)
    (hs : s.store = s₁.store) (ht : t₁.store = t.store) : StageGrown s₁ t₁ c dv := by
  simp only [StageGrown, State.stageRec, hs, ht] at h ⊢
  exact h

/-! ### What the steps of a sample leave -/

/-- From `s` to `t` line `l` has taken a sample that read `r`, and its measured part is that of the context `c`. -/
structure Measured (s t : State) (l : LineId) (r : Reading) (c : Context) : Prop where
  fe : (t.line l).fe = { (s.line l).fe with fault := r.fault, count := 0 }
  sampleTimer : (t.line l).sampleTimer = some (s.lineCfg l).interval
  ctx : (t.ctx l).map Context.measured = some c.measured

/-- From `s` to `t` the increment of a sample of this context was handed to its tank and added to its stage (R46, R47). -/
structure Counted (s t : State) (c : Context) (dv : Nat) : Prop where
  drawn : dv ≠ 0 → Instr.tankDraw c.tank dv ∈ t.handoffs
  grown : StageGrown s t c dv

variable {r : Reading} {c d : Context}

theorem Measured.writes {f : Context → Context} (h : Measured s t l r c) (k : Writes l f t u)
    (hf : f c.measured = d.measured := by rfl) : Measured s u l r d where
  fe := k.fe.trans h.fe
  sampleTimer := k.sampleTimer.trans h.sampleTimer
  ctx := by rw [k.ctx, map_comp_measured, h.ctx, Option.map_some, hf]

theorem Measured.acts (h : Measured s t l r c) (k : Acts l t u) : Measured s u l r c := h.writes k

/-- A line that was measured holds a context, whose measured part is the one stated. -/
theorem Measured.exists_ctx (h : Measured s t l r c) : ∃ d, t.ctx l = some d ∧ d.measured = c.measured := by
  simpa using h.ctx

/-- The stage table is no part of what was measured. -/
theorem Measured.modStage (h : Measured s t l r c) (hole stage : Nat) (f : Stage → Stage) :
    Measured s (t.modStage hole stage f) l r c := ⟨h.fe, h.sampleTimer, h.ctx⟩

@[simp] theorem afterReading_live (l : LineId) (fault : Bool) (s : State) :
    (afterReading l fault s).live l = s.live l := by
  simp [afterReading, State.live]

/-- The front end is read and the sample timer restarted, before anything of the context is written (R39, R42, R45). -/
theorem afterReading_measured {v : Live} (h : s.live l = some v) (r : Reading) :
    Measured s (afterReading l r.fault s) l r v.ctx where
  fe := by simp [afterReading]
  sampleTimer := by simp [afterReading]
  ctx := by rw [ctx_of_live ((afterReading_live ..).trans h)]; rfl

/-- The context after step 2 of a counting state (R45). -/
def Context.counted (c : Context) (dv : Nat) : Context := { c with vol := c.vol + dv }

theorem countVolume_writes (l : LineId) (dv : Nat) (s : State) :
    Writes l (fun c => c.counted dv) s (countVolume l dv s) := by
  have hvol : Writes l (fun c => c.counted dv) s (s.modCtx l fun c => { c with vol := c.vol + dv }) :=
    modCtx_writes _ _ _ fun _ => rfl
  unfold countVolume
  split
  · next hnone => exact ⟨rfl, rfl, rfl, List.Subset.refl _, by simp [hnone]⟩
  · dsimp only
    split
    · exact hvol
    · exact hvol.thenActs (handOff_acts ..)

theorem countVolume_draws {dv : Nat} (h : s.ctx l = some c) (hdv : dv ≠ 0) :
    Instr.tankDraw c.tank dv ∈ (countVolume l dv s).handoffs := by
  simp [countVolume, h, hdv]

/-! ### The three kinds of sample -/

/-- The context after the last values are written (R54). -/
def Context.closed (c : Context) (r : Reading) (pe : Nat) : Context :=
  { c with lastPg := r.pg, lastPe := pe, lastQ := r.q }

/-- The context that a sample reading `r` leaves, as far as it measures, by the line's state (R40, R45, R52, R54). -/
def Live.sampled (s : State) (v : Live) (r : Reading) : Context :=
  match v.phase with
  | .bound | .ended => v.ctx.closed r (s.pe v.ctx r.pg)
  | .drain => (v.ctx.counted r.dv).closed r v.ctx.lastPe
  | .inject | .relief | .hold | .starved | .localPanel => (v.ctx.counted r.dv).retake.closed r (s.pe v.ctx r.pg)

/-- A sample in a counting state: the volume is counted; the line measures and acts to `m`, where it holds the context `x`;
the record of that context's stage is written; and the line acts to `t`. -/
theorem counted_of_steps {v : Live} {m : State} {x : Context} {f : Context → Context} {g : Stage → Stage}
    (h : s.live l = some v) (hm : Writes l f (countVolume l r.dv (afterReading l r.fault s)) m) (hx : m.ctx l = some x)
    (hg : GrowsBy g r.dv) (ht : Acts l (m.modStage x.hole x.stage g) t)
    (hf : f (v.ctx.counted r.dv).measured = d.measured := by rfl) (hhole : d.hole = v.ctx.hole := by rfl)
    (hstage : d.stage = v.ctx.stage := by rfl) : Measured s t l r d ∧ Counted s t v.ctx r.dv := by
  have hcount := countVolume_writes l r.dv (afterReading l r.fault s)
  have hmeasured : Measured s m l r d :=
    ((afterReading_measured h r).writes hcount (d := v.ctx.counted r.dv)).writes hm hf
  obtain ⟨y, hy, hyd⟩ := hmeasured.exists_ctx
  obtain rfl : x = y := Option.some_inj.1 (hx.symm.trans hy)
  rw [(measured_field Context.hole hyd).trans hhole, (measured_field Context.stage hyd).trans hstage] at ht
  refine ⟨(hmeasured.modStage _ _ g).acts ht, ?_, ?_⟩
  · intro hdv
    have hctx := ctx_of_live ((afterReading_live l r.fault s).trans h)
    exact ht.handoffs (hm.handoffs (countVolume_draws hctx hdv))
  · exact (modStage_grown m hg).of_store_eq (hm.store.trans hcount.store) ht.store

/-- A sample in BOUND or ENDED writes the last values, and neither the store nor a hand-off (R40, R45, R54). -/
theorem displaySample_measures {v : Live} (h : s.live l = some v) (r : Reading) :
    Measured s (displaySample l r s) l r (v.ctx.closed r (s.pe v.ctx r.pg)) ∧
      (displaySample l r s).store = s.store ∧ (displaySample l r s).handoffs = s.handoffs := by
  simp only [displaySample, ctx_of_live h]
  refine ⟨?_, State.modCtx_store .., State.modCtx_handoffs ..⟩
  exact (afterReading_measured h r).writes (modCtx_writes _ _ _ (g := fun c => c.closed r (s.pe v.ctx r.pg)) fun _ => rfl)

/-- The fields of a drain sample are written: the last p_g and q, the drain time in the end latch, and the free value taken. -/
theorem drainClose_writes {w : Live} (h : s.live l = some w) (r : Reading) (e : Option EndLatch) (n : Nat) :
    Writes l (fun c => c.closed r c.lastPe) s (({ s with freeCount := n } : State).setLive l
      { w with ctx := { w.ctx with lastPg := r.pg, lastQ := r.q }, latch := e }) := by
  have hfree : Acts l s { s with freeCount := n } := .of_line_kept rfl rfl (List.Subset.refl _)
  have hlive : ({ s with freeCount := n } : State).live l = some w := h
  exact hfree.thenWrites (setLive_writes hlive (f := fun c => c.closed r c.lastPe))

/-- The end of a drain writes the record of the pass, and acts (R112). -/
theorem finishDrain_steps (h : s.ctx l = some c) (r : Reading) (e : EndLatch) (timeout : Bool) (pint : BitVec 32) :
    ∃ g, GrowsBy g r.dv ∧ Acts l (s.modStage c.hole c.stage g) (finishDrain l r e timeout pint s) := by
  simp only [finishDrain, h]
  exact ⟨_, finish_grows _ _, ((setPhase_acts ..).trans (traceSample_acts ..)).trans (stageEndReport_acts ..)⟩

/-- A drain that runs on writes the sample's store update, and one that ends the record of the pass (R47, R112). -/
theorem drainSample_measures {v : Live} (h : s.live l = some v) (r : Reading) (e : EndLatch) :
    Measured s (drainSample l r e s) l r ((v.ctx.counted r.dv).closed r v.ctx.lastPe) ∧
      Counted s (drainSample l r e s) v.ctx r.dv := by
  obtain ⟨w, hw⟩ := (countVolume_writes l r.dv _).exists_live ((afterReading_live l r.fault s).trans h)
  have hfree (n : Nat) : ({ countVolume l r.dv (afterReading l r.fault s) with freeCount := n } : State).live l =
      some w := hw
  unfold drainSample
  simp only [hfree]
  split
  · next timeout _ =>
    obtain ⟨g, hg, ht⟩ := finishDrain_steps (State.ctx_setLive_self ..) r _ timeout _
    exact counted_of_steps h (drainClose_writes hw r ..) (State.ctx_setLive_self ..) hg ht
  · rw [storeUpdate_eq (State.live_setLive_self ..)]
    exact counted_of_steps h (drainClose_writes hw r ..) (State.ctx_setLive_self ..) (update_grows _ _)
      (traceSample_acts ..)

/-- A sample in a counting state that reaches its close in `u`: the close writes the last values, the record of the stage and the
trace (R96), and the line acts to `t`. -/
theorem closeSample_measures {v : Live} {m : Sampled} {f : Context → Context} (h : s.live l = some v)
    (ht : Acts l (closeSample l m u) t) (hu : Writes l f (countVolume l m.reading.dv (afterReading l m.reading.fault s)) u)
    (hf : (f (v.ctx.counted m.reading.dv).measured).closed m.reading m.pe = d.measured)
    (hhole : d.hole = v.ctx.hole) (hstage : d.stage = v.ctx.stage) :
    Measured s t l m.reading d ∧ Counted s t v.ctx m.reading.dv := by
  obtain ⟨x, hx⟩ :=
    (countVolume_writes l m.reading.dv _).exists_live ((afterReading_live l m.reading.fault s).trans h)
  obtain ⟨w, hw⟩ := hu.exists_live hx
  rw [closeSample, modCtx_eq hw, storeUpdate_eq (State.live_setLive_self ..)] at ht
  have hclosed := hu.trans (setLive_writes hw (f := fun c => c.closed m.reading m.pe)
    (w := { w with ctx := { w.ctx with
      maxPe := max w.ctx.maxPe m.pe, lastPg := m.reading.pg, lastPe := m.pe, lastQ := m.reading.q } }))
  exact counted_of_steps h hclosed (State.ctx_setLive_self ..) (update_grows _ _) ((traceSample_acts ..).trans ht)
    hf hhole hstage

theorem handOffIf_acts (l : LineId) (b : Bool) (i : Instr) (s : State) :
    Acts l s (if b then s.handOff i else s) := by
  split
  · exact handOff_acts ..
  · exact .refl l s

theorem fillLatchIf_acts (l : LineId) (o : Option PassOutcome) (p : Phase) (d : Int) (s : State) :
    Acts l s (match o with | none => s | some o => fillLatch l o p d s) := by
  cases o with
  | none => exact .refl l s
  | some o => exact fillLatch_acts ..

theorem retake_writes (l : LineId) (s : State) : Writes l Context.retake s (s.modCtx l Context.retake) :=
  modCtx_writes _ _ _ fun _ => rfl

theorem aim_acts (l : LineId) (p : Phase) (interval cap : Nat) (s : State) :
    Acts l s (s.modCtx l fun c => c.aim p interval cap) := modCtx_acts ..

/-- A sample in a started state computes p_e on the counted context, and the take; its other steps up to the close are acts,
and so is what follows the close (R85). -/
theorem startedSample_measures {v : Live} (h : s.live l = some v) (p : Phase) (r : Reading) :
    Measured s (startedSample l p r s) l r ((v.ctx.counted r.dv).retake.closed r (s.pe v.ctx r.pg)) ∧
      Counted s (startedSample l p r s) v.ctx r.dv := by
  have hcount := countVolume_writes l r.dv (afterReading l r.fault s)
  have hsense := senseFault_acts l p r.fault (countVolume l r.dv (afterReading l r.fault s))
  have hmeasured := ((afterReading_measured h r).writes hcount (d := v.ctx.counted r.dv)).acts hsense
  obtain ⟨c, hc, hcd⟩ := hmeasured.exists_ctx
  have hpe := State.pe_congr (hsense.store.trans hcount.store) hcd r.pg
  unfold startedSample
  simp only [hc]
  refine closeSample_measures (f := Context.retake) h ((handOffIf_acts ..).trans (fillLatchIf_acts ..)) ?_ ?_ rfl rfl
  · refine (hsense.thenWrites (retake_writes ..)).thenActs ?_
    exact (((decaySite_acts ..).trans (aim_acts ..)).trans (testSample_acts ..)).trans (regulateSample_acts ..)
  · rw [hpe]; rfl

/-- What a sample leaves in every line state (R40): the values it measures, and the volume counted or discarded. -/
structure SampleLeaves (s t : State) (l : LineId) (v : Live) (r : Reading) : Prop where
  measured : Measured s t l r (v.sampled s r)
  counted : v.phase ≠ .bound ∧ v.phase ≠ .ended → Counted s t v.ctx r.dv
  discarded : ¬(v.phase ≠ .bound ∧ v.phase ≠ .ended) → t.store = s.store ∧ t.handoffs = s.handoffs

theorem SampleLeaves.of_displayed {v : Live} (hp : v.phase = .bound ∨ v.phase = .ended)
    (h : Measured s t l r (v.sampled s r) ∧ t.store = s.store ∧ t.handoffs = s.handoffs) : SampleLeaves s t l v r where
  measured := h.1
  counted := fun ⟨hb, he⟩ => (hp.elim hb he).elim
  discarded := fun _ => h.2

theorem SampleLeaves.of_counted {v : Live} (hp : v.phase ≠ .bound ∧ v.phase ≠ .ended)
    (h : Measured s t l r (v.sampled s r) ∧ Counted s t v.ctx r.dv) : SampleLeaves s t l v r where
  measured := h.1
  counted := fun _ => h.2
  discarded := fun hn => absurd hp hn

/-- Every sample, by the line's state (R40). -/
theorem evSample_leaves {v : Live} (h : s.live l = some v) (current : Nat) :
    SampleLeaves s (evSample l current s) l v (s.read l current v.ctx.lastPg) := by
  obtain ⟨p, x, e⟩ := v
  simp only [evSample, h]
  cases p with
  | bound => exact .of_displayed (.inl rfl) (displaySample_measures h _)
  | ended => exact .of_displayed (.inr rfl) (displaySample_measures h _)
  | drain => exact .of_counted ⟨nofun, nofun⟩ (drainSample_measures h _ _)
  | inject | relief | hold | starved | localPanel =>
    exact .of_counted ⟨nofun, nofun⟩ (startedSample_measures h _ _)

/-- The arbiter leaves what a sample has left. -/
theorem SampleLeaves.startFrame {v : Live} (h : SampleLeaves s t l v r) : SampleLeaves s (startFrame t) l v r where
  measured := h.measured.acts (startFrame_acts l t)
  counted := fun hp =>
    have ⟨hdrawn, hgrown⟩ := h.counted hp
    ⟨fun hdv => startFrame_handoffs t ▸ hdrawn hdv, hgrown.of_store_eq rfl (startFrame_store t)⟩
  discarded := fun hp =>
    have ⟨hstore, hhandoffs⟩ := h.discarded hp
    ⟨(startFrame_store t).trans hstore, (startFrame_handoffs t).trans hhandoffs⟩

theorem exec_sample {v : Live} (hgood : s.supply.failed = false) (h : s.live l = some v) (current : Nat) :
    ∃ t, exec (.sample l current) s = .next t ∧ SampleLeaves s t l v (s.read l current v.ctx.lastPg) :=
  ⟨_, takeEvent_good _ _ hgood, (evSample_leaves h current).startFrame⟩

/-! ### The fields of the context a sample leaves -/

section
variable {v : Live}

theorem sampled_lastPg : (v.sampled s r).lastPg = r.pg := by unfold Live.sampled; split <;> rfl

theorem sampled_lastQ : (v.sampled s r).lastQ = r.q := by unfold Live.sampled; split <;> rfl

theorem sampled_lastPe (hp : v.phase ≠ .drain) : (v.sampled s r).lastPe = s.pe v.ctx r.pg := by
  unfold Live.sampled
  split
  case h_3 hdrain => exact absurd hdrain hp
  all_goals rfl

theorem sampled_lastPe_drain (hp : v.phase = .drain) : (v.sampled s r).lastPe = v.ctx.lastPe := by
  simp only [Live.sampled, hp, Context.closed]

theorem sampled_vol (hp : v.phase ≠ .bound ∧ v.phase ≠ .ended) : (v.sampled s r).vol = v.ctx.vol + r.dv := by
  unfold Live.sampled
  split
  case h_1 hbound => exact absurd hbound hp.1
  case h_2 hended => exact absurd hended hp.2
  all_goals rfl

theorem sampled_vol_discarded (hp : ¬(v.phase ≠ .bound ∧ v.phase ≠ .ended)) : (v.sampled s r).vol = v.ctx.vol := by
  have hshown : v.phase = .bound ∨ v.phase = .ended := by tauto
  rcases hshown with hbound | hended
  · simp only [Live.sampled, hbound, Context.closed]
  · simp only [Live.sampled, hended, Context.closed]

theorem sampled_take (hp : v.phase.started = true) :
    (v.sampled s r).take = (v.sampled s r).vol / (10 * v.ctx.length) := by
  unfold Live.sampled
  split
  case h_1 h | h_2 h | h_3 h => rw [h] at hp; cases hp
  all_goals rfl

theorem sampled_take_kept (hp : v.phase.started = false) : (v.sampled s r).take = v.ctx.take := by
  unfold Live.sampled
  split
  case h_1 | h_2 | h_3 => rfl
  all_goals next h => rw [h] at hp; cases hp

end

/-- Settles O33: `exec_sample` gives the context a sample leaves by the line's state, and the laws of the conversion, the flow and
the heads give the values it writes there. -/
theorem sampleMeasures : Obligations.SampleMeasures := by
  intro s l v current m hgood hv hmix fe cfg inRng pg hg hw counting
  obtain ⟨t, hexec, hmeasured, hcounted, hdiscarded⟩ := exec_sample hgood hv current
  obtain ⟨x, hx, hxc⟩ := hmeasured.exists_ctx
  obtain ⟨v', hv', rfl⟩ := Option.map_eq_some_iff.1 hx
  have hpg : v'.ctx.lastPg = (s.read l current v.ctx.lastPg).pg := (measured_field Context.lastPg hxc).trans sampled_lastPg
  have hq : v'.ctx.lastQ = flow cfg.factor fe s.supply.now := (measured_field Context.lastQ hxc).trans sampled_lastQ
  have hpe := measured_field Context.lastPe hxc
  have hvol := measured_field Context.vol hxc
  have htake := measured_field Context.take hxc
  have hpgCast : ((s.read l current v.ctx.lastPg).pg : Int) = pg := samplePg_cast ..
  have hfault : (s.read l current v.ctx.lastPg).fault = decide ¬inRng := by
    rw [decide_not, ← Bool.decide_congr (loopInRange_iff current), Bool.decide_coe]; rfl
  refine ⟨t, v', hexec, hv', ?fe, hmeasured.sampleTimer, ?pg, ?pe, ?peDrain, ?qFew, ?qStale, ?q, ?counted, ?discarded,
    ?take, ?takeKept⟩
  case fe => rw [hmeasured.fe, hfault]
  case pg => rw [hpg, hpgCast]
  case pe => intro hp; rw [hpe, sampled_lastPe hp, State.pe_cast hmix, hpgCast]
  case peDrain => intro hp; rw [hpe, sampled_lastPe_drain hp]
  case qFew => intro hfew; rw [hq, flow_of_few _ _ hfew]
  case qStale => intro p hp hstale; rw [hq, flow_of_stale _ hp hstale]
  case q => intro p d hpulses hp hd hrecent; rw [hq, flow_of_recent _ hpulses hp hd hrecent]
  case counted =>
    intro hp
    obtain ⟨hdrawn, hgrown⟩ := hcounted hp
    exact ⟨hvol.trans (sampled_vol hp), hdrawn, hgrown⟩
  case discarded =>
    intro hp
    exact ⟨hvol.trans (sampled_vol_discarded hp), hdiscarded hp⟩
  case take => intro hp; rw [htake, sampled_take hp, hvol]
  case takeKept => intro hp; rw [htake, sampled_take_kept hp]

end

end Sys2Proof.Machine
end

section
/-! PROOFS. What a request and an event leave of the link, said once for every command: the reports an effect queues, the
answer of a request taken while the part listens, and the arbiter at the close. -/

namespace Sys2Proof.Machine

/-! ### Reports queued by an effect -/

/-- From `s` to `u` the link has changed in nothing but these reports, which wait behind those before. -/
def Queued (s u : State) (rs : List Report) : Prop := u.link = { s.link with reports := s.link.reports ++ rs }

theorem Queued.of_link {s u : State} (h : u.link = s.link) : Queued s u [] := by
  unfold Queued; rw [h, List.append_nil]

theorem Queued.refl (s : State) : Queued s s [] := .of_link rfl

/-- A report that finds room joins those queued before (R167). -/
theorem Queued.report {s u : State} {rs : List Report} (h : Queued s u rs) (r : Report)
    (room : s.link.reports.length + rs.length < Config.maxReports) : Queued s (u.report r) (rs ++ [r]) := by
  unfold Queued at h ⊢
  have hroom : u.link.reports.length < Config.maxReports := by rw [h]; simpa using room
  rw [State.report_room _ _ hroom, State.modLink_link, h]
  simp

/-- A step that leaves the link alone keeps what was queued. -/
theorem Queued.link_eq {s u w : State} {rs : List Report} (h : Queued s u rs) (hw : w.link = u.link) : Queued s w rs :=
  hw.trans h

theorem State.roomFor.lt {s : State} {n : Nat} (h : s.roomFor n) {m : Nat} (hm : m < n) :
    s.link.reports.length + m < Config.maxReports := by
  unfold State.roomFor at h; omega

theorem State.roomFor.mono {s : State} {n m : Nat} (h : s.roomFor n) (hm : m ≤ n) : s.roomFor m := by
  unfold State.roomFor at *; omega

/-! ### The arbiter at the close (R168) -/

section
variable {s : State}

theorem startFrame_answer {a : Answer} {rest : List Answer} (h : s.link.tx = none) (ha : s.link.answers = a :: rest) :
    startFrame s = { s with link := { s.link with tx := some (.answer a), answers := rest } } := by
  unfold startFrame; rw [h, ha]; rfl

theorem startFrame_report {r : Report} {rest : List Report} (h : s.link.tx = none) (ha : s.link.answers = [])
    (hr : s.link.reports = r :: rest) :
    startFrame s = { s with link := { s.link with tx := some (.report r), reports := rest } } := by
  unfold startFrame; rw [h, ha]; dsimp only; rw [hr]; rfl

theorem startFrame_idle (h : s.link.tx = none → s.link.answers = [] ∧ s.link.reports = []) : startFrame s = s := by
  unfold startFrame
  split
  · rfl
  · next htx => obtain ⟨ha, hr⟩ := h htx; rw [ha]; dsimp only; rw [hr]

end

/-! ### The close of an event -/

/-- An event whose effect has queued these reports. -/
theorem Queued.reported {s u : State} {rs : List Report} (h : Queued s u rs) : Reported s (startFrame u) rs where
  link := by
    obtain ⟨hframer, hgap, hstate, ht1, ht2, hsafe⟩ := startFrame_linkKept u
    rw [h] at hframer hgap hstate ht1 ht2 hsafe
    exact ⟨hframer, hgap, hstate, ht1, ht2, hsafe⟩
  answers := by rw [startFrame_answersOut]; simp only [State.answersOut]; rw [h]
  reports := by
    rw [startFrame_reportsOut]; simp only [State.reportsOut]; rw [h]; simp [List.append_assoc]
  missed := by rw [startFrame_missed, h]

/-- An event taken with the supply good: its effect, with the link the arbiter leaves. -/
theorem takeEvent_reported {f : State → State} {s : State} {rs : List Report} (good : s.supply.failed = false)
    (h : Queued s (f s) rs) :
    ∃ k, takeEvent f s = .next { f s with link := k } ∧ Reported s { f s with link := k } rs := by
  have ht := h.reported
  rw [startFrame_only_link] at ht
  exact ⟨_, by rw [takeEvent_good _ _ good, startFrame_only_link], ht⟩

/-! ### The close of a request -/

/-- A request taken while the part listens, whose block leaves `u` and replies `r`: the effect with the link that answer and
arbiter leave. -/
theorem takeRequest_next {kind tag : Byte} {f : State → State × Reply} {s u : State} {r : Reply} (h : s.Listening)
    (hf : f (reloadT1 s) = (u, r)) :
    ∃ k, takeEvent (takeRequest kind tag f) s = .next { u with link := k } ∧
      k = (startFrame (u.answer { kind := answerKind kind, tag := tag, reply := r })).link := by
  refine ⟨_, ?_, rfl⟩
  rw [takeRequest_listening _ _ _ _ h, hf]
  exact congrArg _ (startFrame_only_link _)

/-- The answer of a request stands behind those before it, and the link is otherwise kept but for T1 and the reports. -/
theorem answer_answeredBy {s u : State} {r : Reply} (kind tag : Byte)
    (hu : u.link = { (reloadT1 s).link with reports := u.link.reports, missed := u.link.missed }) :
    AnsweredBy s { u with link := (startFrame (u.answer { kind := kind, tag := tag, reply := r })).link } kind tag r.result
      r.body where
  link := by
    constructor <;> (dsimp only; rw [startFrame_eq]; dsimp only [State.answer_link]; rw [hu]; rfl)
  answers := by
    have h := startFrame_answersOut (u.answer { kind := kind, tag := tag, reply := r })
    rw [State.answer_answersOut] at h
    have hs : u.answersOut = s.answersOut := by unfold State.answersOut; rw [hu]; rfl
    rw [hs] at h
    exact h

theorem answer_reports (u : State) (a : Answer) :
    ({ u with link := (startFrame (u.answer a)).link } : State).reportsOut = u.reportsOut :=
  (startFrame_reportsOut (u.answer a)).trans (State.answer_reportsOut ..)

/-- A request whose effect keeps the link but for reports: it is answered. -/
theorem takeRequest_answeredBy {kind tag : Byte} {f : State → State × Reply} {s u : State} {r : Reply} (h : s.Listening)
    (hf : f (reloadT1 s) = (u, r))
    (hu : u.link = { (reloadT1 s).link with reports := u.link.reports, missed := u.link.missed }) :
    ∃ k, takeEvent (takeRequest kind tag f) s = .next { u with link := k } ∧
      AnsweredBy s { u with link := k } (answerKind kind) tag r.result r.body ∧
      ({ u with link := k } : State).reportsOut = u.reportsOut := by
  obtain ⟨k, hk, rfl⟩ := takeRequest_next (kind := kind) (tag := tag) h hf
  exact ⟨_, hk, answer_answeredBy _ _ hu, answer_reports ..⟩

/-- A request whose effect queues these reports: it is answered and they are queued. -/
theorem takeRequest_answered {kind tag : Byte} {f : State → State × Reply} {s u : State} {r : Reply} {rs : List Report}
    (h : s.Listening) (hf : f (reloadT1 s) = (u, r)) (hq : Queued (reloadT1 s) u rs) :
    ∃ k, takeEvent (takeRequest kind tag f) s = .next { u with link := k } ∧
      Answered s { u with link := k } (answerKind kind) tag r.result r.body rs := by
  have hu : u.link = { (reloadT1 s).link with reports := u.link.reports, missed := u.link.missed } := by rw [hq]
  obtain ⟨k, hk, rfl⟩ := takeRequest_next (kind := kind) (tag := tag) h hf
  refine ⟨_, hk, answer_answeredBy _ _ hu, ?_, ?_⟩
  · rw [answer_reports]; unfold State.reportsOut; rw [hq]; exact (List.append_assoc ..).symm
  · dsimp only; rw [startFrame_missed, State.answer_link, hq]; rfl

/-! ### Requests by their kind -/

/-- Every request is taken as its kind and tag say, by the block that handles it (R165). -/
theorem exec_request {i : Instr} {k : Byte} (h : requestKind i = some k) (s : State) :
    exec i s = takeEvent (takeRequest k (requestTag i) (handle i)) s := by
  cases i <;> cases h <;> rfl

section
variable {c : Instr} {s u : State} {k kind : Byte} {res : Result} {body : List Byte}

/-- A request that its block answers and that changes nothing else. -/
theorem AnswersOnly.of_handle {r : Reply} (h : s.Listening) (hk : requestKind c = some k) (hkind : kind = k + 0x80)
    (hf : handle c (reloadT1 s) = (reloadT1 s, r)) : AnswersOnly c s kind (requestTag c) r.result r.body := by
  subst hkind
  unfold AnswersOnly
  rw [exec_request hk]
  exact takeRequest_only_answers k _ _ s r h hf

/-- A request that its block refuses. -/
theorem AnswersOnly.denied (h : s.Listening) (hk : requestKind c = some k) (hkind : kind = k + 0x80)
    (hf : handle c (reloadT1 s) = deny (reloadT1 s) res) : AnswersOnly c s kind (requestTag c) res [] :=
  .of_handle (r := .bare res) h hk hkind hf

/-- A request that its block accepts without a change of state. -/
theorem AnswersOnly.accepted (h : s.Listening) (hk : requestKind c = some k) (hkind : kind = k + 0x80)
    (hf : handle c (reloadT1 s) = accept (reloadT1 s) body) : AnswersOnly c s kind (requestTag c) .ok body :=
  .of_handle (r := { result := .ok, body := body }) h hk hkind hf

/-- A request whose block leaves `u`, replies `r` and queues these reports. -/
theorem exec_answered {r : Reply} {rs : List Report} (h : s.Listening) (hk : requestKind c = some k)
    (hkind : kind = k + 0x80) (hf : handle c (reloadT1 s) = (u, r)) (hq : Queued (reloadT1 s) u rs) :
    ∃ k', exec c s = .next { u with link := k' } ∧
      Answered s { u with link := k' } kind (requestTag c) r.result r.body rs := by
  subst hkind
  rw [exec_request hk]
  exact takeRequest_answered h hf hq

/-- A request whose block accepts it, leaves `u` and queues no report. -/
theorem exec_accepted (h : s.Listening) (hk : requestKind c = some k) (hkind : kind = k + 0x80)
    (hf : handle c (reloadT1 s) = accept u body) (hu : u.link = (reloadT1 s).link := by rfl) :
    ∃ k', exec c s = .next { u with link := k' } ∧ Answered s { u with link := k' } kind (requestTag c) .ok body [] :=
  exec_answered (r := { result := .ok, body := body }) h hk hkind hf (.of_link hu)

end

end Sys2Proof.Machine
end

section
/-! PROOFS. One step, reset and power-on, the loss of supply, and the plan requests that write one record. -/

namespace Sys2Proof.Machine

/-! ### The step (log entry 2) -/

theorem State.ownEvent_handOff {s : State} {h : Instr} {hs : List Instr} (good : s.supply.failed = false)
    (hh : s.handoffs = h :: hs) : s.ownEvent = some h := by simp [State.ownEvent, good, hh]

theorem State.ownEvent_due {s : State} (good : s.supply.failed = false) (hh : s.handoffs = []) :
    s.ownEvent = s.dueExpiry := by simp [State.ownEvent, good, hh]

theorem step_command (s : State) (c : Instr) (rest : List Instr) (h : s.pending = c :: rest) :
    step s = exec c { s with pending := rest } := by unfold step; rw [h]

theorem step_ownEvent {s : State} {e : Instr} (h : s.pending = []) (he : s.ownEvent = some e) : step s = exec e s := by
  unfold step; rw [h]; dsimp only; rw [he]

theorem step_tick {s : State} (h : s.pending = []) (he : s.ownEvent = none) : step s = .next (tick s) := by
  unfold step; rw [h]; dsimp only; rw [he]

theorem tick_line {s : State} (good : s.supply.failed = false) (l : LineId) : (tick s).line l = (s.line l).countDown := by
  simp [tick, good, State.line]

/-- Settles O1: `step` by the first of its sources that has an event, and the tick line by line. -/
theorem stepTakesTheFrontCommand : Obligations.StepTakesTheFrontCommand := by
  intro s
  refine ⟨fun c rest => step_command _ c rest rfl, ?_, ?_, ?_, ?_⟩
  · intro h hs hp good hh
    exact step_ownEvent hp (State.ownEvent_handOff good hh)
  · intro e hp good hh he
    exact step_ownEvent hp ((State.ownEvent_due good hh).trans he)
  · intro hp good hh he
    refine ⟨tick s, step_tick hp ((State.ownEvent_due good hh).trans he), ?_, fun l => tick_line good l⟩
    simp only [tick, good]; rfl
  · intro hp failed
    have hnone : s.ownEvent = none := by simp [State.ownEvent, failed]
    rw [step_tick hp hnone]
    simp [tick, failed]

/-! ### Reset and power-on (R23, R156) -/

/-- Power-on finds an empty report queue and an idle transmitter: its SUPPLY report goes out at once (R168). -/
theorem exec_powerOn (low lost loop : Bool) (keys : LineSet) (s : State) :
    exec (.powerOn low lost loop keys) s = .next
      (let p := powerState (s.store.powered lost s.freeCount) low lost loop keys (s.freeCount + 1) s.pending
       { p with link := { p.link with
          tx := some (.report (.supply
            { uptime := 0, event := .powerOn, failed := false, batteryLow := low, loopOpen := loop, backupLost := lost,
              converted := if lost then 0 else s.store.countStatus .active
              restored := if lost then 0 else s.store.countStatus .bound
              drained := 0 })) } }) := by
  have hroom : ∀ p : State, p.link.reports = [] → p.link.reports.length < Config.maxReports := by
    intro p hp; rw [hp]; decide
  simp only [exec, execPowerOn, evPowerOn, supplyReport]
  rw [State.report_room _ _ (hroom _ rfl), startFrame_report rfl rfl rfl]
  simp [powerState, State.modLink, State.uptime]

/-- The lines of a part whose keys are all released. -/
theorem fresh_lines_released :
    (Vector.ofFn fun l : LineId => Line.fresh ((0 : LineSet).getLsbD l.val)) = Vector.replicate 6 (Line.fresh false) := by
  decide

/-- Settles O2: power-on with backup LOST over the empty store. -/
theorem resetIsFirstPowerOn : Obligations.ResetIsFirstPowerOn := by
  intro s
  rw [exec_powerOn]
  simp only [powerState, fresh_lines_released, Store.powered, State.reset, if_true]
  rfl

theorem reset_line (l : LineId) : State.reset.line l = Line.fresh false := by simp [State.line, State.reset]

theorem reset_live (l : LineId) : State.reset.live l = none := by rw [State.live, reset_line]; rfl

theorem reset_ctx (l : LineId) : State.reset.ctx l = none := by rw [State.ctx, reset_live]; rfl

theorem reset_tank (k : TankId) : State.reset.tank k = Tank.fresh := by simp [State.tank, State.reset]

/-- Every line is IDLE, every tank as at power-on, the plan is empty and the configuration at its defaults. -/
theorem resetStore_canonical : State.reset.store.canonical := by
  constructor <;> refine ⟨rfl, ?_⟩
  all_goals first | exact fun _ h => nomatch h | exact ⟨fun _ h => (nomatch h), by decide⟩ | exact ⟨by decide, fun _ h => nomatch h⟩

theorem resetStore_configValid : State.reset.store.configValid where
  lines := by unfold LineCfg.valid; decide
  tanks := by decide
  gauges := by decide
  zones := by unfold ZoneCfg.valid; decide
  link := by decide

/-- Settles O3: at reset no line holds anything, the tanks are empty and the store is at its defaults. -/
theorem resetSatisfiesInvariants : Obligations.ResetSatisfiesInvariants := by
  have idle : ∀ {l v}, State.reset.live l ≠ some v := fun {l v} h => by rw [reset_live] at h; cases h
  have noCtx : ∀ {l c}, State.reset.ctx l ≠ some c := fun {l c} h => by rw [reset_ctx] at h; cases h
  refine ⟨?balanced, ?unset, ⟨by decide, by decide, by decide⟩, ⟨?attached, ?once, ?owned⟩, ?demands, ?holds, ?stopped,
    ?guarded, ?planned, ?laws, resetStore_canonical, resetStore_configValid⟩
  case balanced => intro k; rw [reset_tank]; exact ⟨rfl, Nat.zero_le _⟩
  case unset => intro k _; rw [reset_tank]; rfl
  case attached => exact fun l c h => absurd h noCtx
  case once => intro k; rw [reset_tank]; exact List.nodup_nil
  case owned => intro k q h; rw [reset_tank] at h; cases h
  case demands => exact fun l v h => absurd h idle
  case holds => exact fun l v h => absurd h idle
  case stopped => intro _ l; simp [State.started, State.phase, reset_live]
  case guarded => exact fun l v z h => absurd h idle
  case planned => exact fun l c h => absurd h noCtx
  case laws => exact fun l k c d _ h => absurd h noCtx

/-! ### Power-on with backup GOOD (R23) -/

theorem Stage.powered_other (count key : Nat) {st : Stage} (hb : st.status ≠ .bound) (ha : st.status ≠ .active) :
    st.powered count key = st := by
  unfold Stage.powered
  split
  · next h => exact absurd h hb
  · next h => exact absurd h ha
  · rfl

theorem Stage.powered_bound (count key : Nat) {st : Stage} (hb : st.status = .bound) :
    st.powered count key = st.restored := by simp [Stage.powered, hb]

theorem Stage.powered_active (count key : Nat) {st : Stage} (ha : st.status = .active) :
    st.powered count key =
      { st with status := .opened, image := none,
                outcome := some (powerRecord (powerStep count key st.image) (st.image.getD RunningImage.zero)) } := by
  simp [Stage.powered, ha]

theorem Stage.restored_plain {st : Stage} {p : StageStatus} (h : st.prior = some { status := p, redo := none }) :
    st.restored = { st with status := p, prior := none } := by simp [Stage.restored, h]

theorem Stage.restored_redo {st : Stage} {p : StageStatus} {n vol : Nat}
    (h : st.prior = some { status := p, redo := some (n, vol) }) :
    st.restored = { st with status := p, pass := n, passVol := vol, prior := none } := by simp [Stage.restored, h]

theorem tfind_powered (p : Store) (count k : Nat) :
    tfind (p.powered false count).stages k = (tfind p.stages k).map (fun st => st.powered count k) :=
  tfind_map p.stages (fun k st => st.powered count k) k

/-- Settles O4: power-on as `exec_powerOn` gives it, and the conversion of a stage by its status. -/
theorem powerOnConvertsStages : Obligations.PowerOnConvertsStages := by
  intro s low loop keys
  refine ⟨_, exec_powerOn low false loop keys s, rfl, fun k => ?_, fun k st st' hst hst' => ?_⟩
  · exact (congrArg Option.isSome (tfind_powered s.store s.freeCount k)).trans (Option.isSome_map ..)
  · have hst' : tfind (s.store.powered false s.freeCount).stages k = some st' := hst'
    rw [tfind_powered, hst, Option.map_some, Option.some_inj] at hst'
    subst hst'
    refine ⟨fun hb ha => Stage.powered_other _ _ hb ha, ?_, ?_, ?_, ?_⟩
    · intro p hb hp
      rw [Stage.powered_bound _ _ hb, Stage.restored_plain hp]
    · intro p n vol hb hp
      rw [Stage.powered_bound _ _ hb, Stage.restored_redo hp]
    · intro x ha hx
      rw [Stage.powered_active _ _ ha, hx]; rfl
    · intro ha hx
      exact ⟨_, by rw [Stage.powered_active _ _ ha, hx]; rfl⟩

/-! ### The loss of supply (R155) -/

/-- While the supply is FAILED no command but POWER_ON has an effect. -/
theorem exec_failed {s : State} (h : s.supply.failed = true) (c : Instr)
    (hc : ∀ low lost loop keys, c ≠ .powerOn low lost loop keys) : exec c s = .next s := by
  cases c
  case powerOn low lost loop keys => exact absurd rfl (hc low lost loop keys)
  all_goals exact takeEvent_failed _ s h

theorem outputs_of_failed {s : State} (h : s.supply.failed = true) (l : LineId) :
    s.pump l = 0 ∧ s.bleed l = 1000 ∧ s.permit l = false := by simp [State.pump, State.bleed, State.permit, h]

/-- Settles O5: `loseSupply` as it stands, whose idle transmitter the arbiter leaves alone, and `exec_failed` after it. -/
theorem supplyFailureLosesAllButTheStore : Obligations.SupplyFailureLosesAllButTheStore := by
  intro s
  refine ⟨fun good => ⟨loseSupply s, ?_, rfl, fun l => outputs_of_failed rfl l⟩, fun failed c hc => exec_failed failed c hc⟩
  have hidle : startFrame (loseSupply s) = loseSupply s := startFrame_idle (fun _ => ⟨rfl, rfl⟩)
  exact (takeEvent_good loseSupply s good).trans (congrArg _ hidle)

end Sys2Proof.Machine
end

section
/-! PROOFS. The requests of the plan store that write one record: DEFHOLE, DEFSTAGE, DEFSEC, DEFMIX, LOCK and UNLOCK. -/

namespace Sys2Proof.Machine

/-- T1's reload writes the link alone. -/
theorem reloadT1_eq (s : State) :
    reloadT1 s = { s with link := { s.link with t1 := some (s.store.linkCfg.t1 * 1000) } } := rfl

/-- What a lookup finds after the record of a stage is changed. -/
theorem State.tfind_modStage (s : State) (hole stage n : Nat) (f : Stage → Stage) :
    tfind (s.modStage hole stage f).store.stages n =
      if n = stageKey hole stage then (tfind s.store.stages n).map f else tfind s.store.stages n := tfind_tmod ..

theorem flagOf_eq_none {n : Nat} (h : ¬(n = 0 ∨ n = 1)) : flagOf n = none := by
  unfold flagOf; split
  · exact absurd (.inl rfl) h
  · exact absurd (.inr rfl) h
  · rfl

/-! ### DEFHOLE (R5) -/

theorem Hole.differsFixed_iff (x y : Hole) :
    x.differsFixed y = true ↔
      ¬(x.sec = y.sec ∧ x.order = y.order ∧ x.collar = y.collar ∧ x.dfltSet = y.dfltSet ∧
        x.groundwater = y.groundwater) := by
  simp only [Hole.differsFixed, Bool.not_eq_true', Bool.eq_false_iff, ne_eq, Bool.and_eq_true, beq_iff_eq, and_assoc]

section
variable {s : State} {hole : Nat} {h old : Hole}

theorem storeHole_unplanned (hs : (tfind s.store.secs h.sec).isSome = false) : storeHole hole h s = deny s .notPlanned := by
  have hnone : (tfind s.store.secs h.sec).isNone = true := by simpa using hs
  simp [storeHole, hnone]

theorem storeHole_new (hs : (tfind s.store.secs h.sec).isSome = true) (hn : tfind s.store.holes hole = none) :
    storeHole hole h s =
      if Config.maxHoles ≤ s.store.holes.length then deny s .full
      else accept (s.modStore (fun p => { p with holes := tput p.holes hole h })) [] := by
  have hsome : (tfind s.store.secs h.sec).isNone = false := by simpa [Option.isSome_iff_ne_none] using hs
  simp [storeHole, hsome, hn]

theorem storeHole_old (hs : (tfind s.store.secs h.sec).isSome = true) (ho : tfind s.store.holes hole = some old) :
    storeHole hole h s =
      if (s.boundOn hole).isSome then deny s .inUse
      else if s.hasHistory hole && old.differsFixed h then deny s .protectd
      else accept (s.modStore (fun p => { p with holes := tput p.holes hole h })) [] := by
  have hsome : (tfind s.store.secs h.sec).isNone = false := by simpa [Option.isSome_iff_ne_none] using hs
  simp [storeHole, hsome, ho]

end

/-- Settles O10: the checks of `storeHole` in their order, and the lookup after the record is put. -/
theorem defholeWritesTheRecord : Obligations.DefholeWritesTheRecord := by
  intro s tag hole sec order collar ns dflt zones gw locked lk hl c h old ranged planned protects
  have hreq : ranged → handle c (reloadT1 s) = storeHole hole h (reloadT1 s) := by
    intro ⟨hr, hlk⟩
    show reqDefhole hole sec order collar ns dflt zones gw locked (reloadT1 s) = _
    simp only [reqDefhole, hr, hlk]; rfl
  have hwrite : handle c (reloadT1 s) =
        accept ((reloadT1 s).modStore (fun p => { p with holes := tput p.holes hole h })) [] →
      ∃ t, exec c s = .next t ∧ Answered s t 0x82 tag .ok [] [] ∧
        t = { s with store := { s.store with holes := t.store.holes }, link := t.link } ∧
        ∀ n, tfind t.store.holes n = if n = hole then some h else tfind s.store.holes n := by
    intro hf
    obtain ⟨k, hexec, hans⟩ := exec_accepted (kind := 0x82) hl rfl rfl hf
    exact ⟨_, hexec, hans, rfl, fun n => tfind_tput ..⟩
  refine ⟨?range, ?unplanned, ?inUse, ?protectd, ?full, ?write⟩
  case range =>
    intro hbad
    refine .denied hl rfl rfl ?_
    show reqDefhole hole sec order collar ns dflt zones gw locked (reloadT1 s) = _
    by_cases hr : holeInRange hole sec order collar ns dflt zones gw = true
    · have hflag := flagOf_eq_none (fun h => hbad ⟨hr, h⟩)
      simp only [reqDefhole, hr, hflag]
    · simp only [reqDefhole, hr]
  case unplanned =>
    intro hr hp
    exact .denied hl rfl rfl ((hreq hr).trans (storeHole_unplanned (s := reloadT1 s) (Bool.eq_false_iff.2 hp)))
  case inUse =>
    intro hr hp ho hb
    obtain ⟨o, ho⟩ := Option.isSome_iff_exists.1 ho
    exact .denied hl rfl rfl ((hreq hr).trans ((storeHole_old (s := reloadT1 s) (h := h) hp ho).trans (if_pos hb)))
  case protectd =>
    intro hr hp hb ⟨o, ho, hh, hd⟩
    refine .denied hl rfl rfl ((hreq hr).trans ((storeHole_old (s := reloadT1 s) (h := h) hp ho).trans ?_))
    have hb' : (reloadT1 s).boundOn hole = none := hb
    have hh' : (reloadT1 s).hasHistory hole = true := hh
    simp [hb', hh', (Hole.differsFixed_iff o h).2 hd]
  case full =>
    intro hr hp ho hfull
    exact .denied hl rfl rfl ((hreq hr).trans ((storeHole_new (s := reloadT1 s) (h := h) hp ho).trans (if_pos hfull)))
  case write =>
    rintro hr hp (⟨ho, hb, hd⟩ | ⟨ho, hroom⟩)
    · obtain ⟨o, ho⟩ := Option.isSome_iff_exists.1 ho
      refine hwrite ((hreq hr).trans ((storeHole_old (s := reloadT1 s) (h := h) hp ho).trans ?_))
      have hb' : (reloadT1 s).boundOn hole = none := hb
      have hkeeps : ((reloadT1 s).hasHistory hole && o.differsFixed h) = false := by
        rw [Bool.and_eq_false_iff, or_iff_not_imp_left, Bool.not_eq_false, Bool.eq_false_iff]
        exact fun hh hdiff => hd ⟨o, ho, hh, (Hole.differsFixed_iff o h).1 hdiff⟩
      simp [hb', hkeeps]
    · exact hwrite ((hreq hr).trans ((storeHole_new (s := reloadT1 s) (h := h) hp ho).trans (if_neg (Nat.not_le.2 hroom))))

/-! ### DEFSTAGE (R10) -/

section
variable {s : State} {hole stage top bottom length set : Nat} {old : Stage}

theorem State.overlapsStage_iff :
    s.overlapsStage hole stage top bottom = true ↔
      ∃ p ∈ s.stagesOf hole, p.1 ≠ stage ∧ p.2.top < bottom ∧ top < p.2.bottom := by
  simp [State.overlapsStage, and_assoc]

theorem reqDefstage_ready (hr : stageInRange hole stage top bottom length set = true)
    (hh : (tfind s.store.holes hole).isSome = true) (hb : s.boundOn hole = none) :
    reqDefstage hole stage top bottom length set s =
      match s.stageRec hole stage with
      | some old =>
        if old.status ≠ .planned then deny s .protectd
        else if s.overlapsStage hole stage top bottom then deny s .range
        else
          accept (s.modStage hole stage
            (fun st => { st with top := top, bottom := bottom, length := length, limitSet := refOf set })) []
      | none =>
        if s.overlapsStage hole stage top bottom then deny s .range
        else if Config.maxStages ≤ s.store.stages.length then deny s .full
        else
          accept (s.modStore (fun p =>
            { p with stages := tput p.stages (stageKey hole stage) (Stage.fresh top bottom length (refOf set)) })) [] := by
  have hsome : (tfind s.store.holes hole).isNone = false := by simpa [Option.isSome_iff_ne_none] using hh
  simp only [reqDefstage, hr, hsome, hb]
  rfl

end

/-- Settles O11: the checks of DEFSTAGE in their order, and the lookup after a stage is created or changed. -/
theorem defstageWritesFixedFields : Obligations.DefstageWritesFixedFields := by
  intro s tag hole stage top bottom length set hl c ref ready overlaps
  have hreq : handle c (reloadT1 s) = reqDefstage hole stage top bottom length set (reloadT1 s) := rfl
  have hready : ready → _ := fun ⟨hr, hh, hb⟩ => hreq.trans (reqDefstage_ready (s := reloadT1 s) hr hh hb)
  have hover : overlaps ↔ (reloadT1 s).overlapsStage hole stage top bottom = true :=
    (State.overlapsStage_iff (s := s)).symm
  have hrec : (reloadT1 s).stageRec hole stage = s.stageRec hole stage := rfl
  rw [hrec] at hready
  refine ⟨?range, ?unplanned, ?inUse, ?protectd, ?overlap, ?full, ?write⟩
  case range =>
    intro hr
    exact .denied hl rfl rfl (hreq.trans (by simp [reqDefstage, hr]))
  case unplanned =>
    intro hr hh
    have hnone : (tfind (reloadT1 s).store.holes hole).isNone = true := by rw [Option.isNone_iff_eq_none]; exact hh
    exact .denied hl rfl rfl (hreq.trans (by simp [reqDefstage, hr, hnone]))
  case inUse =>
    intro hr hh hb
    have hsome : (tfind (reloadT1 s).store.holes hole).isNone = false := by
      rw [Option.isNone_eq_false_iff]; exact hh
    have hb' : ((reloadT1 s).boundOn hole).isSome = true := hb
    exact .denied hl rfl rfl (hreq.trans (by simp [reqDefstage, hr, hsome, hb']))
  case protectd =>
    intro old hrd ho hp
    refine .denied hl rfl rfl ((hready hrd).trans ?_)
    rw [ho]; exact if_pos hp
  case overlap =>
    intro hrd hp ho
    refine .denied hl rfl rfl ((hready hrd).trans ?_)
    cases hs : s.stageRec hole stage with
    | none => exact if_pos (hover.1 ho)
    | some old => exact (if_neg (not_not.2 (hp old hs))).trans (if_pos (hover.1 ho))
  case full =>
    intro hrd hs ho hfull
    refine .denied hl rfl rfl ((hready hrd).trans ?_)
    rw [hs]; exact (if_neg (mt hover.2 ho)).trans (if_pos hfull)
  case write =>
    intro st' hrd ho hnew hold
    cases hs : s.stageRec hole stage with
    | none =>
      obtain ⟨hroom, rfl⟩ := hnew hs
      have hf := hready hrd
      rw [hs] at hf
      obtain ⟨k, hexec, hans⟩ := exec_accepted (kind := 0x83) hl rfl rfl
        (hf.trans ((if_neg (mt hover.2 ho)).trans (if_neg (Nat.not_le.2 hroom))))
      exact ⟨_, hexec, hans, rfl, fun n => tfind_tput ..⟩
    | some old =>
      obtain ⟨hp, rfl⟩ := hold old hs
      have hf := hready hrd
      rw [hs] at hf
      obtain ⟨k, hexec, hans⟩ := exec_accepted (kind := 0x83) hl rfl rfl
        (hf.trans ((if_neg (not_not.2 hp)).trans (if_neg (mt hover.2 ho))))
      refine ⟨_, hexec, hans, rfl, fun n => ?_⟩
      have hfound : tfind (reloadT1 s).store.stages (stageKey hole stage) = some old := hs
      refine (State.tfind_modStage (reloadT1 s) hole stage n _).trans ?_
      split
      · next hn => subst hn; rw [hfound]; rfl
      · rfl

/-! ### DEFSEC and DEFMIX (R2, R17) -/

theorem State.mixHeld_iff (s : State) (mix : Nat) :
    s.mixHeld mix = true ↔
      (∃ t : TankId, (s.tank t).mix = some mix) ∨ (∃ l x, s.ctx l = some x ∧ x.mix = mix) := by
  have htank : allTanks.any (fun t => (s.tank t).mix == some mix) = true ↔ ∃ t : TankId, (s.tank t).mix = some mix := by
    simp [allTanks, Fin.exists_fin_two]
  have hline : allLines.any (fun l => (s.ctx l).any (fun c => c.mix == mix)) = true ↔
      ∃ l x, s.ctx l = some x ∧ x.mix = mix := by
    simp only [List.any_eq_true, Option.any_eq_true, beq_iff_eq]
    exact ⟨fun ⟨l, _, h⟩ => ⟨l, h⟩, fun ⟨l, h⟩ => ⟨l, by fin_cases l <;> decide, h⟩⟩
  rw [State.mixHeld, Bool.or_eq_true, htank, hline]

/-- Settles O14: DEFSEC and DEFMIX put one record, or are refused. -/
theorem defsecAndDefmixWriteTheRecord : Obligations.DefsecAndDefmixWriteTheRecord := by
  intro s tag hl
  refine ⟨fun sec => ⟨fun hr => .denied hl rfl rfl ?_, fun hr => ?_⟩, fun mix ratio density => ?_⟩
  · show reqDefsec sec (reloadT1 s) = _
    simp [reqDefsec, hr]
  · have hreq : handle (.defsec tag sec) (reloadT1 s) =
        if (tfind s.store.secs sec).isSome then accept (reloadT1 s) []
        else accept ((reloadT1 s).modStore (fun p => { p with secs := tput p.secs sec { locked := false } })) [] := by
      show reqDefsec sec (reloadT1 s) = _
      simp [reqDefsec, hr]; rfl
    cases hs : tfind s.store.secs sec with
    | some x =>
      rw [hs] at hreq
      obtain ⟨k, hexec, hans⟩ := exec_accepted (kind := 0x81) hl rfl rfl hreq
      exact ⟨_, hexec, hans, rfl, fun _ => rfl, fun n => (if_neg fun h => nomatch h.2).symm⟩
    | none =>
      rw [hs] at hreq
      obtain ⟨k, hexec, hans⟩ := exec_accepted (kind := 0x81) hl rfl rfl hreq
      refine ⟨_, hexec, hans, rfl, fun h => by simp at h, fun n => ?_⟩
      show tfind (tput s.store.secs sec { locked := false }) n = _
      rw [tfind_tput]
      simp
  · intro c ranged held
    have hheld : held ↔ (reloadT1 s).mixHeld mix = true := (s.mixHeld_iff mix).symm
    have hreq : ranged → handle c (reloadT1 s) =
        if (tfind s.store.mixes mix).isSome && (reloadT1 s).mixHeld mix then deny (reloadT1 s) .inUse
        else accept ((reloadT1 s).modStore
          (fun p => { p with mixes := tput p.mixes mix { ratio := ratio, density := density } })) [] := by
      intro ⟨hm, hr, hd⟩
      show reqDefmix mix ratio density (reloadT1 s) = _
      simp only [reqDefmix, hm, hr, hd]; rfl
    refine ⟨fun hbad => .denied hl rfl rfl ?_, fun hr hp hh => .denied hl rfl rfl ?_, fun hr hfree => ?_⟩
    · show reqDefmix mix ratio density (reloadT1 s) = _
      have hbad' : (inRange 1 8 mix && inRange 40 500 ratio && inRange 1100 2200 density) = false := by
        rw [Bool.eq_false_iff]; exact fun h => hbad (by simpa only [Bool.and_eq_true, and_assoc] using h)
      simp [reqDefmix, hbad']
    · exact (hreq hr).trans (if_pos (by rw [hp, hheld.1 hh]; rfl))
    · have hnot : ((tfind s.store.mixes mix).isSome && (reloadT1 s).mixHeld mix) = false := by
        rcases hfree with hn | hn
        · rw [hn]; rfl
        · rw [Bool.eq_false_iff.2 (mt hheld.2 hn), Bool.and_false]
      obtain ⟨k, hexec, hans⟩ := exec_accepted (kind := 0x86) hl rfl rfl
        ((hreq hr).trans (if_neg (by rw [hnot]; decide)))
      exact ⟨_, hexec, hans, rfl, fun n => tfind_tput ..⟩

/-! ### LOCK and UNLOCK (R18) -/

section
variable {s : State} {c : Instr} {k kind : Byte} {number : Nat} {lk : Bool}

theorem locks_section (hl : s.Listening) (hk : requestKind c = some k) (hkind : kind = k + 0x80)
    (hc : handle c (reloadT1 s) = setLock 1 number lk (reloadT1 s)) :
    (inRange 1 8 number = false → AnswersOnly c s kind (requestTag c) .range []) ∧
    (inRange 1 8 number = true → tfind s.store.secs number = none →
      AnswersOnly c s kind (requestTag c) .notPlanned []) ∧
    (inRange 1 8 number = true → (tfind s.store.secs number).isSome = true →
      ∃ t, exec c s = .next t ∧ Answered s t kind (requestTag c) .ok [] [] ∧
        t = { s with store := { s.store with secs := t.store.secs }, link := t.link } ∧
        ∀ n, tfind t.store.secs n = if n = number then some { locked := lk } else tfind s.store.secs n) := by
  refine ⟨fun hr => ?_, fun hr hn => ?_, fun hr hs => ?_⟩
  · exact .denied hl hk hkind (hc.trans (by simp [setLock, hr]))
  · have hn' : tfind (reloadT1 s).store.secs number = none := hn
    exact .denied hl hk hkind (hc.trans (by simp [setLock, hr, hn']))
  · obtain ⟨x, hx⟩ := Option.isSome_iff_exists.1 hs
    have hx' : tfind (reloadT1 s).store.secs number = some x := hx
    have hf : setLock 1 number lk (reloadT1 s) =
        accept ((reloadT1 s).modStore (fun p => { p with secs := tput p.secs number { locked := lk } })) [] := by
      simp [setLock, hr, hx']
    obtain ⟨k', hexec, hans⟩ := exec_accepted hl hk hkind (hc.trans hf)
    exact ⟨_, hexec, hans, rfl, fun n => tfind_tput ..⟩

theorem locks_hole (hl : s.Listening) (hk : requestKind c = some k) (hkind : kind = k + 0x80)
    (hc : handle c (reloadT1 s) = setLock 2 number lk (reloadT1 s)) :
    (inRange 1 9999 number = false → AnswersOnly c s kind (requestTag c) .range []) ∧
    (inRange 1 9999 number = true → tfind s.store.holes number = none →
      AnswersOnly c s kind (requestTag c) .notPlanned []) ∧
    (∀ h, inRange 1 9999 number = true → tfind s.store.holes number = some h →
      ∃ t, exec c s = .next t ∧ Answered s t kind (requestTag c) .ok [] [] ∧
        t = { s with store := { s.store with holes := t.store.holes }, link := t.link } ∧
        ∀ n, tfind t.store.holes n = if n = number then some { h with locked := lk } else tfind s.store.holes n) := by
  refine ⟨fun hr => ?_, fun hr hn => ?_, fun h hr hs => ?_⟩
  · exact .denied hl hk hkind (hc.trans (by simp [setLock, hr]))
  · have hn' : tfind (reloadT1 s).store.holes number = none := hn
    exact .denied hl hk hkind (hc.trans (by simp [setLock, hr, hn']))
  · have hs' : tfind (reloadT1 s).store.holes number = some h := hs
    have hf : setLock 2 number lk (reloadT1 s) =
        accept ((reloadT1 s).modStore
          (fun p => { p with holes := tmod p.holes number (fun h => { h with locked := lk }) })) [] := by
      simp [setLock, hr, hs']
    obtain ⟨k', hexec, hans⟩ := exec_accepted hl hk hkind (hc.trans hf)
    refine ⟨_, hexec, hans, rfl, fun n => ?_⟩
    show tfind (tmod s.store.holes number (fun h => { h with locked := lk })) n = _
    rw [tfind_tmod]
    split
    · next hn => subst hn; rw [hs]; rfl
    · rfl

end

theorem setLock_other {kind : Nat} (h1 : kind ≠ 1) (h2 : kind ≠ 2) (number : Nat) (lk : Bool) (s : State) :
    setLock kind number lk s = deny s .range := by
  unfold setLock; split
  · exact absurd rfl h1
  · exact absurd rfl h2
  · rfl

/-- Settles O15: both requests are `setLock`, by the kind of their target. -/
theorem lockAndUnlockWriteTheFlag : Obligations.LockAndUnlockWriteTheFlag := by
  intro s tag number hl
  refine ⟨?_, ?_, fun k h1 h2 => ⟨?_, ?_⟩⟩
  · intro c kind hm
    simp only [List.mem_cons, Prod.mk.injEq, List.not_mem_nil, or_false] at hm
    rcases hm with ⟨rfl, rfl⟩ | ⟨rfl, rfl⟩
    · exact locks_section (lk := true) hl rfl rfl rfl
    · exact locks_section (lk := false) hl rfl rfl rfl
  · intro c kind hm
    simp only [List.mem_cons, Prod.mk.injEq, List.not_mem_nil, or_false] at hm
    rcases hm with ⟨rfl, rfl⟩ | ⟨rfl, rfl⟩
    · exact locks_hole (lk := true) hl rfl rfl rfl
    · exact locks_hole (lk := false) hl rfl rfl rfl
  · exact .denied hl rfl rfl (setLock_other h1 h2 number true _)
  · exact .denied hl rfl rfl (setLock_other h1 h2 number false _)

end Sys2Proof.Machine
end

section
/-! PROOFS. The plan requests that write into live contexts, the removal of holes, and the plan queries. -/

namespace Sys2Proof.Machine

/-! ### One change written into every context (R33) -/

theorem mem_allLines (l : LineId) : l ∈ allLines := by fin_cases l <;> decide

theorem allLines_nodup : allLines.Nodup := by decide

/-- A line whose context has been changed by `f`, where it has one. -/
def Line.mapCtx (x : Line) (f : Context → Context) : Line :=
  { x with live := x.live.map (fun v => { v with ctx := f v.ctx }) }

theorem Line.mapCtx_id {x : Line} {f : Context → Context} (h : ∀ v, x.live = some v → f v.ctx = v.ctx) : x.mapCtx f = x := by
  obtain ⟨live, _⟩ := x
  cases live with
  | none => rfl
  | some v => simp only [Line.mapCtx, Option.map_some, h v rfl]

theorem State.line_modCtx (s : State) (l k : LineId) (f : Context → Context) :
    (s.modCtx l f).line k = if l = k then (s.line k).mapCtx f else s.line k := by
  cases h : s.live l with
  | none =>
    have hsame : s.modCtx l f = s := by simp [State.modCtx, h]
    rw [hsame]
    split
    · next hk => subst hk; exact (Line.mapCtx_id fun v hv => by rw [State.live, hv] at h; cases h).symm
    · rfl
  | some v =>
    rw [modCtx_eq h, State.setLive, State.line_setLine]
    split
    · next hk =>
      subst hk
      have hlive : (s.line l).live = some v := h
      rw [Line.mapCtx, hlive]; rfl
    · rfl

theorem modCtx_writes_lines (s : State) (l : LineId) (f : Context → Context) :
    s.modCtx l f = { s with lines := (s.modCtx l f).lines } := by
  unfold State.modCtx; split <;> rfl

/-- The same change of several contexts writes the lines alone. -/
theorem foldl_modCtx_lines (f : Context → Context) (ls : List LineId) (s : State) :
    ls.foldl (fun s l => s.modCtx l f) s = { s with lines := (ls.foldl (fun s l => s.modCtx l f) s).lines } := by
  induction ls generalizing s with
  | nil => rfl
  | cons l rest ih => rw [List.foldl_cons, ih, modCtx_writes_lines s l f]

/-- Each line of the list has its context changed once. -/
theorem foldl_modCtx_line (f : Context → Context) {ls : List LineId} (h : ls.Nodup) (s : State) (k : LineId) :
    (ls.foldl (fun s l => s.modCtx l f) s).line k = if k ∈ ls then (s.line k).mapCtx f else s.line k := by
  induction ls generalizing s with
  | nil => simp
  | cons l rest ih =>
    obtain ⟨hl, hrest⟩ := List.nodup_cons.1 h
    rw [List.foldl_cons, ih hrest, State.line_modCtx]
    by_cases hk : l = k
    · subst hk; simp [hl]
    · simp [hk, Ne.symm hk]

/-- A change of every context: it writes the lines, each as `Line.mapCtx` says. -/
theorem allLines_modCtx (f : Context → Context) (s : State) :
    ∃ lines : Vector Line 6, allLines.foldl (fun s l => s.modCtx l f) s = { s with lines := lines } ∧
      ∀ l : LineId, lines[l] = (s.line l).mapCtx f :=
  ⟨_, foldl_modCtx_lines f allLines s, fun l =>
    (foldl_modCtx_line f allLines_nodup s l).trans (if_pos (mem_allLines l))⟩

/-- Two sets of lines that agree line by line travel as the same mask. -/
theorem lineMask_congr {p q : LineId → Bool} (h : ∀ l, p l = q l) : lineMask p = lineMask q := by rw [funext h]

/-! ### DEFLIM (R13, R14) -/

theorem pushed_of_not_lower {old new held : Nat} (h : ¬ new < old) : pushed old new held = held := if_neg h

/-- Where no protected value is lowered, a push writes nothing (R14). -/
theorem Limits.push_of_not_lowers {old new : Limits} (h : old.lowers new = false) (held : Limits) :
    old.push new held = held := by
  simp only [Limits.lowers, Limits.loosens, Bool.or_eq_false_iff, decide_eq_false_iff_not] at h
  obtain ⟨⟨⟨⟨⟨hpmax, hgin⟩, htmax⟩, hover⟩, hrelief⟩, hramp⟩ := h
  simp only [Limits.push, pushed_of_not_lower hpmax, pushed_of_not_lower hgin, pushed_of_not_lower htmax,
    pushed_of_not_lower hover, pushed_of_not_lower hrelief, pushed_of_not_lower hramp]

/-- The change that the push of a limit set makes of a context. -/
def Context.pushed (set : Nat) (old new : Limits) (c : Context) : Context :=
  { c with limits := if c.setNo = set then old.push new c.limits else c.limits }

theorem pushLimits_eq (set : Nat) (old new : Limits) (s : State) :
    pushLimits set old new s = allLines.foldl (fun s l => s.modCtx l (Context.pushed set old new)) s := by
  have h : (fun c : Context => if c.setNo = set then { c with limits := old.push new c.limits } else c) =
      Context.pushed set old new := by
    funext c; unfold Context.pushed; split <;> rfl
  unfold pushLimits; rw [h]

/-- Settles O12: the checks of DEFLIM in their order; the push as one change of every context. -/
theorem deflimPushesLoweredLimits : Obligations.DeflimPushesLoweredLimits := by
  intro s tag set new steps hl c ladder formed mixed frame
  have hmixed : mixed ↔ ladder.all (fun x => (tfind (reloadT1 s).store.mixes x.mix).isSome) = true := by
    rw [List.all_eq_true]; rfl
  have hreq : formed → handle c (reloadT1 s) = storeLimits set new ladder (reloadT1 s) := by
    intro ⟨hset, hnew, hladder⟩
    show reqDeflim .. = _
    simp only [reqDeflim, hset, hnew, hladder, ladder]; rfl
  have hsets (n : Nat) : tfind (reloadT1 s).store.sets n = tfind s.store.sets n := rfl
  refine ⟨?range, ?unplanned, ?protectd, ?unused, ?used⟩
  case range =>
    intro hbad
    refine .denied hl rfl rfl ?_
    show reqDeflim .. = _
    have hbad' : (inRange 1 24 set && new.inRange && ladderWellFormed (ladderOf steps)) = false := by
      rw [Bool.eq_false_iff]; exact fun h => hbad (by simpa only [Bool.and_eq_true, and_assoc] using h)
    simp only [reqDeflim, hbad', Bool.false_eq_true, if_false]
  case unplanned =>
    intro hf hm
    have hm' := Bool.eq_false_iff.2 (mt hmixed.2 hm)
    exact .denied hl rfl rfl ((hreq hf).trans (by simp only [storeLimits, hm']; rfl))
  case protectd =>
    intro old hf hm ho hu hloose
    exact .denied hl rfl rfl ((hreq hf).trans (by simp only [storeLimits, hmixed.1 hm, hsets, ho, hu, hloose]; rfl))
  case unused =>
    intro hf hm ho
    have hwrite : storeLimits set new ladder (reloadT1 s) = accept ((reloadT1 s).modStore fun p =>
        { p with sets := tput p.sets set { limits := new, ladder := ladder, used := false } }) [0] := by
      cases hfind : tfind s.store.sets set with
      | none => simp only [storeLimits, hmixed.1 hm, hsets, hfind]; rfl
      | some old =>
        have hu : old.used = false := by simpa [hfind] using ho
        simp only [storeLimits, hmixed.1 hm, hsets, hfind, hu]; rfl
    obtain ⟨k, hexec, hans⟩ := exec_accepted (kind := 0x84) hl rfl rfl ((hreq hf).trans hwrite)
    exact ⟨_, hexec, hans, ⟨rfl, fun n => tfind_tput ..⟩, rfl⟩
  case used =>
    intro old hf hm ho hu htight
    let s' := (reloadT1 s).modStore (fun p =>
      { p with sets := tput p.sets set { limits := new, ladder := ladder, used := true } })
    cases hlow : old.limits.lowers new with
    | false =>
      have hwrite : storeLimits set new ladder (reloadT1 s) = accept s' (u8 0) := by
        simp only [storeLimits, hmixed.1 hm, hsets, ho, hu, htight, hlow]; rfl
      obtain ⟨k, hexec, hans⟩ := exec_accepted (kind := 0x84) hl rfl rfl ((hreq hf).trans hwrite)
      refine ⟨_, hexec, ⟨rfl, fun n => tfind_tput ..⟩, hans, fun l => ?_⟩
      refine (Line.mapCtx_id (x := s.line l) (f := Context.pushed set old.limits new) fun v _ => ?_).symm
      unfold Context.pushed; rw [Limits.push_of_not_lowers hlow, ite_self]
    | true =>
      have hwrite : storeLimits set new ladder (reloadT1 s) =
          accept (pushLimits set old.limits new s') (u8 (lineMask (s.drawsOn set)).toNat) := by
        simp only [storeLimits, hmixed.1 hm, hsets, ho, hu, htight, hlow]; rfl
      obtain ⟨lines, hfold, hlines⟩ := allLines_modCtx (Context.pushed set old.limits new) s'
      rw [pushLimits_eq, hfold] at hwrite
      obtain ⟨k, hexec, hans⟩ := exec_accepted (kind := 0x84) hl rfl rfl ((hreq hf).trans hwrite)
      exact ⟨_, hexec, ⟨rfl, fun n => tfind_tput ..⟩, hans, hlines⟩

/-! ### DEFBAND (R16) -/

/-- The band cap a context holds after a push of the caps now planned (R16). -/
def Context.recapped (now : Context → Option Nat) (c : Context) : Context :=
  if capApplies (now c) c.bandCap then { c with bandCap := now c } else c

/-- The cap held after a cap now planned was pushed: the smaller of them, where one is planned (R16). -/
def lowerCap : Option Nat → Option Nat → Option Nat
  | some x, none => some x
  | some x, some y => some (min x y)
  | none, held => held

theorem Context.recapped_eq (now : Context → Option Nat) (c : Context) :
    c.recapped now = { c with bandCap := lowerCap (now c) c.bandCap } := by
  obtain ⟨held, hheld⟩ : ∃ held, c.bandCap = held := ⟨_, rfl⟩
  unfold Context.recapped capApplies lowerCap
  rw [hheld]
  cases hn : now c with
  | none => simp [← hheld]
  | some x =>
    cases held with
    | none => simp
    | some y =>
      by_cases hxy : x < y
      · simp [hxy, min_eq_left hxy.le]
      · simp [hxy, min_eq_right (not_lt.1 hxy), ← hheld]

theorem Context.recapped_ne_iff (now : Context → Option Nat) (c : Context) :
    c.recapped now ≠ c ↔ capApplies (now c) c.bandCap = true := by
  constructor
  · intro h
    by_contra hc
    exact h (if_neg hc)
  · intro h heq
    have hcap : (c.recapped now).bandCap = now c := by rw [Context.recapped, if_pos h]
    rw [heq] at hcap
    rw [← hcap] at h
    cases hb : c.bandCap with
    | none => rw [hb] at h; cases h
    | some y => rw [hb] at h; simp [capApplies] at h

theorem pushBands_eq (s : State) :
    pushBands s = allLines.foldl (fun x l => x.modCtx l (Context.recapped s.bandCapNow)) s := rfl

/-- The lines a push of the bands changes are those that take a lower cap (R16). -/
theorem pushBands_changes (s : State) (l : LineId) :
    s.takesBand l = decide (((s.line l).mapCtx (Context.recapped s.bandCapNow)).live.map (·.ctx) ≠ s.ctx l) := by
  have hctx : s.ctx l = (s.line l).live.map (·.ctx) := rfl
  rw [Bool.eq_iff_iff, decide_eq_true_iff, State.takesBand, hctx, Line.mapCtx]
  cases (s.line l).live with
  | none => simp
  | some v => simpa using (Context.recapped_ne_iff s.bandCapNow v.ctx).symm

/-- Settles O13: the band is put or removed, then the push is one change of every context. -/
theorem defbandPushesLoweredCaps : Obligations.DefbandPushesLoweredCaps := by
  intro s tag band upper lower mask cap hl c
  refine ⟨fun hr => .denied hl rfl rfl ?_, fun hr => ?_⟩
  · show reqDefband .. = _
    simp [reqDefband, hr]
  · let s' := (reloadT1 s).modStore fun p =>
      { p with bands :=
          if mask = 0 then tdel p.bands band
          else tput p.bands band { upper := upper, lower := lower, mask := BitVec.ofNat 8 mask, cap := cap } }
    have hreq : handle c (reloadT1 s) = accept (pushBands s') (u8 (lineMask s'.takesBand).toNat) := by
      show reqDefband .. = _
      simp [reqDefband, hr]; rfl
    obtain ⟨lines, hfold, hlines⟩ := allLines_modCtx (Context.recapped s'.bandCapNow) s'
    rw [pushBands_eq, hfold] at hreq
    obtain ⟨k, hexec, hans⟩ := exec_accepted (kind := 0x85) hl rfl rfl hreq
    refine ⟨_, hexec, rfl, fun n => ?_, fun l => ?_, ?_⟩
    · show tfind (if mask = 0 then tdel s.store.bands band else tput s.store.bands band _) n = _
      split
      · exact tfind_tdel ..
      · exact tfind_tput ..
    · refine (hlines l).trans ?_
      unfold Line.mapCtx
      simp only [Context.recapped_eq]
      rfl
    · have hmask : lineMask s'.takesBand = lineMask (fun l => decide (lines[l].live.map (·.ctx) ≠ s.ctx l)) :=
        lineMask_congr fun l => by rw [hlines]; exact pushBands_changes s' l
      rw [hmask] at hans
      exact hans

end Sys2Proof.Machine
end

section
/-! PROOFS. The removal of holes and the queries of the plan and of the blocks. -/

namespace Sys2Proof.Machine

/-! ### PURGE (R19) -/

section
variable {α : Type}

/-- Over rising keys a record is found under its key (R1). -/
theorem tfind_of_mem {t : Table α} (hs : tsorted t = true) {n : Nat} {x : α} (h : (n, x) ∈ t) : tfind t n = some x := by
  rw [tsorted_iff] at hs
  induction t with
  | nil => cases h
  | cons p rest ih =>
    obtain ⟨j, y⟩ := p
    obtain ⟨hlow, hrest⟩ := List.pairwise_cons.1 hs
    rcases List.mem_cons.1 h with heq | hmem
    · obtain ⟨rfl, rfl⟩ := Prod.mk.injEq .. ▸ heq
      simp [tfind]
    · have hne : j ≠ n := (hlow _ hmem).ne
      simp [tfind, hne, ih hrest hmem]

theorem tfind_iff_mem {t : Table α} (hs : tsorted t = true) (n : Nat) (x : α) : tfind t n = some x ↔ (n, x) ∈ t :=
  ⟨tfind_mem t n x, tfind_of_mem hs⟩

theorem length_filter_not (p : α → Bool) (l : List α) : (l.filter p).length = l.length - (l.filter (fun x => !p x)).length := by
  have := List.length_eq_length_filter_add (l := l) p
  omega

end

section
variable {s : State} {sec : Nat}

/-- The holes PURGE removes (R19). -/
def State.Unused (s : State) (sec n : Nat) : Prop :=
  ∃ h, tfind s.store.holes n = some h ∧ h.sec = sec ∧ s.hasHistory n = false

theorem mem_purged (hs : tsorted s.store.holes = true) (n : Nat) : n ∈ s.purged sec ↔ s.Unused sec n := by
  simp only [State.purged, State.Unused, List.mem_map, List.mem_filter, Prod.exists, tfind_iff_mem hs]
  constructor
  · rintro ⟨k, h, ⟨hm, hp⟩, rfl⟩
    simp only [Bool.and_eq_true, beq_iff_eq, Bool.not_eq_true'] at hp
    exact ⟨h, hm, hp⟩
  · rintro ⟨h, hm, hsec, hh⟩
    exact ⟨n, h, ⟨hm, by simp [hsec, hh]⟩, rfl⟩

/-- Over rising keys the holes that stay are those that are not removed, record by record. -/
theorem kept_holes (hs : tsorted s.store.holes = true) :
    s.store.holes.filter (fun p => !(s.purged sec).contains p.1) =
      s.store.holes.filter (fun p => !(p.2.sec == sec && !s.hasHistory p.1)) := by
  refine List.filter_congr fun p hp => ?_
  have hiff : p.1 ∈ s.purged sec ↔ (p.2.sec == sec && !s.hasHistory p.1) = true := by
    rw [mem_purged hs, State.Unused, tfind_of_mem hs hp]
    simp
  have hcontains : (s.purged sec).contains p.1 = (p.2.sec == sec && !s.hasHistory p.1) := by
    rw [Bool.eq_iff_iff, ← hiff]; exact List.contains_iff_mem
  rw [hcontains]

theorem purged_length (hs : tsorted s.store.holes = true) :
    (s.purged sec).length =
      s.store.holes.length - (s.store.holes.filter (fun p => !(s.purged sec).contains p.1)).length := by
  rw [kept_holes hs, State.purged, List.length_map]
  exact length_filter_not _ _

end

/-- A table with the records of some keys removed: those keys are not planned, the others stand as they were. -/
theorem tfind_without {α : Type} (t : Table α) (p : Nat → Bool) (n : Nat) {gone : Prop} (h : p n = true ↔ gone) :
    (gone → tfind (t.filter (fun q => !p q.1)) n = none) ∧
      (¬gone → tfind (t.filter (fun q => !p q.1)) n = tfind t n) := by
  rw [tfind_filter t (fun i => !p i) n]
  constructor
  · intro hg; simp [h.2 hg]
  · intro hg; simp [Bool.eq_false_iff.2 (mt h.1 hg)]

/-- Settles O16: over rising keys PURGE filters the tables by the holes it removes, and `mem_purged` says which these are. -/
theorem purgeRemovesUnusedHoles : Obligations.PurgeRemovesUnusedHoles := by
  intro s tag sec hl gone
  refine ⟨fun hr => .denied hl rfl rfl ?_, fun hr hn => .denied hl rfl rfl ?_, fun hr hsec hholes hstages => ?_⟩
  · show reqPurge .. = _
    simp [reqPurge, hr]
  · show reqPurge .. = _
    have hn' : tfind (reloadT1 s).store.secs sec = none := hn
    simp [reqPurge, hr, hn']
  · obtain ⟨x, hx⟩ := Option.isSome_iff_exists.1 hsec
    let holes := s.store.holes.filter (fun p => !(s.purged sec).contains p.1)
    let stages := s.store.stages.filter (fun p => !(s.purged sec).contains (p.1 / 32))
    let emptied := !holes.any (fun p => p.2.sec == sec)
    have hreq : handle (.purge tag sec) (reloadT1 s) =
        accept ((reloadT1 s).modStore (fun p =>
          { p with holes := holes, stages := stages, secs := if emptied then tdel p.secs sec else p.secs }))
          (u8 (s.purged sec).length ++ u16 (s.store.stages.length - stages.length) ++ flag emptied) := by
      show reqPurge .. = _
      have hx' : tfind (reloadT1 s).store.secs sec = some x := hx
      simp only [reqPurge, hr, hx']; rfl
    have hgone (n : Nat) : (s.purged sec).contains n = true ↔ gone n := by
      rw [List.contains_iff_mem, mem_purged hholes]; rfl
    have hsecs (n : Nat) : tfind (if emptied then tdel s.store.secs sec else s.store.secs) n =
        if emptied = true ∧ n = sec then none else tfind s.store.secs n := by
      by_cases he : emptied = true
      · simp [he, tfind_tdel]
      · simp [he]
    have hsorted : tsorted holes = true := filter_sorted _ _ hholes
    have hempty : emptied = true ↔ ∀ n h, tfind holes n = some h → h.sec ≠ sec := by
      simp only [emptied, Bool.not_eq_true', List.any_eq_false, beq_iff_eq, tfind_iff_mem hsorted, Prod.forall]
    rw [purged_length hholes] at hreq
    obtain ⟨k, hexec, hans⟩ := exec_accepted (kind := 0x89) hl rfl rfl hreq
    refine ⟨_, hexec, rfl, fun n => tfind_without _ _ n (hgone n), fun k => ?_, fun n hn => ?_, ?_, ?_, ?_⟩
    · exact tfind_without s.store.stages (fun k => (s.purged sec).contains (k / 32)) k (hgone (k / 32))
    · exact (hsecs n).trans (if_neg fun h => hn h.2)
    · rintro ⟨n, h, hn, hh⟩
      exact (hsecs sec).trans (if_neg fun he => hempty.1 he.1 n h hn hh)
    · intro hnone
      exact (hsecs sec).trans (if_pos ⟨hempty.2 hnone, rfl⟩)
    · have hflag : emptied = (tfind (if emptied then tdel s.store.secs sec else s.store.secs) sec).isNone := by
        rw [hsecs, hx]; cases emptied <;> simp
      rw [congrArg flag hflag] at hans
      exact hans

/-! ### The numbers of lines, tanks, gauges and zones -/

theorem inRange_iff {lo hi n : Nat} : inRange lo hi n = true ↔ lo ≤ n ∧ n ≤ hi := by simp [inRange]

theorem not_inRange_iff {lo hi n : Nat} : inRange lo hi n = false ↔ ¬(lo ≤ n ∧ n ≤ hi) := by
  rw [Bool.eq_false_iff, ne_eq, inRange_iff]

@[simp] theorem lineOf_val (l : LineId) : lineOf (l.val + 1) = some l := by simp [lineOf]

@[simp] theorem tankOf_val (k : TankId) : tankOf (k.val + 1) = some k := by simp [tankOf]; omega

@[simp] theorem gaugeOf_val (g : GaugeId) : gaugeOf (g.val + 1) = some g := by simp [gaugeOf]

@[simp] theorem zoneOf_val (z : ZoneId) : zoneOf (z.val + 1) = some z := by simp [zoneOf]

theorem lineOf_none {n : Nat} (h : inRange 1 6 n = false) : lineOf n = none := dif_neg (not_inRange_iff.1 h)

theorem tankOf_none {n : Nat} (h : inRange 1 2 n = false) : tankOf n = none := dif_neg (not_inRange_iff.1 h)

theorem gaugeOf_none {n : Nat} (h : inRange 1 16 n = false) : gaugeOf n = none := dif_neg (not_inRange_iff.1 h)

theorem zoneOf_none {n : Nat} (h : inRange 1 4 n = false) : zoneOf n = none := dif_neg (not_inRange_iff.1 h)

/-! ### The lengths of records (sections 11.5, 11.6) -/

@[simp] theorem be_length (n v : Nat) : (be n v).length = n := by
  induction n with
  | zero => rfl
  | succ n ih => simp [be, ih]

@[simp] theorem u8_length (v : Nat) : (u8 v).length = 1 := be_length ..
@[simp] theorem u16_length (v : Nat) : (u16 v).length = 2 := be_length ..
@[simp] theorem u32_length (v : Nat) : (u32 v).length = 4 := be_length ..
@[simp] theorem u64_length (v : Nat) : (u64 v).length = 8 := be_length ..
@[simp] theorem s16_length (v : Int) : (s16 v).length = 2 := be_length ..
@[simp] theorem flag_length (b : Bool) : (flag b).length = 1 := by cases b <;> rfl

/-- An optional field has one length, present or absent (R177). -/
theorem optional_length {α : Type} {n : Nat} {enc : α → List Byte} (h : ∀ a, (enc a).length = n) (x : Option α) :
    (optional n enc x).length = n + 1 := by
  cases x <;> simp [optional, h]

@[simp] theorem Snapshot.bytes_length (x : Snapshot) : x.bytes.length = 27 := by simp [Snapshot.bytes]

@[simp] theorem RunningImage.bytes_length (x : RunningImage) : x.bytes.length = 35 := by simp [RunningImage.bytes]

@[simp] theorem outcomeBytes_length (r : Option OutcomeRecord) : (outcomeBytes r).length = 52 := by
  cases r <;> simp [outcomeBytes, optional_length]

@[simp] theorem priorBytes_length (p : Option Prior) : (priorBytes p).length = 7 := by
  unfold priorBytes; split
  · rfl
  · split <;> simp

theorem Stage.bytes_length (hole stage : Nat) (st : Stage) : (st.bytes hole stage).length = 114 := by
  simp [Stage.bytes, optional_length]

@[simp] theorem Limits.bytes_length (x : Limits) : x.bytes.length = 18 := by simp [Limits.bytes]

@[simp] theorem LadderStep.bytes_length (x : LadderStep) : x.bytes.length = 3 := by simp [LadderStep.bytes]

theorem ladderSlots_length {l : List LadderStep} (h : l.length ≤ 4) : (ladderSlots l).length = 13 := by
  have hsteps : (l.flatMap LadderStep.bytes).length = 3 * l.length := by
    simp [List.length_flatMap, Nat.mul_comm]
  simp only [ladderSlots, List.length_append, u8_length, hsteps, List.length_replicate]
  omega

theorem Context.bytes_length {c : Context} (h : c.ladder.length ≤ 4) : c.bytes.length = 98 := by
  unfold Context.bytes
  simp only [List.length_append]
  simp only [u8_length, u16_length, u32_length, s16_length, flag_length, Limits.bytes_length, ladderSlots_length h]
  rw [optional_length u16_length, optional_length u16_length, optional_length u32_length, optional_length u32_length]

@[simp] theorem latchBytes_length (e : Option EndLatch) : (latchBytes e).length = 52 := by
  cases e <;> simp [latchBytes, optional_length]

theorem lineBytes_length {s : State} {l : LineId} (h : (s.ctx l).all (fun c => decide (c.ladder.length ≤ 4)) = true) :
    (lineBytes s l).length = 170 := by
  have hcfg : ∀ c : LineCfg, c.bytes.length = 10 := fun c => by simp [LineCfg.bytes]
  cases hv : s.live l with
  | none => simp [lineBytes, hv, hcfg]
  | some v =>
    have hladder : v.ctx.ladder.length ≤ 4 := by simpa [ctx_of_live hv] using h
    simp [lineBytes, hv, hcfg, Context.bytes_length hladder]

/-! ### The queries (R21, R37, R127, R153) -/

section
variable {s : State} {c : Instr} {k kind : Byte}

/-- What a query of a table answers by the record it finds (R21). -/
theorem query_answers {α : Type} {ok : Bool} {found : Option α} {body : α → List Byte} (hl : s.Listening)
    (hk : requestKind c = some k) (hkind : kind = k + 0x80)
    (hc : handle c (reloadT1 s) = query ok found body (reloadT1 s)) :
    (ok = false → AnswersOnly c s kind (requestTag c) .range []) ∧
    (ok = true → found = none → AnswersOnly c s kind (requestTag c) .notPlanned []) ∧
    (∀ x, ok = true → found = some x → AnswersOnly c s kind (requestTag c) .ok (body x)) := by
  refine ⟨fun h => ?_, fun h hn => ?_, fun x h hx => ?_⟩
  · exact .denied hl hk hkind (hc.trans (by simp [query, h]))
  · exact .denied hl hk hkind (hc.trans (by simp [query, h, hn]))
  · exact .accepted hl hk hkind (hc.trans (by simp [query, h, hx]))

end

/-- Settles O18: the plan queries by `query_answers`, the queries of blocks by their numbers, and the lengths of the records. -/
theorem queriesReadAndChangeNothing : Obligations.QueriesReadAndChangeNothing := by
  intro s tag hl
  have hstage (hole stage : Nat) := query_answers (c := .qstage tag hole stage) (kind := 0xB3) hl rfl rfl rfl
  have hhole (n : Nat) := query_answers (c := .qhole tag n) (kind := 0xB4) hl rfl rfl rfl
  have hlim (n : Nat) := query_answers (c := .qlim tag n) (kind := 0xB5) hl rfl rfl rfl
  have hband (n : Nat) := query_answers (c := .qband tag n) (kind := 0xB6) hl rfl rfl rfl
  have hmix (n : Nat) := query_answers (c := .qmix tag n) (kind := 0xB7) hl rfl rfl rfl
  refine ⟨fun h n => (hstage h n).1, fun h n hh hn hs => (hstage h n).2.1 (by simp [hh, hn]) hs,
    fun h n st hh hn hs => ⟨(hstage h n).2.2 st (by simp [hh, hn]) hs, Stage.bytes_length ..⟩,
    fun n => ⟨(hhole n).1, (hlim n).1, (hband n).1, (hmix n).1, fun h => ?_, fun h => ?_, fun kind h1 h2 => ?_⟩,
    fun n => ⟨(hhole n).2.1, (hlim n).2.1, (hband n).2.1, (hmix n).2.1⟩, fun n => (hhole n).2.2, fun n => (hlim n).2.2,
    fun n => (hband n).2.2, fun n => (hmix n).2.2, fun l => ⟨?_, lineBytes_length⟩, fun k => ?_, fun g => ?_, fun z => ?_⟩
  · refine .denied hl rfl rfl ?_
    show reqQline .. = _
    simp [reqQline, lineOf_none h]
  · refine .denied hl rfl rfl ?_
    show reqQtank .. = _
    simp [reqQtank, tankOf_none h]
  · refine .denied hl rfl rfl ?_
    show reqQgauge .. = _
    unfold reqQgauge; split
    · rw [gaugeOf_none (h1 rfl)]
    · rw [zoneOf_none (h2 rfl)]
    · rfl
  · refine .accepted hl rfl rfl ?_
    show reqQline .. = _
    simp [reqQline]; rfl
  · refine .accepted hl rfl rfl ?_
    show reqQtank .. = _
    simp [reqQtank]; rfl
  · refine .accepted hl rfl rfl ?_
    show reqQgauge 1 (g.val + 1) (reloadT1 s) = _
    simp [reqQgauge]; rfl
  · refine .accepted hl rfl rfl ?_
    show reqQgauge 2 (z.val + 1) (reloadT1 s) = _
    simp [reqQgauge]; rfl

end Sys2Proof.Machine
end

section
/-! PROOFS. Requests as frames: what a refused request leaves, the reading of what a request is written as, and the bytes of a
frame at the framer. -/

namespace Sys2Proof.Machine

/-! ### Refused requests (R1) -/

/-- A request taken in `s` that is answered neither OK nor OK_ADJUSTED has left the state as it was. -/
def Refuses (s : State) (p : State × Reply) : Prop := p.2.result ≠ .ok → p.2.result ≠ .okAdjusted → p.1 = s

section
variable {s t : State} {r : Result} {body : List Byte}

theorem Refuses.deny : Refuses s (deny s r) := fun _ _ => rfl

/-- Also a refusal that answers with a body leaves the state as it was. -/
theorem Refuses.answer {a : Reply} : Refuses s (s, a) := fun _ _ => rfl

theorem Refuses.accept : Refuses s (accept t body) := fun h => absurd rfl h

theorem Refuses.adjusted {b : Bool} : Refuses s (acceptAdjusted t b body) := by
  intro h h'
  cases b
  · exact absurd rfl h
  · exact absurd rfl h'

end

theorem Refuses.ite {s : State} {c : Prop} [Decidable c] {p q : State × Reply} (hp : Refuses s p) (hq : Refuses s q) :
    Refuses s (if c then p else q) := by split <;> assumption

theorem query_refuses {α : Type} {ok : Bool} {found : Option α} {body : α → List Byte} {s : State} :
    Refuses s (query ok found body s) := by
  unfold query
  refine .ite .deny ?_
  split
  · exact .deny
  · exact .accept

theorem storeHole_refuses {hole : Nat} {h : Hole} {s : State} : Refuses s (storeHole hole h s) := by
  unfold storeHole
  refine .ite .deny ?_
  split
  · exact .ite .deny (.ite .deny .accept)
  · exact .ite .deny .accept

theorem storeLimits_refuses {set : Nat} {new : Limits} {ladder : List LadderStep} {s : State} :
    Refuses s (storeLimits set new ladder s) := by
  unfold storeLimits
  refine .ite .deny ?_
  split
  · exact .accept
  · exact .ite .deny (.ite .accept .accept)

theorem setLock_refuses {kind number : Nat} {lk : Bool} {s : State} : Refuses s (setLock kind number lk s) := by
  unfold setLock
  split
  · exact .ite .deny (.ite .deny .accept)
  · exact .ite .deny (.ite .deny .accept)
  · exact .deny

theorem reqDefstage_refuses {hole stage top bottom length set : Nat} {s : State} :
    Refuses s (reqDefstage hole stage top bottom length set s) := by
  unfold reqDefstage
  refine .ite .deny (.ite .deny (.ite .deny ?_))
  split
  · exact .ite .deny (.ite .deny .accept)
  · exact .ite .deny (.ite .deny .accept)

theorem reqStart_refuses {line : Nat} {s : State} : Refuses s (reqStart line s) := by
  unfold reqStart
  split
  · exact .deny
  · split
    · exact .deny
    · split
      · exact .deny
      · exact .accept

theorem reqPause_refuses {line : Nat} {holdTime decay : Option Nat} {s : State} :
    Refuses s (reqPause line holdTime decay s) := by
  unfold reqPause
  split
  · split
    · exact .deny
    · exact .ite .deny (.ite .deny .accept)
  · exact .deny

theorem reqResume_refuses {line : Nat} {s : State} : Refuses s (reqResume line s) := by
  unfold reqResume
  split
  · exact .deny
  · split
    · exact .deny
    · exact .ite .deny (.ite .deny (.ite .answer (.ite .answer
        .accept)))

theorem reqAbort_refuses {line : Nat} {s : State} : Refuses s (reqAbort line s) := by
  unfold reqAbort
  split
  · exact .deny
  · split
    · exact .deny
    · exact .ite .accept (.ite .accept .deny)

theorem reqRelease_refuses {line : Nat} {s : State} : Refuses s (reqRelease line s) := by
  unfold reqRelease
  split
  · exact .deny
  · split
    · exact .deny
    · exact .ite .deny .accept
    · exact .deny

theorem reqZero_refuses {kind number : Nat} {s : State} : Refuses s (reqZero kind number s) := by
  unfold reqZero zeroOne zeroZone
  split
  · split
    · exact .deny
    · exact .ite .deny (.ite .deny .accept)
  · split
    · exact .deny
    · exact .ite .deny .accept
  · exact .deny

/-- Settles O7: each request's arm is a tree of checks whose failing leaves give back the state they were given. -/
theorem refusedRequestChangesNothing : Obligations.RefusedRequestChangesNothing := by
  intro i s
  change Refuses s (handle i s)
  cases i
  case defsec => exact .ite .deny (.ite .accept .accept)
  case defhole =>
    simp only [handle, reqDefhole]
    split
    · exact storeHole_refuses
    · exact .deny
  case defstage => exact reqDefstage_refuses
  case deflim => exact .ite storeLimits_refuses .deny
  case defband => exact .ite .deny .accept
  case defmix => exact .ite .deny (.ite .deny .accept)
  case lock | unlock => exact setLock_refuses
  case purge => exact .ite .deny (.ite .deny .accept)
  case wipe => exact .ite .deny .accept
  case qstage | qhole | qlim | qband | qmix => exact query_refuses
  case linecfg =>
    simp only [handle, reqLinecfg]
    split
    · exact .ite .deny .adjusted
    · exact .deny
  case probe =>
    simp only [handle, reqProbe]
    split
    · exact .answer
    · exact .accept
  case bind =>
    simp only [handle, reqBind]
    split
    · exact .deny
    · exact .accept
  case start => exact reqStart_refuses
  case pause => exact reqPause_refuses
  case resume => exact reqResume_refuses
  case abort => exact reqAbort_refuses
  case release => exact reqRelease_refuses
  case tankcfg =>
    simp only [handle, reqTankcfg]
    split
    · exact .deny
    · exact .adjusted
  case batch =>
    simp only [handle, reqBatch]
    split
    · exact .ite .deny (.ite .deny .accept)
    · exact .deny
  case empty | qtank | qline =>
    simp only [handle, reqEmpty, reqQtank, reqQline]
    split
    · exact .deny
    · exact .accept
  case gaugecfg =>
    simp only [handle, reqGaugecfg]
    split
    · exact .ite .adjusted (.ite .deny .adjusted)
    · exact .deny
  case zonecfg =>
    simp only [handle, reqZonecfg]
    split
    · exact .adjusted
    · exact .deny
  case zero => exact reqZero_refuses
  case hclear =>
    simp only [handle, reqHclear]
    split
    · exact .deny
    · exact .ite .deny (.ite .deny .accept)
  case qgauge =>
    simp only [handle, reqQgauge]
    split
    · split
      · exact .deny
      · exact .accept
    · split
      · exact .deny
      · exact .accept
    · exact .deny
  case linkcfg => exact .adjusted
  case clearsafe => exact .ite .accept .accept
  case status => exact .accept
  all_goals exact .deny

/-! ### Reading back what was written (R177, section 11.4) -/

theorem u8_bytes (v : Nat) : u8 v = [BitVec.ofNat 8 v] := by simp [u8, be]

theorem u16_bytes (v : Nat) : u16 v = [BitVec.ofNat 8 (v / 256), BitVec.ofNat 8 v] := by simp [u16, be]

theorem u32_bytes (v : Nat) : u32 v = [BitVec.ofNat 8 (v / 16777216), BitVec.ofNat 8 (v / 65536), BitVec.ofNat 8 (v / 256),
    BitVec.ofNat 8 v] := by simp [u32, be]

theorem s16_bytes (v : Int) :
    s16 v = [BitVec.ofNat 8 ((v % 65536).toNat / 256), BitVec.ofNat 8 (v % 65536).toNat] := by simp [s16, be]

theorem byte_toNat {v : Nat} (h : fits8 v = true) : (BitVec.ofNat 8 v).toNat = v := by
  have : v < 256 := of_decide_eq_true h
  simp [Nat.mod_eq_of_lt this]

theorem word16_ofNat {v : Nat} (h : fits16 v = true) : word16 (BitVec.ofNat 8 (v / 256)) (BitVec.ofNat 8 v) = v := by
  have : v < 65536 := of_decide_eq_true h
  simp only [word16, BitVec.toNat_ofNat]
  omega

theorem word32_ofNat {v : Nat} (h : fits32 v = true) :
    word32 (BitVec.ofNat 8 (v / 16777216)) (BitVec.ofNat 8 (v / 65536)) (BitVec.ofNat 8 (v / 256)) (BitVec.ofNat 8 v) = v := by
  have : v < 4294967296 := of_decide_eq_true h
  simp only [word32, word16, BitVec.toNat_ofNat]
  omega

theorem int16_ofInt {v : Int} (h : fitsS16 v = true) :
    int16 (BitVec.ofNat 8 ((v % 65536).toNat / 256)) (BitVec.ofNat 8 (v % 65536).toNat) = v := by
  simp only [fitsS16, Bool.and_eq_true, decide_eq_true_eq] at h
  have hw : fits16 (v % 65536).toNat = true := by
    unfold fits16; rw [decide_eq_true_iff]; omega
  rw [int16, word16_ofNat hw]
  split <;> omega

theorem readU16s_counted (ns : List Nat) (h : ns.all fits16 = true) : readU16s ns.length (ns.flatMap u16) = some ns := by
  induction ns with
  | nil => rfl
  | cons n rest ih =>
    simp only [List.all_cons, Bool.and_eq_true] at h
    simp [u16_bytes, readU16s, ih h.2, word16_ofNat h.1]

theorem readSteps_counted (l : List (Nat × Nat)) (h : l.all (fun x => fits8 x.1 && fits16 x.2) = true) :
    readSteps l.length (l.flatMap (fun x => u8 x.1 ++ u16 x.2)) = some l := by
  induction l with
  | nil => rfl
  | cons x rest ih =>
    simp only [List.all_cons, Bool.and_eq_true] at h
    obtain ⟨⟨hx1, hx2⟩, hrest⟩ := h
    have ih' := ih (by simpa only [Bool.and_eq_true] using hrest)
    simp only [List.flatMap_cons, u8_bytes, u16_bytes, List.cons_append, List.nil_append, List.length_cons, readSteps] at ih' ⊢
    rw [ih', word16_ofNat hx2, byte_toNat hx1]
    rfl

theorem readOptU16_written {v : Option Nat} (h : fitsOpt16 v = true) (rest : List Byte) :
    readOptU16 (optU16 v ++ rest) = some (v, rest) := by
  cases v with
  | none => rfl
  | some n => simp [optU16, u16_bytes, readOptU16, word16_ofNat h]

theorem readMarker_flag (b : Bool) : ∃ m, flag b = [m] ∧ readMarker m = some b := by
  cases b
  · exact ⟨0, rfl, rfl⟩
  · exact ⟨1, rfl, rfl⟩

/-- Settles O8: body by body, with each field read back from its bytes. -/
theorem decodeReadsBackEncode : Obligations.DecodeReadsBackEncode := by
  intro i k hk hw
  cases i
  case defhole tag h s o c ns d z g lk =>
    cases hk
    simp only [Instr.wellFormed, Bool.and_eq_true, decide_eq_true_eq] at hw
    obtain ⟨⟨⟨⟨⟨⟨⟨⟨⟨hh, hs⟩, ho⟩, hc⟩, hlen⟩, hns⟩, hd⟩, hz⟩, hg⟩, hlk⟩ := hw
    have hcount : (BitVec.ofNat 8 ns.length).toNat = ns.length := byte_toNat (by unfold fits8; rw [decide_eq_true_iff]; omega)
    have hbytes : (ns.flatMap u16).length = 2 * ns.length := by simp [List.length_flatMap, Nat.mul_comm]
    have htail : formDefholeTail tag h s o c ns (u8 d ++ u8 z ++ optU16 g ++ u8 lk) =
        some (.defhole tag h s o c ns d z g lk) := by
      simp only [u8_bytes, List.cons_append, List.nil_append, formDefholeTail]
      rw [readOptU16_written hg]
      simp only [byte_toNat hd, byte_toNat hz, byte_toNat hlk]
    show found (formDefhole tag _) = _
    have hbody : encodeBody (.defhole tag h s o c ns d z g lk) =
        BitVec.ofNat 8 (h / 256) :: BitVec.ofNat 8 h :: BitVec.ofNat 8 s :: BitVec.ofNat 8 o ::
          BitVec.ofNat 8 ((c % 65536).toNat / 256) :: BitVec.ofNat 8 (c % 65536).toNat :: BitVec.ofNat 8 ns.length ::
          (ns.flatMap u16 ++ (u8 d ++ u8 z ++ optU16 g ++ u8 lk)) := by
      simp only [encodeBody, counted, u8_bytes, u16_bytes, s16_bytes, List.cons_append, List.nil_append, List.append_assoc]
    rw [hbody]
    simp only [formDefhole, hcount, Nat.not_lt.2 hlen, if_false]
    rw [← hbytes, List.take_left, List.drop_left, readU16s_counted ns hns]
    dsimp only
    rw [word16_ofNat hh, byte_toNat hs, byte_toNat ho, int16_ofInt hc, htail]
    rfl
  case deflim tag set p g t o rl r rf b ti d l =>
    cases hk
    simp only [Instr.wellFormed, Bool.and_eq_true, decide_eq_true_eq] at hw
    obtain ⟨⟨⟨⟨⟨⟨⟨⟨⟨⟨⟨⟨hset, hp⟩, hg⟩, ht⟩, ho⟩, hrl⟩, hr⟩, hrf⟩, hb⟩, hti⟩, hd⟩, hlen⟩, hl⟩ := hw
    have hcount : (BitVec.ofNat 8 l.length).toNat = l.length := byte_toNat (by unfold fits8; rw [decide_eq_true_iff]; omega)
    show found (formDeflim tag _) = _
    simp only [encodeBody, counted, u8_bytes, u16_bytes, List.cons_append, List.nil_append, formDeflim, hcount,
      Nat.not_lt.2 hlen, if_false]
    have hsteps := readSteps_counted l hl
    simp only [u8_bytes, u16_bytes, List.cons_append, List.nil_append] at hsteps
    rw [hsteps]
    simp only [byte_toNat hset, word16_ofNat hp, word16_ofNat hg, word16_ofNat ht, word16_ofNat ho, byte_toNat hrl,
      word16_ofNat hr, byte_toNat hrf, word16_ofNat hb, word16_ofNat hti, word16_ofNat hd]
    rfl
  case pause tag l h d =>
    cases hk
    simp only [Instr.wellFormed, Bool.and_eq_true] at hw
    obtain ⟨⟨hl, hh⟩, hd⟩ := hw
    have hlast : readOptU16 (optU16 d) = some (d, []) := by
      rw [← List.append_nil (optU16 d)]; exact readOptU16_written hd []
    show found (formPause tag _) = _
    simp only [encodeBody, u8_bytes, List.cons_append, List.nil_append, formPause]
    rw [readOptU16_written hh]
    dsimp only
    rw [hlast]
    simp only [byte_toNat hl]
    rfl
  case probe tag l h st redo | bind tag l h st redo =>
    cases hk
    simp only [Instr.wellFormed, Bool.and_eq_true] at hw
    obtain ⟨⟨hl, hh⟩, hst⟩ := hw
    obtain ⟨m, hflag, hm⟩ := readMarker_flag redo
    show found (formBind _ _) = _
    simp only [encodeBody, hflag, u8_bytes, u16_bytes, List.cons_append, List.nil_append, formBind, hm, Option.map_some,
      byte_toNat hl, word16_ofNat hh, byte_toNat hst]
    rfl
  case byteArrival | gapTimerExpiry | frameSent | t1Expiry | t2Expiry | sample | holdTimerExpiry | localKeyChange |
      flowmeterPulse | tankDraw | mixRequest | adopt | headExamination | tankNotice | gaugeConversion | supplyFailure |
      powerOn | batteryChange | loopOpen | loopClosed => cases hk
  all_goals
    cases hk
    simp only [Instr.wellFormed, Bool.and_eq_true] at hw
    simp [-BitVec.toNat_ofNat, decodeRequest, encodeBody, u8_bytes, u16_bytes, u32_bytes, s16_bytes, form0, form1, form16, form11, form1_16,
      formDefstage, formDefband, formDefmix, formLinecfg, formTankcfg, formGaugecfg, formZonecfg, formLinkcfg, formBatch,
      formQstage, found, requestTag, byte_toNat, word16_ofNat, word32_ofNat, int16_ofInt, hw]

end Sys2Proof.Machine
end

section
/-! PROOFS. The framer and the transmitter (sections 10.1 to 10.3): the framer's table byte by byte, the judging of a frame, the
bytes of a request's frame, and the link's own requests. -/

namespace Sys2Proof.Machine

/-! ### The framer's table (R162, R164) -/

/-- The state with its framer here and its gap timer so. -/
def State.framed (s : State) (f : Framer) (gap : Option Nat) : State :=
  { s with link := { s.link with framer := f, gap := gap } }

/-- An idle transmitter finds no frame waiting (R168). -/
def State.NoneWaits (s : State) : Prop := s.link.tx = none → s.link.answers = [] ∧ s.link.reports = []

section
variable {s : State} {b n : Byte} {got : List Byte} {f : Framer} {g : Option Nat}

theorem exec_byteArrival (good : s.supply.failed = false) (b : Byte) :
    exec (.byteArrival b false) s = .next (startFrame (takeByte b s)) := takeEvent_good _ _ good

/-- A byte that only moves the framer leaves the rest of the part as it was, where no frame waits. -/
theorem exec_byte_moves (good : s.supply.failed = false) (idle : s.NoneWaits) (h : takeByte b s = s.framed f g) :
    exec (.byteArrival b false) s = .next (s.framed f g) := by
  rw [exec_byteArrival good, h, startFrame_idle]
  exact idle

theorem takeByte_start (h : s.link.framer = .hunt) : takeByte Config.startByte s = s.framed .length (some 20) := by
  unfold takeByte; rw [h]; rfl

theorem takeByte_hunt (h : s.link.framer = .hunt) (hb : b ≠ Config.startByte) : takeByte b s = s := by
  unfold takeByte; rw [h]; exact if_neg hb

theorem takeByte_length (h : s.link.framer = .length) (hlo : 2 ≤ b.toNat) (hhi : b.toNat ≤ 242) :
    takeByte b s = s.framed (.collect b []) (some 20) := by
  unfold takeByte; rw [h]; exact if_pos (inRange_iff.2 ⟨hlo, hhi⟩)

theorem takeByte_badLength (h : s.link.framer = .length) (hb : b.toNat < 2 ∨ 242 < b.toNat) :
    takeByte b s = s.framed .hunt none := by
  unfold takeByte; rw [h]; exact if_neg (fun hin => by have := inRange_iff.1 hin; omega)

theorem takeByte_collect (h : s.link.framer = .collect n got) (hn : got.length + 1 ≠ n.toNat) :
    takeByte b s = s.framed (.collect n (got ++ [b])) (some 20) := by
  unfold takeByte; rw [h]; exact if_neg (by rwa [List.length_append])

theorem takeByte_collected (h : s.link.framer = .collect n got) (hn : got.length + 1 = n.toNat) :
    takeByte b s = s.framed (.check n (got ++ [b]) none) (some 20) := by
  unfold takeByte; rw [h]; exact if_pos (by rwa [List.length_append])

theorem takeByte_firstCheck (h : s.link.framer = .check n got none) :
    takeByte b s = s.framed (.check n got (some b)) (some 20) := by
  unfold takeByte; rw [h]; rfl

variable {first kind tag : Byte} {body : List Byte}

theorem takeByte_badCheck (h : s.link.framer = .check n got (some first)) (hc : crcBytes (crc (n :: got)) ≠ [first, b]) :
    takeByte b s = s.framed .hunt none := by
  unfold takeByte; rw [h]; exact if_neg hc

/-- A frame whose check agrees is taken with the framer back in HUNT (R164, R165). -/
theorem takeByte_goodCheck (h : s.link.framer = .check n (kind :: tag :: body) (some first))
    (hc : crcBytes (crc (n :: kind :: tag :: body)) = [first, b]) :
    takeByte b s = takeFrame kind tag body (s.framed .hunt none) := by
  unfold takeByte; rw [h]; exact if_pos hc

/-- A valid frame of a request kind is taken as the request it decodes to (R165). -/
theorem exec_judged_request (good : s.supply.failed = false) (h : s.link.framer = .check n (kind :: tag :: body) (some first))
    (hc : crcBytes (crc (n :: kind :: tag :: body)) = [first, b]) (hkind : isRequestKind kind = true) :
    exec (.byteArrival b false) s =
      takeEvent (takeRequest kind tag (handleFound (decodeRequest kind tag body))) (s.framed .hunt none) := by
  rw [exec_byteArrival good, takeByte_goodCheck h hc, takeFrame, if_pos hkind]
  exact (takeEvent_good _ (s.framed .hunt none) good).symm

/-- A valid frame of another kind reaches the supervision alone (R165). -/
theorem exec_judged_other (good : s.supply.failed = false) (h : s.link.framer = .check n (kind :: tag :: body) (some first))
    (hc : crcBytes (crc (n :: kind :: tag :: body)) = [first, b]) (hkind : isRequestKind kind = false) :
    exec (.byteArrival b false) s = .next (startFrame (superviseFrame (s.framed .hunt none))) := by
  rw [exec_byteArrival good, takeByte_goodCheck h hc, takeFrame, hkind]; rfl

/-- The supervision of a linked part reloads T1 (R169). -/
theorem superviseFrame_ok (h : s.link.state = .ok) : superviseFrame s = reloadT1 s := by simp [superviseFrame, h]

theorem isRequestKind_iff : isRequestKind kind = true ↔ 1 ≤ kind.toNat ∧ kind.toNat ≤ 63 := inRange_iff

theorem isRequestKind_false (h : kind.toNat = 0 ∨ 64 ≤ kind.toNat) : isRequestKind kind = false := by
  rw [Bool.eq_false_iff, ne_eq, isRequestKind_iff]; omega

theorem State.Listening.framed (h : s.Listening) (f : Framer) (g : Option Nat) : (s.framed f g).Listening :=
  ⟨h.good, h.ok, h.room⟩

/-- A frame that carries no request is answered so, and changes nothing (R165). -/
theorem exec_judged_denied (hl : s.Listening) (h : s.link.framer = .check n (kind :: tag :: body) (some first))
    (hc : crcBytes (crc (n :: kind :: tag :: body)) = [first, b]) (hkind : isRequestKind kind = true) {r : Result}
    (hd : handleFound (decodeRequest kind tag body) = fun s => deny s r) :
    ∃ t, exec (.byteArrival b false) s = .next t ∧ t = { s with link := t.link } ∧
      Answered (s.framed .hunt none) t (kind + 0x80) tag r [] [] := by
  rw [exec_judged_request hl.good h hc hkind, hd]
  obtain ⟨t, hexec, heq, hans⟩ := takeRequest_only_answers kind tag (fun s => deny s r) (s.framed .hunt none) (.bare r)
    (hl.framed ..) rfl
  exact ⟨t, hexec, heq, hans⟩

end

/-! ### The transmitter (R168) -/

theorem exec_frameSent {s : State} (good : s.supply.failed = false) :
    exec .frameSent s = .next (startFrame { s with link := { s.link with tx := none } }) := takeEvent_good _ _ good

/-- Settles O53: the framer by the byte that arrives in its state, the judged frame by what it carries, and the arbiter once the
transmitter is idle. -/
theorem framerAndTransmitterMoveOn : Obligations.FramerAndTransmitterMoveOn := by
  intro s good hidle goes f
  have idle : s.NoneWaits := hidle
  have hunts : startFrame (s.framed .hunt none) = s.framed .hunt none := startFrame_idle idle
  refine ⟨fun b => ?_, ?_, fun h => ?_, fun b h hb => ?_, fun b h hlo hhi => ?_, fun b h hb => ?_, fun b n got h hn => ?_,
    fun b n got h hn => ?_, fun b n got h => ?_, fun b n got first h hc => ?_, fun b n kind tag body first h hc => ?_,
    fun a rest ha => ?_, fun r rest ha hr => ?_, fun ha hr => ?_⟩
  · exact (takeEvent_good _ _ good).trans (congrArg _ hunts)
  · exact (takeEvent_good _ _ good).trans (congrArg _ hunts)
  · exact exec_byte_moves good idle (takeByte_start h)
  · rw [exec_byteArrival good, takeByte_hunt h hb, startFrame_idle idle]
  · exact exec_byte_moves good idle (takeByte_length h hlo hhi)
  · exact exec_byte_moves good idle (takeByte_badLength h hb)
  · exact exec_byte_moves good idle (takeByte_collect h hn)
  · exact exec_byte_moves good idle (takeByte_collected h hn)
  · exact exec_byte_moves good idle (takeByte_firstCheck h)
  · exact exec_byte_moves good idle (takeByte_badCheck h hc)
  · refine ⟨fun i hlo hhi hd hk ht => ?_, fun hlo hhi hl hd => ?_, fun hlo hhi hl hd => ?_, fun hkind hok => ?_⟩
    · rw [exec_judged_request good h hc (isRequestKind_iff.2 ⟨hlo, hhi⟩), hd, exec_request hk, ht]; rfl
    · exact exec_judged_denied hl h hc (isRequestKind_iff.2 ⟨hlo, hhi⟩) (by rw [hd]; rfl)
    · exact exec_judged_denied hl h hc (isRequestKind_iff.2 ⟨hlo, hhi⟩) (by rw [hd]; rfl)
    · rw [exec_judged_other good h hc (isRequestKind_false hkind)]
      have hok' : (s.framed .hunt none).link.state = .ok := hok
      rw [superviseFrame_ok hok', startFrame_idle]
      · rfl
      · exact idle
  · exact (exec_frameSent good).trans (congrArg _ (startFrame_answer rfl ha))
  · exact (exec_frameSent good).trans (congrArg _ (startFrame_report rfl ha hr))
  · exact (exec_frameSent good).trans (congrArg _ (startFrame_idle fun _ => ⟨ha, hr⟩))

/-! ### The bytes of a request's frame (R162 to R165) -/

theorem feed_cons {s t : State} {b : Byte} {rest : List Byte} (h : exec (.byteArrival b false) s = .next t) :
    feed (b :: rest) s = feed rest t := by
  unfold feed; rw [List.foldl_cons]; dsimp only; rw [h]

section
variable {s : State} {n : Byte} {g : Option Nat}

theorem State.framed_framed (f f' : Framer) (g' : Option Nat) : (s.framed f g).framed f' g' = s.framed f' g' := rfl

/-- The bytes that complete a collection bring the framer to its check. -/
theorem feed_collected (good : s.supply.failed = false) (idle : s.NoneWaits) (b : Byte) (bs rest got : List Byte)
    (h : got.length + (b :: bs).length = n.toNat) :
    feed (b :: bs ++ rest) (s.framed (.collect n got) g) = feed rest (s.framed (.check n (got ++ b :: bs) none) (some 20)) := by
  induction bs generalizing b got g with
  | nil => exact feed_cons (exec_byte_moves good idle (takeByte_collected rfl h))
  | cons c cs ih =>
    have hmore : got.length + 1 ≠ n.toNat := by simp at h; omega
    have hgot : (got ++ [b]).length + (c :: cs).length = n.toNat := by simp at h ⊢; omega
    rw [List.cons_append, feed_cons (exec_byte_moves (s := s.framed (.collect n got) g) good idle (takeByte_collect rfl hmore)),
      State.framed_framed, ih c (got ++ [b]) hgot]
    simp

/-- The bytes of a frame of a request kind, at a framer in HUNT, have the request taken that the frame carries. -/
theorem feed_frame (good : s.supply.failed = false) (idle : s.NoneWaits) (hunt : s.link.framer = .hunt)
    (hgap : s.link.gap = none) (kind tag : Byte) (body : List Byte) (hlen : body.length ≤ 240)
    (hkind : isRequestKind kind = true) :
    feed (frameBytes kind tag body) s = takeEvent (takeRequest kind tag (handleFound (decodeRequest kind tag body))) s := by
  have hn : (BitVec.ofNat 8 (body.length + 2)).toNat = body.length + 2 := by
    rw [BitVec.toNat_ofNat]; omega
  have hback : s.framed .hunt none = s := by
    obtain ⟨_, _, _, _, _, _, k, _, _, _, _⟩ := s
    dsimp only at hunt hgap
    unfold State.framed
    rw [← hunt, ← hgap]
  unfold frameBytes
  dsimp only
  generalize BitVec.ofNat 8 (body.length + 2) = n at hn
  rw [List.cons_append, feed_cons (exec_byte_moves good idle (takeByte_start hunt)), List.cons_append,
    feed_cons (exec_byte_moves (s := s.framed .length (some 20)) good idle
      (takeByte_length rfl (by omega) (by omega))), State.framed_framed,
    feed_collected good idle kind (tag :: body) _ [] (by simp; omega), List.nil_append]
  obtain ⟨x, y, hxy⟩ : ∃ x y, crcBytes (crc (n :: kind :: tag :: body)) = [x, y] := ⟨_, _, rfl⟩
  rw [hxy, feed_cons (exec_byte_moves (s := s.framed (.check n (kind :: tag :: body) none) (some 20)) good idle
    (takeByte_firstCheck rfl)), State.framed_framed]
  have hlast := exec_judged_request (s := s.framed (.check n (kind :: tag :: body) (some x)) (some 20)) good rfl hxy hkind
  rw [State.framed_framed, hback] at hlast
  obtain ⟨t, ht⟩ := exec_next (.byteArrival y false) (s.framed (.check n (kind :: tag :: body) (some x)) (some 20))
  rw [feed_cons ht, ← hlast, ht]
  rfl

end

/-- The kinds of requests are request kinds (R165, section 11.4). -/
theorem requestKind_isRequest {i : Instr} {k : Byte} (h : requestKind i = some k) : isRequestKind k = true := by
  cases i <;> cases h <;> rfl

/-- The body of a well-formed request fits a frame (section 11.1). -/
theorem encodeBody_length {i : Instr} (h : i.wellFormed = true) : (encodeBody i).length ≤ 240 := by
  have hopt (v : Option Nat) : (optU16 v).length ≤ 3 := by cases v <;> simp [optU16]
  cases i
  case defhole tag hole s o c ns d z g lk =>
    simp only [Instr.wellFormed, Bool.and_eq_true, decide_eq_true_eq] at h
    have hns : (ns.flatMap u16).length = 2 * ns.length := by simp [List.length_flatMap, Nat.mul_comm]
    have hg := hopt g
    simp only [encodeBody, counted, List.length_append, u8_length, u16_length, s16_length, hns]
    omega
  case deflim tag set p g t o rl r rf b ti d l =>
    simp only [Instr.wellFormed, Bool.and_eq_true, decide_eq_true_eq] at h
    have hl : (l.flatMap (fun x => u8 x.1 ++ u16 x.2)).length = 3 * l.length := by
      simp [List.length_flatMap, Nat.mul_comm]
    simp only [encodeBody, counted, List.length_append, u8_length, u16_length, hl]
    omega
  case pause tag l hold d =>
    have hh := hopt hold
    have hd := hopt d
    simp only [encodeBody, List.length_append, u8_length]
    omega
  all_goals simp [encodeBody]

/-- Settles O9: `feed_frame` takes what the frame decodes to, and the body decodes to the request. -/
theorem frameBytesReachTheRequest : Obligations.FrameBytesReachTheRequest := by
  intro i bytes s henc hw good hunt hgap idle
  obtain ⟨k, hk, rfl⟩ := Option.map_eq_some_iff.1 henc
  rw [feed_frame good idle hunt hgap _ _ _ (encodeBody_length hw) (requestKind_isRequest hk), decodeReadsBackEncode i k hk hw,
    exec_request hk]
  rfl

/-! ### LINKCFG, CLEARSAFE, STATUS (R173 to R176) -/

theorem clampN_eq {lo hi : Nat} (h : lo ≤ hi) (n : Nat) : clampN lo hi n = max lo (min n hi) := by
  unfold clampN; split_ifs <;> omega

/-- Settles O52: the three requests of the link by what they write, the report of a cleared latch where it finds room and where
it does not. -/
theorem linkRequestsSetClearAndRead : Obligations.LinkRequestsSetClearAndRead := by
  intro s tag hl
  have hclear : s.link.safeLatch = true → handle (.clearsafe tag) (reloadT1 s) =
      accept (((reloadT1 s).modLink fun k => { k with safeLatch := false }).report
        (.link { uptime := s.uptime, event := .safeClear, before := .ok, after := .ok, latch := false, lines := [] }))
        [1] := by
    intro h
    have h' : (reloadT1 s).link.safeLatch = true := h
    show reqClearsafe (reloadT1 s) = _
    have hstate : (reloadT1 s).link.state = .ok := hl.ok
    simp only [reqClearsafe, h', if_true, linkReport, State.modLink_link, hstate]
    rfl
  refine ⟨?linkcfg, fun h => .accepted hl rfl rfl ?_, fun h room => ?_, fun h full => ?_, ?_⟩
  · intro t1 t2 safe a b p
    have hnew : LinkCfg.clamped t1 t2 safe = { t1 := a, t2 := b, safe := p } := by
      simp only [LinkCfg.clamped, clampN_eq (show 5 ≤ 120 by decide), clampN_eq (show 5 ≤ 600 by decide),
        clampN_eq (show 25 ≤ 75 by decide), a, b, p]
    have hreq : handle (.linkcfg tag t1 t2 safe) (reloadT1 s) =
        ((reloadT1 s).modStore (fun q => { q with linkCfg := { t1 := a, t2 := b, safe := p } }),
          { result := if a = t1 ∧ b = t2 ∧ p = safe then .ok else .okAdjusted, body := u16 a ++ u16 b ++ u8 p }) := by
      show reqLinkcfg t1 t2 safe (reloadT1 s) = _
      simp only [reqLinkcfg, acceptAdjusted, hnew, ne_eq, LinkCfg.mk.injEq, decide_not, Bool.not_eq_true', decide_eq_false_iff_not]
      congr 2
      by_cases hsame : a = t1 ∧ b = t2 ∧ p = safe <;> simp [hsame]
    obtain ⟨k, hexec, hans⟩ := exec_answered hl (kind := 0x94) rfl rfl hreq (.of_link rfl)
    exact ⟨_, hexec, rfl, hans⟩
  · have h' : (reloadT1 s).link.safeLatch = false := h
    show reqClearsafe (reloadT1 s) = _
    simp only [reqClearsafe, h']; rfl
  · have hreq := hclear h
    rw [State.report_room] at hreq
    swap
    · exact room.lt (Nat.zero_lt_one)
    obtain ⟨k, hexec, hk⟩ := takeRequest_next (kind := 0x29) (tag := tag) hl hreq
    refine ⟨_, hexec, rfl, ?_⟩
    subst hk
    dsimp only
    refine ⟨by rw [startFrame_eq]; rfl, by rw [startFrame_eq]; exact hl.ok, ?_, ?_, ?_⟩
    · exact startFrame_missed _
    · exact (startFrame_answersOut _).trans (State.answer_answersOut ..)
    · exact (startFrame_reportsOut _).trans ((State.answer_reportsOut ..).trans (List.append_assoc ..).symm)
  · have hreq := hclear h
    rw [State.report_full] at hreq
    swap
    · exact fun hlt => full (Nat.succ_le_of_lt hlt)
    obtain ⟨k, hexec, hk⟩ := takeRequest_next (kind := 0x29) (tag := tag) hl hreq
    refine ⟨_, hexec, rfl, ?_⟩
    subst hk
    dsimp only
    refine ⟨by rw [startFrame_eq]; rfl, ?_, ?_, ?_⟩
    · exact startFrame_missed _
    · exact (startFrame_reportsOut _).trans (State.answer_reportsOut ..)
    · exact (startFrame_answersOut _).trans (State.answer_answersOut ..)
  · obtain ⟨k, hexec, rfl⟩ := takeRequest_next (kind := 0x28) (tag := tag) (f := reqStatus) hl rfl
    exact ⟨_, hexec, rfl, answer_answeredBy _ _ rfl, answer_reports .., startFrame_missed _⟩

end Sys2Proof.Machine
end

section
/-! PROOFS. What the work of a tank event and what a request leave alone: a tank's work writes its tank and reports; a request
that is taken writes reports, the missed flag and, for CLEARSAFE, the safe latch of the link. -/

namespace Sys2Proof.Machine

/-! ### The work of a tank event -/

/-- From `s` to `t` only tank `k`, the waiting reports and the missed flag may have changed. -/
structure TankFrame (k : TankId) (s t : State) : Prop where
  state : t = { s with tanks := t.tanks, link := t.link }
  link : t.link = { s.link with reports := t.link.reports, missed := t.link.missed }
  others : ∀ j, j ≠ k → t.tank j = s.tank j

section
variable {k : TankId} {s t u : State}

theorem TankFrame.refl (k : TankId) (s : State) : TankFrame k s s := ⟨rfl, rfl, fun _ _ => rfl⟩

theorem TankFrame.trans (h : TankFrame k s t) (h' : TankFrame k t u) : TankFrame k s u where
  state := by rw [h'.state, h.state]
  link := by rw [h'.link, h.link]
  others := fun j hj => (h'.others j hj).trans (h.others j hj)

theorem TankFrame.lineFrame (h : TankFrame k s t) : LineFrame s t := by
  rw [h.state]
  exact ⟨rfl, rfl, rfl, rfl, rfl, rfl, rfl, h.link⟩

theorem TankFrame.lines (h : TankFrame k s t) : t.lines = s.lines := by rw [h.state]

theorem TankFrame.line (h : TankFrame k s t) (l : LineId) : t.line l = s.line l := by simp [State.line, h.lines]

theorem TankFrame.live (h : TankFrame k s t) (l : LineId) : t.live l = s.live l := congrArg Line.live (h.line l)

theorem TankFrame.ctx (h : TankFrame k s t) (l : LineId) : t.ctx l = s.ctx l := by simp [State.ctx, h.live]

theorem TankFrame.handoffs (h : TankFrame k s t) : t.handoffs = s.handoffs := by rw [h.state]

theorem TankFrame.store (h : TankFrame k s t) : t.store = s.store := by rw [h.state]

theorem TankFrame.reserve (h : TankFrame k s t) (j : TankId) : t.reserve j = s.reserve j := by
  simp only [State.reserve, h.store]

theorem TankFrame.boundLines (h : TankFrame k s t) (j : TankId) : t.boundLines j = s.boundLines j := by
  simp only [State.boundLines, h.ctx]

theorem setTank_tankFrame (k : TankId) (s : State) (x : Tank) : TankFrame k s (s.setTank k x) :=
  ⟨rfl, rfl, fun _ hj => State.tank_setTank_ne _ _ hj.symm⟩

theorem report_tankFrame (k : TankId) (s : State) (r : Report) : TankFrame k s (s.report r) := by
  unfold State.report; split <;> exact ⟨rfl, rfl, fun _ _ => rfl⟩

theorem tankReport_tankFrame (k : TankId) (e : TankEvent) (before : State) (requester : Option LineId)
    (followers : List (LineId × Nat)) (mismatched : LineSet) (s : State) :
    TankFrame k s (tankReport k e before requester followers mismatched s) := report_tankFrame ..

theorem reportIfChanged_tankFrame (k : TankId) (e : TankEvent) (before s : State) :
    TankFrame k s (reportIfChanged k e before s) := by
  unfold reportIfChanged; split
  · exact .refl k s
  · exact tankReport_tankFrame ..

/-- Work on tank `k` that keeps the frame of the state it began in. -/
abbrev TankWork.Frames (k : TankId) (s : State) (w : TankWork) : Prop := TankFrame k s w.s

variable {w : TankWork} {a : Settled}

theorem settleLine_frames (m : Nat) (granted : Option LineId) (l : LineId) (h : a.w.Frames k s) :
    (settleLine k m granted a l).w.Frames k s := by
  unfold settleLine
  split
  · exact h
  · split
    · exact h.trans (setTank_tankFrame ..)
    · exact h

theorem settle_frames (m : Nat) (granted : Option LineId) (h : w.Frames k s) : (settle k m granted w).w.Frames k s := by
  unfold settle
  generalize w.s.boundLines k = ls
  have ha : ({ w := w, followers := [], mismatched := 0 } : Settled).w.Frames k s := h
  revert ha
  generalize ({ w := w, followers := [], mismatched := 0 } : Settled) = a
  induction ls generalizing a with
  | nil => exact id
  | cons l rest ih => exact fun ha => ih _ (settleLine_frames m granted l ha)

theorem adoptMix_frames (m : Nat) (granted : Option LineId) (h : w.Frames k s) : (adoptMix k m granted w).w.Frames k s :=
  settle_frames m granted (h.trans (setTank_tankFrame ..))

theorem changeMix_frames (m : Nat) (granted : Option LineId) (h : w.Frames k s) : (changeMix k m granted w).w.Frames k s :=
  settle_frames m granted (h.trans (setTank_tankFrame ..))

theorem reportChange_frames (e : TankEvent) (before : State) (requester : Option LineId) (h : a.w.Frames k s) :
    (reportChange k e before requester a).Frames k s := h.trans (tankReport_tankFrame ..)

theorem dropHead_frames (l : LineId) (m : Nat) (h : w.Frames k s) : (dropHead k l m w).Frames k s :=
  h.trans (setTank_tankFrame ..)

@[simp] theorem satisfy_s (k : TankId) (l : LineId) (m : Nat) (w : TankWork) : (satisfy k l m w).s = w.s := by
  unfold satisfy; split <;> rfl

theorem satisfy_frames (l : LineId) (m : Nat) (h : w.Frames k s) : (satisfy k l m w).Frames k s := by
  unfold TankWork.Frames; rw [satisfy_s]; exact h

/-- What each round of the head examination keeps is kept by the whole of it: the adoption of an UNSET tank, the satisfaction of
a head of the tank's own mix, and the changeover (R131). -/
theorem examine_keeps {P : TankWork → Prop}
    (adopts : ∀ w l m rest, P w → (w.s.tank k).queue = (l, m) :: rest → (w.s.tank k).mix = none →
      P (dropHead k l m (reportChange k .adopt w.s (some l) (adoptMix k m (some l) w))))
    (satisfies : ∀ w l m rest, P w → (w.s.tank k).queue = (l, m) :: rest → P (satisfy k l m (dropHead k l m w)))
    (changes : ∀ w l m rest cur, P w → (w.s.tank k).queue = (l, m) :: rest → (w.s.tank k).mix = some cur →
      P (dropHead k l m (reportChange k .changeover w.s (some l) (changeMix k m (some l) w))))
    (n : Nat) (w : TankWork) (h : P w) : P (examine n k w) := by
  induction n generalizing w with
  | zero => exact h
  | succ n ih =>
    unfold examine
    split
    · exact h
    · next l m rest hq =>
      split
      · next hmix => exact ih _ (adopts w l m rest h hq hmix)
      · next cur hmix =>
        split
        · exact ih _ (satisfies w l m rest h hq)
        · split
          · exact ih _ (changes w l m rest cur h hq hmix)
          · exact h

theorem examineHead_frames (h : w.Frames k s) : (examineHead k w).Frames k s :=
  examine_keeps (P := fun w => w.Frames k s)
    (fun _ l m _ hw _ _ => dropHead_frames l m (reportChange_frames .adopt _ (some l) (adoptMix_frames m (some l) hw)))
    (fun _ l m _ hw _ => satisfy_frames l m (dropHead_frames l m hw))
    (fun _ l m _ _ hw _ _ =>
      dropHead_frames l m (reportChange_frames .changeover _ (some l) (changeMix_frames m (some l) hw))) _ w h

theorem deliverWork_frames (volume : Nat) (h : w.Frames k s) : (deliverWork k volume w).Frames k s :=
  h.trans (setTank_tankFrame ..)

theorem batchWork_frames (mix volume : Nat) (h : w.Frames k s) : (batchWork k mix volume w).Frames k s := by
  unfold batchWork
  split
  · exact examineHead_frames
      (reportChange_frames .adopt _ none (a := { adoptMix k mix none w with w := _ })
        (deliverWork_frames volume (adoptMix_frames mix none h)))
  · exact examineHead_frames ((deliverWork_frames volume h).trans (reportIfChanged_tankFrame ..))

theorem emptyWork_frames (h : w.Frames k s) : (emptyWork k w).Frames k s :=
  examineHead_frames ((h.trans (setTank_tankFrame ..)).trans (reportIfChanged_tankFrame ..))

/-- A tank event whose work keeps to its tank writes tanks, lines, hand-offs and reports (R121, R137). -/
theorem tankEvent_frame {f : TankWork → TankWork} (h : (f { s := s, notes := Vector.replicate 6 none, reqs := [] }).Frames k s) :
    LineFrame s (tankEvent k f s) := h.lineFrame.trans (closeTank_frame ..)

end

/-! ### What a request leaves of the link, the supply and the queue of commands -/

/-- From `s` to `t` the supply and the waiting commands stand, and of the link only the waiting reports and the missed flag have
changed. -/
structure Aside (s t : State) : Prop where
  supply : t.supply = s.supply
  pending : t.pending = s.pending
  link : t.link = { s.link with reports := t.link.reports, missed := t.link.missed }

section
variable {s t u : State}

theorem Aside.refl (s : State) : Aside s s := ⟨rfl, rfl, rfl⟩

theorem Aside.trans (h : Aside s t) (h' : Aside t u) : Aside s u :=
  ⟨h'.supply.trans h.supply, h'.pending.trans h.pending, by rw [h'.link, h.link]⟩

theorem LineFrame.aside (h : LineFrame s t) : Aside s t := ⟨h.supply, h.pending, h.link⟩

/-- A write of anything but the supply, the link and the waiting commands. -/
theorem Aside.of_eq (hs : t.supply = s.supply := by rfl) (hp : t.pending = s.pending := by rfl)
    (hl : t.link = s.link := by rfl) : Aside s t := ⟨hs, hp, by rw [hl]⟩

theorem Aside.foldl {α : Type} {f : State → α → State} (h : ∀ s a, Aside s (f s a)) (as : List α) (s : State) :
    Aside s (as.foldl f s) := by
  induction as generalizing s with
  | nil => exact .refl s
  | cons a rest ih => exact (h s a).trans (ih (f s a))

theorem judgeWarn_aside (z : ZoneId) (s : State) : Aside s (judgeWarn z s) := by rw [judgeWarn_eq]; exact .of_eq

theorem pushLimits_aside (set : Nat) (old new : Limits) (s : State) : Aside s (pushLimits set old new s) :=
  .foldl (fun _ _ => (modCtx_frame ..).aside) ..

theorem pushBands_aside (s : State) : Aside s (pushBands s) := .foldl (fun _ _ => (modCtx_frame ..).aside) ..

theorem startLine_aside (l : LineId) (c : Context) (s : State) : Aside s (startLine l c s) := by
  have hsettle : ∀ u, Aside u (settleStep l c u) := by
    intro u
    unfold settleStep
    split
    · exact .of_eq
    · split
      · exact .refl u
      · split
        · exact (modCtx_frame ..).aside
        · exact (raiseRequest_frame ..).aside
  have hlaunch : ∀ u, Aside u (injectOrStarve l c.lastPe (settleStep l c u)) :=
    fun u => (hsettle u).trans (injectOrStarve_frame ..).aside
  have hfirst (g : Stage → Stage) (f : Context → Context) (x : Line) :
      Aside s (injectOrStarve l c.lastPe (settleStep l c (((s.modStage c.hole c.stage g).modCtx l f).setLine l x))) := by
    have hstage : Aside s (s.modStage c.hole c.stage g) := .of_eq
    exact ((hstage.trans (modCtx_frame ..).aside).trans (setLine_frame ..).aside).trans (hlaunch _)
  unfold startLine
  dsimp only
  split
  · exact (hfirst ..).trans (lineReport_frame ..).aside
  · exact hfirst ..

theorem pauseLine_aside (l : LineId) (v : Live) (site : SiteHold) (s : State) : Aside s (pauseLine l v site s) := by
  have hpause : Aside s (if v.phase = .hold then addCause l .site (fun h : HoldSet => { h with site := some site }) s
      else enterHold l v.phase .site (fun h : HoldSet => { h with site := some site }) s) := by
    split
    · exact (addCause_frame ..).aside
    · exact (enterHold_frame ..).aside
  unfold pauseLine
  dsimp only
  split
  · exact hpause.trans (releaseCauses_frame ..).aside
  · exact hpause

theorem abortBound_aside (l : LineId) (c : Context) (s : State) : Aside s (abortBound l c s) := by
  have hrestored : Aside s (s.modStage c.hole c.stage Stage.restored) := .of_eq
  have hunbind : ∀ u, Aside u (unbind l u) := fun _ => .of_eq
  exact ((hrestored.trans (dropRequest_lineFrame ..).aside).trans (hunbind _)).trans (withdrawalReport_frame ..).aside

theorem configureGauge_aside (g : GaugeId) (new : GaugeCfg) (s : State) : Aside s (configureGauge g new s) := by
  unfold configureGauge
  dsimp only
  refine Aside.trans ?_ (actOnFaultChange_frame ..).aside
  refine Aside.trans ?_ (Aside.foldl (fun _ _ => (zoneReport_frame ..).aside) ..)
  refine Aside.trans ?_ (gaugeReport_frame ..).aside
  refine Aside.trans ?_ (Aside.foldl (fun _ _ => judgeWarn_aside ..) ..)
  exact .of_eq

theorem reroute_aside (z : ZoneId) (old : Routing) (s : State) : Aside s (reroute z old s) := by
  unfold reroute
  split
  · exact .refl s
  · split
    · exact .foldl (fun _ _ => (modCtx_frame ..).aside) ..
    · exact (routeTrip_frame ..).aside

theorem zeroGauge_aside (g : GaugeId) (s : State) : Aside s (zeroGauge g s) := by
  unfold zeroGauge; split
  · exact .refl s
  · exact .of_eq

theorem clearLatch_aside (z : ZoneId) (s : State) : Aside s (clearLatch z s) := by
  have hlatch : ∀ b, Aside s ((s.setLatch z false).setWarned z b) := fun _ => .of_eq
  exact (hlatch _).trans (Aside.foldl (fun _ _ => .of_eq) ..)

theorem wipeAll_aside (s : State) : Aside s (wipeAll s) := by
  unfold wipeAll wipeTankReports wipeZoneReports wipeGaugeReports wipeZones
  dsimp only
  refine Aside.trans ?_ (Aside.foldl (fun _ _ => (reportIfChanged_tankFrame ..).lineFrame.aside) ..)
  refine Aside.trans ?_ (Aside.foldl (fun _ _ => (zoneReport_frame ..).aside) ..)
  refine Aside.trans ?_ (Aside.foldl (fun _ _ => (gaugeReport_frame ..).aside) ..)
  refine Aside.trans ?_ (Aside.foldl (fun _ _ => judgeWarn_aside ..) ..)
  exact .of_eq

end

/-! ### Requests by their outcome -/

/-- What a request leaves: the state it was given, where it is refused, or one that keeps supply, link and commands aside. -/
def KeepsAside (s : State) (p : State × Reply) : Prop := Aside s p.1

section
variable {s t : State} {r : Result} {body : List Byte}

theorem KeepsAside.deny : KeepsAside s (deny s r) := .refl s

theorem KeepsAside.answer {a : Reply} : KeepsAside s (s, a) := .refl s

theorem KeepsAside.accept (h : Aside s t) : KeepsAside s (accept t body) := h

theorem KeepsAside.adjusted {b : Bool} (h : Aside s t) : KeepsAside s (acceptAdjusted t b body) := h

theorem KeepsAside.ite {c : Prop} [Decidable c] {p q : State × Reply} (hp : KeepsAside s p) (hq : KeepsAside s q) :
    KeepsAside s (if c then p else q) := by split <;> assumption

end

section
variable {s : State}

theorem storeHole_keeps (hole : Nat) (h : Hole) : KeepsAside s (storeHole hole h s) := by
  unfold storeHole
  refine .ite .deny ?_
  split
  · exact .ite .deny (.ite .deny (.accept .of_eq))
  · exact .ite .deny (.accept .of_eq)

theorem storeLimits_keeps (set : Nat) (new : Limits) (ladder : List LadderStep) :
    KeepsAside s (storeLimits set new ladder s) := by
  unfold storeLimits
  refine .ite .deny ?_
  split
  · exact .accept .of_eq
  · next old _ =>
    have hwrite (f : Store → Store) : Aside s (s.modStore f) := .of_eq
    refine .ite .deny ?_
    dsimp only
    exact .ite (.accept ((hwrite _).trans (pushLimits_aside ..))) (.accept .of_eq)

theorem setLock_keeps (kind number : Nat) (lk : Bool) : KeepsAside s (setLock kind number lk s) := by
  unfold setLock
  split
  · exact .ite .deny (.ite .deny (.accept .of_eq))
  · exact .ite .deny (.ite .deny (.accept .of_eq))
  · exact .deny

theorem query_keeps {α : Type} (ok : Bool) (found : Option α) (body : α → List Byte) :
    KeepsAside s (query ok found body s) := by
  unfold query
  refine .ite .deny ?_
  split
  · exact .deny
  · exact .accept (.refl s)

theorem reqDefstage_keeps (hole stage top bottom length set : Nat) :
    KeepsAside s (reqDefstage hole stage top bottom length set s) := by
  unfold reqDefstage
  refine .ite .deny ?_
  refine .ite .deny (.ite .deny ?_)
  split
  · exact .ite .deny (.ite .deny (.accept .of_eq))
  · exact .ite .deny (.ite .deny (.accept .of_eq))

theorem reqDefband_keeps (band : Nat) (upper lower : Int) (mask cap : Nat) :
    KeepsAside s (reqDefband band upper lower mask cap s) := by
  have hwrite (f : Store → Store) : Aside s (s.modStore f) := .of_eq
  exact .ite .deny (.accept ((hwrite _).trans (pushBands_aside _)))

theorem reqBind_keeps (line hole stage : Nat) (redo : Bool) : KeepsAside s (reqBind line hole stage redo s) := by
  unfold reqBind
  split
  · exact .deny
  · exact .accept .of_eq

theorem reqStart_keeps (line : Nat) : KeepsAside s (reqStart line s) := by
  unfold reqStart
  split
  · exact .deny
  · split
    · exact .deny
    · split
      · exact .deny
      · exact .accept (startLine_aside ..)

theorem reqPause_keeps (line : Nat) (holdTime decay : Option Nat) : KeepsAside s (reqPause line holdTime decay s) := by
  unfold reqPause
  split
  · split
    · exact .deny
    · refine .ite .deny ?_
      exact .ite .deny (.accept (pauseLine_aside ..))
  · exact .deny

theorem reqResume_keeps (line : Nat) : KeepsAside s (reqResume line s) := by
  have hresume (l : LineId) (h : HoldSet) : Aside s (resumeLine l h s) := by
    unfold resumeLine; split
    · exact .refl s
    · exact (releaseCauses_frame ..).aside
  unfold reqResume
  split
  · exact .deny
  · split
    · exact .deny
    · exact .ite .deny (.ite .deny (.ite .answer (.ite .answer (.accept (hresume ..)))))

theorem reqAbort_keeps (line : Nat) : KeepsAside s (reqAbort line s) := by
  unfold reqAbort
  split
  · exact .deny
  · split
    · exact .deny
    · exact .ite (.accept (drainLine_frame ..).aside) (.ite (.accept (abortBound_aside ..)) .deny)

theorem reqRelease_keeps (line : Nat) : KeepsAside s (reqRelease line s) := by
  unfold reqRelease
  split
  · exact .deny
  · split
    · exact .deny
    · exact .ite .deny (.accept .of_eq)
    · exact .deny

theorem tankEvent_aside {k : TankId} {f : TankWork → TankWork}
    (h : ∀ w : TankWork, w.Frames k s → (f w).Frames k s) : Aside s (tankEvent k f s) :=
  (tankEvent_frame (h _ (.refl k s))).aside

theorem reqTankcfg_keeps (tank reserve : Nat) : KeepsAside s (reqTankcfg tank reserve s) := by
  unfold reqTankcfg
  split
  · exact .deny
  · next k _ =>
    have hreserve (r : Nat) : Aside s (s.setReserve k r) := .of_eq
    have hreport (u : State) : Aside u (reportIfChanged k .tankcfg s u) := (reportIfChanged_tankFrame ..).lineFrame.aside
    have hclose (w : TankWork) : Aside w.s (closeTank k s w) := (closeTank_frame ..).aside
    exact .adjusted (((hreserve _).trans (hreport _)).trans (hclose { s := _, notes := _, reqs := _ }))

theorem reqBatch_keeps (tank mix volume : Nat) : KeepsAside s (reqBatch tank mix volume s) := by
  unfold reqBatch
  split
  · exact .ite .deny (.ite .deny (.accept (tankEvent_aside fun _ hw => batchWork_frames mix _ hw)))
  · exact .deny

theorem reqEmpty_keeps (tank : Nat) : KeepsAside s (reqEmpty tank s) := by
  unfold reqEmpty
  split
  · exact .deny
  · exact .accept (tankEvent_aside fun _ hw => emptyWork_frames hw)

theorem reqGaugecfg_keeps (gauge enabled zone span : Nat) : KeepsAside s (reqGaugecfg gauge enabled zone span s) := by
  unfold reqGaugecfg
  split
  · exact .ite (.adjusted (.refl s)) (.ite .deny (.adjusted (configureGauge_aside ..)))
  · exact .deny

theorem reqZonecfg_keeps (zone warn trip derate routing : Nat) :
    KeepsAside s (reqZonecfg zone warn trip derate routing s) := by
  unfold reqZonecfg
  split
  · next z r _ _ =>
    have hwrite (x : ZoneCfg) : Aside s (s.setZoneCfg z x) := .of_eq
    exact .adjusted ((((hwrite _).trans (judgeWarn_aside ..)).trans (zoneReport_frame ..).aside).trans (reroute_aside ..))
  · exact .deny

theorem reqZero_keeps (kind number : Nat) : KeepsAside s (reqZero kind number s) := by
  unfold reqZero zeroOne zeroZone
  split
  · split
    · exact .deny
    · exact .ite .deny (.ite .deny
        (.accept (((zeroGauge_aside ..).trans (judgeWarn_aside ..)).trans (zoneReport_frame ..).aside)))
  · split
    · exact .deny
    · exact .ite .deny (.accept
        (((Aside.foldl (fun _ _ => zeroGauge_aside ..) ..).trans (judgeWarn_aside ..)).trans (zoneReport_frame ..).aside))
  · exact .deny

theorem reqHclear_keeps (zone : Nat) : KeepsAside s (reqHclear zone s) := by
  unfold reqHclear
  split
  · exact .deny
  · exact .ite .deny (.ite .deny (.accept ((clearLatch_aside ..).trans (zoneReport_frame ..).aside)))

end

/-- Every request but CLEARSAFE and STATUS, which write the link, keeps supply, link and commands aside. STATUS clears the missed
flag, which `Aside` leaves open. -/
theorem handle_aside {i : Instr} (h : ∀ tag, i ≠ .clearsafe tag) (s : State) : Aside s (handle i s).1 := by
  change KeepsAside s (handle i s)
  cases i
  case clearsafe tag => exact absurd rfl (h tag)
  case defsec => exact .ite .deny (.ite (.accept (.refl s)) (.accept .of_eq))
  case defhole =>
    simp only [handle, reqDefhole]
    split
    · exact storeHole_keeps ..
    · exact .deny
  case defstage => exact reqDefstage_keeps ..
  case deflim => exact .ite (storeLimits_keeps ..) .deny
  case defband => exact reqDefband_keeps ..
  case defmix => exact .ite .deny (.ite .deny (.accept .of_eq))
  case lock | unlock => exact setLock_keeps ..
  case purge => exact .ite .deny (.ite .deny (.accept .of_eq))
  case wipe => exact .ite .deny (.accept (wipeAll_aside s))
  case qstage | qhole | qlim | qband | qmix => exact query_keeps ..
  case linecfg =>
    simp only [handle, reqLinecfg]
    split
    · exact .ite .deny (.adjusted .of_eq)
    · exact .deny
  case probe =>
    simp only [handle, reqProbe]
    split
    · exact .answer
    · exact .accept (.refl s)
  case bind => exact reqBind_keeps ..
  case start => exact reqStart_keeps ..
  case pause => exact reqPause_keeps ..
  case resume => exact reqResume_keeps ..
  case abort => exact reqAbort_keeps ..
  case release => exact reqRelease_keeps ..
  case tankcfg => exact reqTankcfg_keeps ..
  case batch => exact reqBatch_keeps ..
  case empty => exact reqEmpty_keeps ..
  case qtank | qline =>
    simp only [handle, reqQtank, reqQline]
    split
    · exact .deny
    · exact .accept (.refl s)
  case gaugecfg => exact reqGaugecfg_keeps ..
  case zonecfg => exact reqZonecfg_keeps ..
  case zero => exact reqZero_keeps ..
  case hclear => exact reqHclear_keeps ..
  case qgauge =>
    simp only [handle, reqQgauge]
    split
    · split
      · exact .deny
      · exact .accept (.refl s)
    · split
      · exact .deny
      · exact .accept (.refl s)
    · exact .deny
  case linkcfg => exact .adjusted .of_eq
  case status => exact .accept ⟨rfl, rfl, rfl⟩
  all_goals exact .deny

/-- CLEARSAFE writes the safe latch, the reports and the missed flag. -/
theorem reqClearsafe_link (s : State) :
    (reqClearsafe s).1 = { s with link := (reqClearsafe s).1.link } ∧
      (reqClearsafe s).1.link = { s.link with
        reports := (reqClearsafe s).1.link.reports, missed := (reqClearsafe s).1.link.missed,
        safeLatch := (reqClearsafe s).1.link.safeLatch } := by
  unfold reqClearsafe linkReport
  split
  · unfold accept State.report
    dsimp only
    split <;> exact ⟨rfl, rfl⟩
  · exact ⟨rfl, rfl⟩

/-- What every request keeps of the part: the supply, the waiting commands, and of the link all but the waiting reports, the missed
flag and, at CLEARSAFE, the safe latch. -/
theorem handle_link (i : Instr) (s : State) :
    (handle i s).1.supply = s.supply ∧ (handle i s).1.pending = s.pending ∧
      (handle i s).1.link = { s.link with
        reports := (handle i s).1.link.reports, missed := (handle i s).1.link.missed,
        safeLatch := (handle i s).1.link.safeLatch } ∧
      ((∀ tag, i ≠ .clearsafe tag) → (handle i s).1.link.safeLatch = s.link.safeLatch) := by
  by_cases h : ∀ tag, i ≠ .clearsafe tag
  · obtain ⟨hs, hp, hl⟩ := handle_aside h s
    exact ⟨hs, hp, by rw [hl], fun _ => by rw [hl]⟩
  · obtain ⟨tag, hi⟩ := not_forall.1 h
    rw [not_not] at hi
    subst hi
    obtain ⟨hstate, hlink⟩ := reqClearsafe_link s
    refine ⟨?_, ?_, hlink, fun hne => absurd rfl (hne tag)⟩
    · show (reqClearsafe s).1.supply = _; rw [hstate]
    · show (reqClearsafe s).1.pending = _; rw [hstate]

/-- Settles O6: a request is the reload of T1, its block's effect and its answer, then the arbiter; with 8 answers waiting it is
the reload alone. -/
theorem requestAnsweredOnce : Obligations.RequestAnsweredOnce := by
  intro i k s hk
  refine ⟨fun hl => ?_, fun good hok hfull => ?_⟩
  · obtain ⟨hsupply, hpending, hlink, hsafe⟩ := handle_link i (reloadT1 s)
    obtain ⟨⟨u, r⟩, hur⟩ : ∃ p, handle i (reloadT1 s) = p := ⟨_, rfl⟩
    obtain ⟨k', hexec, rfl⟩ := takeRequest_next (kind := k) (tag := requestTag i) (f := handle i) hl hur
    rw [hur] at hsupply hpending hlink hsafe ⊢
    refine ⟨_, (exec_request hk s).trans hexec, ?_, ?_, ?_, ?_, ?_, ?_, fun hne => ?_, hsupply, hpending⟩
    · refine (startFrame_answersOut _).trans ((State.answer_answersOut ..).trans ?_)
      unfold State.answersOut; rw [hlink]; rfl
    all_goals dsimp only; rw [startFrame_eq]; dsimp only [State.answer_link]
    · rw [hlink]; rfl
    · rw [hlink]; rfl
    · rw [hlink]; exact hl.ok
    · rw [hlink]; rfl
    · rw [hlink]; rfl
    · exact hsafe hne
  · have hdispatch : takeRequest k (requestTag i) (handle i) s = reloadT1 s := by
      rw [takeRequest, superviseFrame_ok hok]
      exact if_neg (Nat.not_lt.2 hfull)
    have hexec : exec i s = .next (startFrame (reloadT1 s)) := by
      rw [exec_request hk, takeEvent_good _ _ good, hdispatch]
    refine ⟨_, hexec, startFrame_only_link _, ?_, startFrame_answersOut _, startFrame_reportsOut _⟩
    obtain ⟨hframer, hgap, hstate, ht1, ht2, hsafe⟩ := startFrame_linkKept (reloadT1 s)
    exact ⟨hframer, hgap, hstate, ht1, ht2, hsafe⟩

end Sys2Proof.Machine
end

section
/-! PROOFS. Stage resolution, the admission checks, BIND, the cap in force and LINECFG. -/

namespace Sys2Proof.Machine

/-! ### The smallest of some caps -/

/-- The smallest of a list of values, any of which may be absent, is absent exactly where all are. -/
theorem foldl_minCap_none (l : List (Option Nat)) (d : Option Nat) :
    l.foldl minCap d = none ↔ d = none ∧ ∀ x ∈ l, x = none := by
  induction l generalizing d with
  | nil => simp
  | cons x rest ih =>
    have hmin : minCap d x = none ↔ d = none ∧ x = none := by cases d <;> cases x <;> simp [minCap]
    rw [List.foldl_cons, ih, hmin, List.forall_mem_cons, and_assoc]

/-- Where it is present it is one of them, and none is smaller. -/
theorem foldl_minCap_some {l : List (Option Nat)} {d : Option Nat} {m : Nat} (h : l.foldl minCap d = some m) :
    (d = some m ∨ some m ∈ l) ∧ (∀ x, d = some x → m ≤ x) ∧ ∀ x, some x ∈ l → m ≤ x := by
  induction l generalizing d with
  | nil =>
    simp only [List.foldl_nil] at h
    refine ⟨.inl h, fun x hx => ?_, fun x hx => by cases hx⟩
    rw [h] at hx; cases hx; exact le_refl m
  | cons y rest ih =>
    obtain ⟨hin, hleft, hrest⟩ := ih h
    have hd : ∀ x, d = some x → m ≤ x := by
      rintro x rfl
      cases y with
      | none => exact hleft x rfl
      | some v => exact (hleft _ rfl).trans (min_le_left x v)
    have hy : ∀ x, y = some x → m ≤ x := by
      rintro x rfl
      cases d with
      | none => exact hleft x rfl
      | some v => exact (hleft _ rfl).trans (min_le_right v x)
    refine ⟨?_, hd, fun x hx => ?_⟩
    · rcases hin with hmin | hmem
      · have hone : minCap d y = d ∨ minCap d y = y := by
          cases d <;> cases y <;> simp [minCap, Nat.le_total]
        rcases hone with he | he
        · exact .inl (he ▸ hmin)
        · exact .inr (List.mem_cons.2 (.inl (he ▸ hmin).symm))
      · exact .inr (List.mem_cons_of_mem _ hmem)
    · rcases List.mem_cons.1 hx with he | hmem
      · exact hy x he.symm
      · exact hrest x hmem

/-! ### What resolution finds (R25 to R29) -/

section
variable {s : State} {l : LineId} {h : Hole} {st : Stage} {redo : Bool} {r : Resolution}

/-- A limit set a stage can use (R25). -/
def Usable (p : Store) (h : Hole) (st : Stage) (k : Nat) (x : LimitSet) : Prop :=
  (st.limitSet = some k ∨ st.limitSet = none ∧ h.dfltSet = some k) ∧ tfind p.sets k = some x ∧
    ∀ y ∈ x.ladder, (tfind p.mixes y.mix).isSome = true

theorem candidateSet_iff {k : Nat} :
    candidateSet h st = some k ↔ st.limitSet = some k ∨ st.limitSet = none ∧ h.dfltSet = some k := by
  unfold candidateSet
  cases st.limitSet <;> simp

theorem usableSet_iff {p : Store} {k : Nat} {x : LimitSet} : usableSet p h st = some (k, x) ↔ Usable p h st k x := by
  unfold Usable
  rw [← candidateSet_iff, ← List.all_eq_true (l := x.ladder) (p := fun y => (tfind p.mixes y.mix).isSome)]
  unfold usableSet
  cases candidateSet h st with
  | none => simp
  | some j =>
    dsimp only
    cases hx : tfind p.sets j with
    | none =>
      simp only [reduceCtorEq, Option.some.injEq, false_iff]
      rintro ⟨rfl, hk, -⟩
      rw [hx] at hk; cases hk
    | some y =>
      dsimp only
      constructor
      · intro hy
        split at hy
        · next hall => cases hy; exact ⟨rfl, hx, hall⟩
        · cases hy
      · rintro ⟨hj, hk, hall⟩
        cases hj
        rw [hx] at hk; cases hk
        exact if_pos hall

theorem resolve_none_iff : resolve s l h st redo = none ↔ ∀ k x, ¬Usable s.store h st k x := by
  simp only [← usableSet_iff]
  unfold resolve
  cases hu : usableSet s.store h st with
  | none => simp
  | some p => simp; exact ⟨p.1, p.2, rfl⟩

/-- The result of resolution over the set it uses. -/
theorem resolve_some (hr : resolve s l h st redo = some r) :
    ∃ k x, Usable s.store h st k x ∧ r =
      { setNo := k, limits := x.limits, ladder := x.ladder, bandCap := bandCapOf s.store.bands h st, zones := h.zones,
        tank := (s.lineCfg l).tank, pass := if redo then st.pass + 1 else st.pass, midDepth := (st.top + st.bottom) / 2,
        waterDepth := waterDepthOf ((st.top + st.bottom) / 2) h.groundwater, length := st.length,
        vol := if redo then 0 else st.passVol, take := takeOf (if redo then 0 else st.passVol) st.length,
        step := startingStep (takeOf (if redo then 0 else st.passVol) st.length) x.ladder } := by
  unfold resolve at hr
  cases hu : usableSet s.store h st with
  | none => rw [hu] at hr; cases hr
  | some p =>
    rw [hu] at hr
    exact ⟨p.1, p.2, usableSet_iff.1 hu, (Option.some.inj hr).symm⟩

/-- The elevation interval of a stage meets that of a band on its section (R15). -/
def Band.Reaches (b : Band) (h : Hole) (st : Stage) : Prop :=
  hasSec b.mask h.sec = true ∧ h.collar - st.bottom ≤ b.upper ∧ b.lower ≤ h.collar - st.top

theorem Band.matches_iff (b : Band) :
    b.matches h.sec (h.collar - st.bottom) (h.collar - st.top) = true ↔ b.Reaches h st := by
  simp [Band.matches, Band.Reaches, and_assoc]

theorem bandCapOf_none_iff {bands : Table Band} :
    bandCapOf bands h st = none ↔ ∀ p ∈ bands, ¬p.2.Reaches h st := by
  simp only [bandCapOf, bandCapOver, foldl_minCap_none, List.forall_mem_map, true_and, ← Band.matches_iff, ite_eq_right_iff,
    reduceCtorEq, imp_false]

theorem bandCapOf_some {bands : Table Band} {cap : Nat} (hc : bandCapOf bands h st = some cap) :
    (∃ p ∈ bands, p.2.Reaches h st ∧ p.2.cap = cap) ∧ ∀ p ∈ bands, p.2.Reaches h st → cap ≤ p.2.cap := by
  obtain ⟨hin, -, hle⟩ := foldl_minCap_some hc
  constructor
  · rcases hin with hnone | hmem
    · cases hnone
    · obtain ⟨p, hp, hpc⟩ := List.mem_map.1 hmem
      split at hpc
      · next hm => exact ⟨p, hp, (Band.matches_iff _).1 hm, Option.some.inj hpc⟩
      · cases hpc
  · intro p hp hreach
    refine hle _ (List.mem_map.2 ⟨p, hp, ?_⟩)
    rw [if_pos ((Band.matches_iff _).2 hreach)]

/-- Every step before the starting one has an advance take that the take has reached (R29). -/
theorem startingStep_passes (take : Nat) (ladder : List LadderStep) (k : Nat) (h1 : 1 ≤ k)
    (hk : k < startingStep take ladder) : ∃ a, stepAdvance ladder k = some a ∧ a ≤ take := by
  induction ladder generalizing k with
  | nil => simp only [startingStep] at hk; omega
  | cons x rest ih =>
    unfold startingStep at hk
    split at hk
    · omega
    · next a ha =>
      split at hk
      · omega
      · next hreached =>
        obtain ⟨j, rfl⟩ : ∃ j, k = j + 1 := ⟨k - 1, by omega⟩
        cases j with
        | zero => exact ⟨a, by simp [stepAdvance, ha], by omega⟩
        | succ j =>
          obtain ⟨b, hb, hle⟩ := ih (j + 1) (by omega) (by omega)
          exact ⟨b, by simpa [stepAdvance] using hb, hle⟩

/-- The starting step is at least the first. -/
theorem startingStep_pos (take : Nat) (ladder : List LadderStep) : 1 ≤ startingStep take ladder := by
  unfold startingStep
  split
  · exact le_refl 1
  · split
    · exact le_refl 1
    · split <;> omega

/-- The starting step's advance take, where it has one, is above the take (R29). -/
theorem startingStep_above (take : Nat) (ladder : List LadderStep) (a : Nat)
    (h : stepAdvance ladder (startingStep take ladder) = some a) : take < a := by
  induction ladder with
  | nil => simp [stepAdvance, startingStep] at h
  | cons x rest ih =>
    unfold startingStep at h
    split at h
    · next hx => simp [stepAdvance, hx] at h
    · next b hb =>
      split at h
      · next hlt =>
        simp only [stepAdvance, Nat.sub_self, List.getElem?_cons_zero, Option.bind_some, hb, Option.some.injEq] at h
        exact h ▸ hlt
      · obtain ⟨j, hj⟩ : ∃ j, startingStep take rest = j + 1 := ⟨_, (Nat.sub_add_cancel (startingStep_pos take rest)).symm⟩
        apply ih
        rw [hj] at h ⊢
        simpa [stepAdvance, Nat.add_comm] using h

theorem waterDepthOf_cast (mid g : Nat) : (waterDepthOf mid (some g) : Int) = max 0 ((mid : Int) - g) := by
  simp only [waterDepthOf]; omega

end

/-- Settles O21: `resolve_some` gives the values, each with its own law. -/
theorem resolutionFindsPlanValues : Obligations.ResolutionFindsPlanValues := by
  intro s l h st redo usable reaches
  refine ⟨resolve_none_iff, fun r hr => ?_⟩
  obtain ⟨k, x, hx, rfl⟩ := resolve_some hr
  exact ⟨⟨x, hx, rfl, rfl⟩, bandCapOf_none_iff, fun _ => bandCapOf_some, rfl, rfl, rfl,
    fun g hg => by dsimp only; rw [hg]; exact waterDepthOf_cast .., fun hg => by dsimp only; rw [hg]; rfl,
    rfl, rfl, rfl, rfl, startingStep_passes _ _, startingStep_above _ _⟩

/-! ### The cap in force (R35) -/

section
variable {s : State} {c : Context}

theorem mem_allZones (z : ZoneId) : z ∈ allZones := by fin_cases z <;> decide

theorem mem_allGauges (g : GaugeId) : g ∈ allGauges := by fin_cases g <;> decide

theorem zoneFault_iff (z : ZoneId) :
    s.zoneFault z = true ↔ ∃ g, (s.gaugeCfg g).enabled = true ∧ (s.gaugeCfg g).zone = z ∧ (s.gauge g).fault = true := by
  simp only [State.zoneFault, State.faultedGauges, State.gaugesOf, Bool.not_eq_true', List.isEmpty_eq_false_iff_exists_mem,
    List.mem_filter, mem_allGauges, true_and, beq_iff_eq, Bool.and_eq_true]
  exact exists_congr fun g => ⟨fun ⟨hz, he, hf⟩ => ⟨he, hz, hf⟩, fun ⟨he, hz, hf⟩ => ⟨hz, he, hf⟩⟩

/-- The zone derates a line with this context (R35). -/
def State.Derates (s : State) (c : Context) (z : ZoneId) : Prop :=
  hasZone c.zones z = true ∧
    (s.zoneState z = .warn ∨ ∃ g, (s.gaugeCfg g).enabled = true ∧ (s.gaugeCfg g).zone = z ∧ (s.gauge g).fault = true)

theorem derates_iff (z : ZoneId) : (hasZone c.zones z && s.zoneDerates z) = true ↔ s.Derates c z := by
  simp only [State.Derates, Bool.and_eq_true, State.zoneDerates, Bool.or_eq_true, beq_iff_eq, zoneFault_iff]

theorem derate_eq (zs : ZoneSet) :
    s.derate zs = (allZones.map (fun z =>
      if hasZone zs z && s.zoneDerates z then some (s.zoneCfg z).derate else none)).foldl minCap none := by
  unfold State.derate
  rw [List.foldl_map]
  congr 1
  funext d z
  split
  · cases d <;> rfl
  · cases d <;> rfl

theorem derate_none (h : ∀ z, ¬s.Derates c z) : s.derate c.zones = none := by
  rw [derate_eq, foldl_minCap_none]
  refine ⟨rfl, List.forall_mem_map.2 fun z _ => if_neg ?_⟩
  rw [derates_iff]; exact h z

theorem derate_some {d : Nat} (h : s.derate c.zones = some d) :
    (∃ z, s.Derates c z ∧ (s.zoneCfg z).derate = d) ∧ ∀ z, s.Derates c z → d ≤ (s.zoneCfg z).derate := by
  rw [derate_eq] at h
  obtain ⟨hin, -, hle⟩ := foldl_minCap_some h
  constructor
  · rcases hin with hnone | hmem
    · cases hnone
    · obtain ⟨z, -, hz⟩ := List.mem_map.1 hmem
      split at hz
      · next hd => exact ⟨z, (derates_iff z).1 hd, Option.some.inj hz⟩
      · cases hz
  · intro z hz
    refine hle _ (List.mem_map.2 ⟨z, mem_allZones z, ?_⟩)
    rw [if_pos ((derates_iff z).2 hz)]

theorem derate_isSome {z : ZoneId} (h : s.Derates c z) : ∃ d, s.derate c.zones = some d := by
  refine Option.ne_none_iff_exists'.1 fun hnone => ?_
  rw [derate_eq, foldl_minCap_none, List.forall_mem_map] at hnone
  have := hnone.2 z (mem_allZones z)
  rw [if_pos ((derates_iff z).2 h)] at this
  cases this

theorem percent_le {p : Nat} (x : Nat) (h : p ≤ 100) : x * p / 100 ≤ x :=
  Nat.div_le_of_le_mul (by rw [Nat.mul_comm 100]; exact Nat.mul_le_mul_left x h)

theorem zoneCap_le_base (hv : s.store.configValid) : s.zoneCap c ≤ baseCap c.limits.pmax c.bandCap := by
  unfold State.zoneCap
  split
  · exact le_refl _
  · next d hd =>
    obtain ⟨⟨z, -, rfl⟩, -⟩ := derate_some hd
    exact percent_le _ (hv.zones z).2.2.2.2

theorem cap_le_zoneCap (hv : s.store.configValid) : s.cap c ≤ s.zoneCap c := by
  unfold State.cap
  split
  · exact percent_le _ (hv.link.2.2.2.trans (by decide))
  · exact le_refl _

end

/-- Settles O22: the smallest derate is `derate_some`, and each percentage only lowers. -/
theorem capStagesOnlyLower : Obligations.CapStagesOnlyLower := by
  intro s c base derates
  have hbase : baseCap c.limits.pmax c.bandCap = base := rfl
  refine ⟨fun h => ?_, fun z hz hmin => ?_, fun h => by simp [State.cap, h], fun h => by simp [State.cap, h], fun hv => ?_⟩
  · have hnone : s.derate c.zones = none := derate_none h
    rw [State.zoneCap, hnone]; rfl
  · obtain ⟨d, hd⟩ := derate_isSome (c := c) hz
    obtain ⟨⟨y, hy, hyd⟩, hle⟩ := derate_some hd
    have heq : d = (s.zoneCfg z).derate := le_antisymm (hle z hz) (hyd ▸ hmin y hy)
    rw [State.zoneCap, hd, heq]; rfl
  · refine ⟨cap_le_zoneCap hv, zoneCap_le_base hv, ?_⟩
    rw [← hbase]; unfold baseCap; split
    · exact le_refl _
    · exact min_le_left ..

/-! ### LINECFG (R59) -/

theorem nearestInterval_mem (n : Nat) : nearestInterval n ∈ [100, 200, 500, 1000] := by
  unfold nearestInterval; split_ifs <;> simp

/-- The interval stored is at the least distance, and of two at that distance the larger (R59). -/
theorem nearestInterval_nearest (n : Nat) (m : Int) (h : m ∈ [100, 200, 500, 1000]) :
    ((nearestInterval n : Int) - n).natAbs < (m - n).natAbs ∨
      ((nearestInterval n : Int) - n).natAbs = (m - n).natAbs ∧ m ≤ nearestInterval n := by
  simp only [List.mem_cons, List.not_mem_nil, or_false] at h
  unfold nearestInterval
  split_ifs <;> omega

theorem LineCfg.clamped_eq (k : TankId) (interval kp ki factor span trace : Nat) :
    LineCfg.clamped k interval kp ki factor span trace =
      { tank := k, interval := nearestInterval interval, kp := min kp 255, ki := min ki 255, factor := max 1 (min factor 1000)
        span := max 1000 (min span 16000), trace := min trace 255 } := by
  simp only [LineCfg.clamped, clampN_eq (Nat.zero_le 255), clampN_eq (show 1 ≤ 1000 by decide),
    clampN_eq (show 1000 ≤ 16000 by decide), Nat.zero_max]

/-- Settles O23: the record stored is the clamped one, and its interval the nearest member. -/
theorem linecfgStoresTheNearestValues : Obligations.LinecfgStoresTheNearestValues := by
  intro s tag line tank interval kp ki factor span trace hl c
  refine ⟨fun hbad => .denied hl rfl rfl ?_, fun l v hline h1 h2 hv => .denied hl rfl rfl ?_, fun l k hline htank hv => ?_⟩
  · show reqLinecfg .. = _
    by_cases hline : 1 ≤ line ∧ line ≤ 6
    · have htank : tankOf tank = none := tankOf_none (not_inRange_iff.2 fun h => hbad ⟨hline.1, hline.2, h⟩)
      simp [reqLinecfg, htank]
    · simp [reqLinecfg, lineOf_none (not_inRange_iff.2 hline)]
  · show reqLinecfg .. = _
    obtain ⟨k, rfl⟩ : ∃ k : TankId, tank = k.val + 1 := ⟨⟨tank - 1, by omega⟩, by simp; omega⟩
    have hv' : (reloadT1 s).live l = some v := hv
    subst hline
    simp [reqLinecfg, hv']
  · subst hline htank
    let new := LineCfg.clamped k interval kp ki factor span trace
    let asked : LineCfg := { tank := k, interval := interval, kp := kp, ki := ki, factor := factor, span := span, trace := trace }
    have hreq : handle c (reloadT1 s) =
        ((reloadT1 s).modStore (fun p => { p with lineCfg := p.lineCfg.set l new }),
          { result := if decide (new ≠ asked) then .okAdjusted else .ok, body := new.bytes }) := by
      show reqLinecfg .. = _
      have hv' : (reloadT1 s).live l = none := hv
      simp only [reqLinecfg, lineOf_val, tankOf_val, hv']
      rfl
    obtain ⟨j, hexec, hans⟩ := exec_answered (kind := 0x90) hl rfl rfl hreq (.of_link rfl)
    have hcfg : ((s.store.lineCfg.set l new)[l] : LineCfg) = new := by simp
    refine ⟨_, nearestInterval interval, hexec, ?_, nearestInterval_mem _, nearestInterval_nearest _,
      if decide (new ≠ asked) then .okAdjusted else .ok, ?_, ?_, ?_⟩
    · rw [← LineCfg.clamped_eq]; rfl
    · show Answered s _ 0x90 tag _ (LineCfg.bytes ((s.store.lineCfg.set l new)[l])) []
      rw [hcfg]
      exact hans
    · split
      · exact .inr rfl
      · exact .inl rfl
    · show _ ↔ (s.store.lineCfg.set l new)[l] = asked
      rw [hcfg]
      by_cases he : new = asked <;> simp [he]

/-! ### The admission checks (R60, R61, R30) -/

section
variable {s : State} {l : LineId} {hole stage : Nat} {redo : Bool} {h : Hole} {st : Stage} {r : Resolution}

theorem zoneBars_iff (z : ZoneId) : s.zoneBars z = true ↔ s.latched z = true ∧ (s.zoneCfg z).routing ≠ .report := by
  have htrip : (s.zoneState z == .trip) = s.latched z := by
    unfold State.zoneState
    cases s.latched z <;> cases s.warned z <;> rfl
  simp [State.zoneBars, htrip]

theorem boundOn_none_iff : s.boundOn hole = none ↔ ∀ k c, s.ctx k = some c → c.hole ≠ hole := by
  simp only [State.boundOn, List.find?_eq_none, mem_allLines, true_imp_iff, Option.any_eq_true, beq_iff_eq, not_exists, not_and,
    ne_eq]

theorem boundOn_some {k : LineId} (h : s.boundOn hole = some k) : ∃ c, s.ctx k = some c ∧ c.hole = hole := by
  have := List.find?_some h
  simpa only [Option.any_eq_true, beq_iff_eq] using this

/-- The planned neighbours of a hole are those that either names (R3, R61). -/
theorem mem_neighboursOf (y : Nat) : y ∈ s.neighboursOf hole ↔ s.neighbours hole y = true := by
  rw [State.neighboursOf, List.mem_filter, and_iff_right_iff_imp]
  intro hy
  unfold State.neighbours at hy
  split at hy
  · next hx hy' _ hfound => exact List.mem_map.2 ⟨_, tfind_mem _ _ _ hfound, rfl⟩
  · cases hy

theorem boundNeighbour_none_iff :
    s.boundNeighbour hole = none ↔ ∀ k c, s.ctx k = some c → s.neighbours hole c.hole = false := by
  have hnone (y : Nat) : ¬(s.boundOn y).isSome = true ↔ ∀ k c, s.ctx k = some c → c.hole ≠ y := by
    rw [← boundOn_none_iff, Option.not_isSome_iff_eq_none]
  rw [State.boundNeighbour, List.find?_eq_none]
  simp only [mem_neighboursOf, hnone]
  constructor
  · intro hall k c hc
    rw [Bool.eq_false_iff]
    exact fun hn => hall _ hn k c hc rfl
  · intro hall y hy k c hc he
    rw [← he, hall k c hc] at hy
    cases hy

theorem boundNeighbour_some {y : Nat} (h : s.boundNeighbour hole = some y) :
    ∃ k c, s.ctx k = some c ∧ c.hole = y ∧ s.neighbours hole y = true ∧ s.boundOn y = some k := by
  have hmem := (mem_neighboursOf y).1 (List.mem_of_find?_eq_some h)
  obtain ⟨k, hk⟩ := Option.isSome_iff_exists.1 (List.find?_some (p := fun y => (s.boundOn y).isSome) h)
  obtain ⟨c, hc, hhole⟩ := boundOn_some hk
  exact ⟨k, c, hc, hhole, hmem, hk⟩

/-- A neighbour of lower order that is not CLOSED (R61, check 8). -/
def State.OpenBefore (s : State) (hole order y : Nat) : Prop :=
  ∃ hy, s.neighbours hole y = true ∧ tfind s.store.holes y = some hy ∧ hy.order < order ∧ s.holeClosed y = false

theorem openBefore_iff (order y : Nat) :
    (y ∈ s.neighboursOf hole ∧
      ((tfind s.store.holes y).any (fun hy => decide (hy.order < order)) && !s.holeClosed y) = true) ↔
      s.OpenBefore hole order y := by
  simp only [mem_neighboursOf, State.OpenBefore, Bool.and_eq_true, Option.any_eq_true, decide_eq_true_eq,
    Bool.not_eq_true']
  exact ⟨fun ⟨hn, ⟨hy, hf, ho⟩, hc⟩ => ⟨hy, hn, hf, ho, hc⟩, fun ⟨hy, hn, hf, ho, hc⟩ => ⟨hn, ⟨hy, hf, ho⟩, hc⟩⟩

theorem openNeighbour_none_iff (order : Nat) : s.openNeighbour hole order = none ↔ ∀ y, ¬s.OpenBefore hole order y := by
  rw [State.openNeighbour, List.find?_eq_none]
  exact forall_congr' fun y => by rw [← openBefore_iff, not_and]

theorem openNeighbour_some {order y : Nat} (h : s.openNeighbour hole order = some y) : s.OpenBefore hole order y :=
  have hp := List.find?_some (l := s.neighboursOf hole)
    (p := fun y => (tfind s.store.holes y).any (fun x : Hole => decide (x.order < order)) && !s.holeClosed y) (by
      unfold State.openNeighbour at h; exact h)
  (openBefore_iff order y).1 ⟨List.mem_of_find?_eq_some h, hp⟩

/-- In a list whose entries rise, the first that satisfies `p` is the least. -/
theorem find?_least {ks : List Nat} (hs : ks.Pairwise (· < ·)) {p : Nat → Bool} {y x : Nat} (hy : ks.find? p = some y)
    (hx : x ∈ ks) (hpx : p x = true) : y ≤ x := by
  obtain ⟨-, before, after, rfl, hbefore⟩ := List.find?_eq_some_iff_append.1 hy
  rcases List.mem_append.1 hx with hx | hx
  · exact absurd hpx (by simpa using hbefore x hx)
  · rcases List.mem_cons.1 hx with rfl | hx
    · exact le_refl _
    · exact ((List.pairwise_cons.1 (List.pairwise_append.1 hs).2.1).1 x hx).le

theorem openNeighbour_least {order y x : Nat} (hs : tsorted s.store.holes = true)
    (hy : s.openNeighbour hole order = some y) (hx : s.OpenBefore hole order x) : y ≤ x := by
  obtain ⟨hmem, hpx⟩ := (openBefore_iff order x).2 hx
  refine find?_least ?_ hy hmem hpx
  exact List.Pairwise.filter _ (List.pairwise_map.2 ((tsorted_iff _).1 hs))

/-- The zone bars a stage of a hole with these zones (R60, check 9). -/
def State.Bars (s : State) (zs : ZoneSet) (z : ZoneId) : Prop :=
  hasZone zs z = true ∧ s.latched z = true ∧ (s.zoneCfg z).routing ≠ .report

theorem bars_iff (zs : ZoneSet) (z : ZoneId) : (hasZone zs z && s.zoneBars z) = true ↔ s.Bars zs z := by
  rw [Bool.and_eq_true, zoneBars_iff]; rfl

theorem barringZone_none_iff (zs : ZoneSet) : s.barringZone zs = none ↔ ∀ z, ¬s.Bars zs z := by
  simp only [State.barringZone, List.find?_eq_none, mem_allZones, true_imp_iff, bars_iff]

theorem barringZone_some {zs : ZoneSet} {z : ZoneId} (hz : s.Bars zs z) (hmin : ∀ y, y < z → ¬s.Bars zs y) :
    s.barringZone zs = some z := by
  unfold State.barringZone
  rw [List.find?_eq_some_iff_append]
  refine ⟨(bars_iff zs z).2 hz, allZones.take z.val, allZones.drop (z.val + 1), by fin_cases z <;> rfl, fun y hy => ?_⟩
  have hlt : y < z := by fin_cases z <;> revert y <;> decide
  rw [Bool.not_eq_true', Bool.eq_false_iff, ne_eq, bars_iff]
  exact hmin y hlt

/-- The checks of a named stage on an IDLE line (R60, checks 3 to 9). -/
theorem admission_planned (hn : 1 ≤ hole ∧ hole ≤ 9999 ∧ 1 ≤ stage ∧ stage ≤ 24) (hv : s.live l = none)
    (hh : tfind s.store.holes hole = some h) (hst : s.stageRec hole stage = some st) :
    admission s (l.val + 1) hole stage redo = (admitStage s l hole h st redo).map (fun r => (l, r)) := by
  have hr1 : inRange 1 9999 hole = true := inRange_iff.2 ⟨hn.1, hn.2.1⟩
  have hr2 : inRange 1 24 stage = true := inRange_iff.2 hn.2.2
  simp only [admission, lineOf_val, hr1, hr2, hv, hh, hst]
  cases admitStage s l hole h st redo <;> rfl

/-- The checks of an unlocked stage that may be bound (R60, checks 5 to 9). -/
theorem admitStage_fits (hsec : (tfind s.store.secs h.sec).any (·.locked) = false) (hh : h.locked = false)
    (hdone : ¬(st.status = .complete ∧ (redo = false ∨ st.pass = 7))) (hredo : ¬(redo = true ∧ st.status ≠ .complete)) :
    admitStage s l hole h st redo =
      (resolve s l h st redo).elim
        (.error { result := .noLimits, value := orZero (candidateSet h st), qualifier := 0 }) (admitPlace s hole h) := by
  simp only [admitStage, hsec, hh, hdone, hredo, if_false, Bool.false_eq_true]
  cases resolve s l h st redo <;> rfl

end

/-- Settles O20: the branches of `admission`, `admitStage` and `admitPlace` in their order. -/
theorem admissionChecksInOrder : Obligations.AdmissionChecksInOrder := by
  intro s l hole stage redo h st r a named idle planned unlocked fits resolved free apart ordered bars
  have hplanned : planned → a = (admitStage s l hole h st redo).map (fun r => (l, r)) := fun ⟨⟨hn, hv⟩, hh, hst⟩ =>
    admission_planned hn hv hh hst
  have hopen (p : unlocked) : (tfind s.store.secs h.sec).any (·.locked) = false := by
    rw [Bool.eq_false_iff, ne_eq, Option.any_eq_true]
    rintro ⟨x, hx, hl⟩
    rw [p.2.1 x hx] at hl
    cases hl
  have hfits (p : fits) : a = ((resolve s l h st redo).elim
      (.error { result := .noLimits, value := orZero (candidateSet h st), qualifier := 0 })
      (admitPlace s hole h)).map (fun r => (l, r)) := by
    obtain ⟨hu, hdone, hredo⟩ := p
    rw [hplanned hu.1, admitStage_fits (hopen hu) hu.2.2 ?_ ?_]
    · rintro ⟨hc, hr | hp⟩
      · rw [hr] at hdone
        cases (hdone hc).1
      · exact (hdone hc).2 hp
    · exact fun ⟨hr, hc⟩ => hc (hredo hr)
  have hresolved (p : resolved) : a = (admitPlace s hole h r).map (fun r => (l, r)) := by
    rw [hfits p.1, p.2, Option.elim_some]
  have hfree (p : free) : s.boundOn hole = none := boundOn_none_iff.2 p.2
  have hapart (p : apart) : s.boundNeighbour hole = none := boundNeighbour_none_iff.2 p.2
  have hordered (p : ordered) : s.openNeighbour hole h.order = none :=
    (openNeighbour_none_iff _).2 fun y ⟨hy, hn, hf, ho, hc⟩ => absurd (p.2 y hy hn hf ho) (by rw [hc]; exact Bool.false_ne_true)
  refine ⟨fun line hbad => ?_, fun v hn hv => ?_, fun p hh => ?_, fun p hh hst => ?_, fun x p hx hlock => ?_,
    fun p hx hlock => ?_, fun p hc hr => ?_, fun p hc hr => ?_, fun p hr => ?_, fun p hbound => ?_, fun p hbound => ?_,
    fun p hno => ?_, fun z p hz hmin => ?_, fun p hz => ?_⟩
  · by_cases hline : 1 ≤ line ∧ line ≤ 6
    · have hrange : (inRange 1 9999 hole && inRange 1 24 stage) = false := by
        rw [Bool.eq_false_iff, ne_eq, Bool.and_eq_true, inRange_iff, inRange_iff]
        exact fun ⟨⟨a1, a2⟩, b⟩ => hbad ⟨hline.1, hline.2, a1, a2, b⟩
      simp [admission, hrange]
      split <;> rfl
    · simp [admission, lineOf_none (not_inRange_iff.2 hline)]
  · have hr1 : inRange 1 9999 hole = true := inRange_iff.2 ⟨hn.1, hn.2.1⟩
    have hr2 : inRange 1 24 stage = true := inRange_iff.2 hn.2.2
    simp [a, admission, hr1, hr2, hv, State.phase, lineStateCode]
  · have hr1 : inRange 1 9999 hole = true := inRange_iff.2 ⟨p.1.1, p.1.2.1⟩
    have hr2 : inRange 1 24 stage = true := inRange_iff.2 p.1.2.2
    simp [a, admission, hr1, hr2, p.2, hh]
  · have hr1 : inRange 1 9999 hole = true := inRange_iff.2 ⟨p.1.1, p.1.2.1⟩
    have hr2 : inRange 1 24 stage = true := inRange_iff.2 p.1.2.2
    simp [a, admission, hr1, hr2, p.2, hh, hst]
  · rw [hplanned p]
    simp [admitStage, hx, hlock]
    rfl
  · have hsec : (tfind s.store.secs h.sec).any (·.locked) = false := by
      rw [Bool.eq_false_iff, ne_eq, Option.any_eq_true]
      rintro ⟨x, hf, hl⟩
      rw [hx x hf] at hl
      cases hl
    rw [hplanned p]
    simp [admitStage, hsec, hlock]
    rfl
  · rw [hplanned p.1]
    simp only [admitStage, hopen p, p.2.2, if_false, Bool.false_eq_true, if_pos (And.intro hc hr)]
    rfl
  · rw [hplanned p.1]
    simp only [admitStage, hopen p, p.2.2, if_false, Bool.false_eq_true, if_neg (fun hd => hc (And.left hd)),
      if_pos (And.intro hr hc)]
    rfl
  · rw [hfits p, hr]
    rfl
  · have hne : s.boundOn hole ≠ none := fun hnone => by
      obtain ⟨k, c, hc, hh⟩ := hbound
      exact boundOn_none_iff.1 hnone k c hc hh
    obtain ⟨k, hk⟩ := Option.ne_none_iff_exists'.1 hne
    obtain ⟨c, hc, hh⟩ := boundOn_some hk
    refine ⟨k, c, hc, hh, ?_⟩
    rw [hresolved p, admitPlace, hk]
    rfl
  · have hne : s.boundNeighbour hole ≠ none := fun hnone => by
      obtain ⟨k, c, hc, hn⟩ := hbound
      rw [boundNeighbour_none_iff.1 hnone k c hc] at hn
      cases hn
    obtain ⟨y, hy⟩ := Option.ne_none_iff_exists'.1 hne
    obtain ⟨k, c, hc, rfl, hn, hk⟩ := boundNeighbour_some hy
    refine ⟨k, c, hc, hn, ?_⟩
    rw [hresolved p.1, admitPlace, hfree p, hy]
    show Except.map _ (Except.error ({ result := .neighbour, value := c.hole, qualifier := orNoLine (s.boundOn c.hole) } : Denial)) = _
    rw [hk]
    rfl
  · have hne : s.openNeighbour hole h.order ≠ none := fun hnone =>
      hno ⟨p, fun y hy hn hf ho => by
        by_contra hc
        exact (openNeighbour_none_iff _).1 hnone y ⟨hy, hn, hf, ho, by simpa using hc⟩⟩
    obtain ⟨y, hy⟩ := Option.ne_none_iff_exists'.1 hne
    obtain ⟨rec, hn, hf, ho, hc⟩ := openNeighbour_some hy
    refine ⟨y, rec, hn, hf, ho, hc, ?_, fun hcan x hx hxn hxf hxo hxc =>
      openNeighbour_least hcan.holes.1 hy ⟨hx, hxn, hxf, hxo, hxc⟩⟩
    rw [hresolved p.1.1, admitPlace, hfree p.1, hapart p, hy]
    rfl
  · rw [hresolved p.1.1.1, admitPlace, hfree p.1.1, hapart p.1, hordered p, barringZone_some hz hmin]
    rfl
  · rw [hresolved p.1.1.1, admitPlace, hfree p.1.1, hapart p.1, hordered p, (barringZone_none_iff _).2 hz]
    rfl

/-! ### BIND and PROBE (R30, R62) -/

/-- What the checks of an accepted BIND have established (R60). -/
structure Admitted (s : State) (l : LineId) (hole stage : Nat) (redo : Bool) (h : Hole) (st : Stage) (r : Resolution) : Prop where
  named : 1 ≤ hole ∧ hole ≤ 9999 ∧ 1 ≤ stage ∧ stage ≤ 24
  idle : s.live l = none
  hole_found : tfind s.store.holes hole = some h
  stage_found : s.stageRec hole stage = some st
  resolved : resolve s l h st redo = some r
  free : s.boundOn hole = none
  apart : s.boundNeighbour hole = none

theorem admitPlace_ok {s : State} {hole : Nat} {h : Hole} {r r' : Resolution} (ok : admitPlace s hole h r = .ok r') :
    r' = r ∧ s.boundOn hole = none ∧ s.boundNeighbour hole = none := by
  unfold admitPlace at ok
  split at ok
  · cases ok
  · split at ok
    · cases ok
    · split at ok
      · cases ok
      · split at ok <;> cases ok
        exact ⟨rfl, ‹_›, ‹_›⟩

theorem admitStage_ok {s : State} {l : LineId} {hole : Nat} {h : Hole} {st : Stage} {redo : Bool} {r : Resolution}
    (ok : admitStage s l hole h st redo = .ok r) :
    resolve s l h st redo = some r ∧ s.boundOn hole = none ∧ s.boundNeighbour hole = none := by
  unfold admitStage at ok
  split_ifs at ok
  split at ok
  · cases ok
  · obtain ⟨rfl, hfree, hapart⟩ := admitPlace_ok ok
    exact ⟨‹_›, hfree, hapart⟩

theorem admission_ok {s : State} {line hole stage : Nat} {redo : Bool} {l : LineId} {r : Resolution}
    (ok : admission s line hole stage redo = .ok (l, r)) :
    lineOf line = some l ∧ ∃ h st, Admitted s l hole stage redo h st r := by
  unfold admission at ok
  split at ok
  · cases ok
  · next k hk =>
    split_ifs at ok with hr hv
    split at ok
    · cases ok
    · next h hh =>
      split at ok
      · cases ok
      · next st hst =>
        split at ok
        · cases ok
        · next r' hadmit =>
          cases ok
          obtain ⟨hres, hfree, hapart⟩ := admitStage_ok hadmit
          simp only [Bool.not_eq_true', Bool.not_eq_false, Bool.and_eq_true, inRange_iff] at hr
          exact ⟨hk, h, st, ⟨hr.1.1, hr.1.2, hr.2⟩, Option.not_isSome_iff_eq_none.1 hv, hh, hst, hres, hfree, hapart⟩

theorem Stage.bound_eq (st : Stage) (redo : Bool) :
    st.bound redo = { st with
      status := .bound
      prior := some { status := st.status, redo := if redo then some (st.pass, st.passVol) else none }
      pass := if redo then st.pass + 1 else st.pass
      passVol := if redo then 0 else st.passVol } := by
  cases redo <;> rfl

theorem bindLine_stages (l : LineId) (hole stage : Nat) (redo : Bool) (r : Resolution) (s : State) :
    (bindLine l hole stage redo r s).store.stages = tmod s.store.stages (stageKey hole stage) (fun st => st.bound redo) := rfl

theorem bindLine_sets (l : LineId) (hole stage : Nat) (redo : Bool) (r : Resolution) (s : State) :
    (bindLine l hole stage redo r s).store.sets = tmod s.store.sets r.setNo (fun x => { x with used := true }) := rfl

/-- Settles O19: PROBE and BIND run the same checks; an accepted BIND is `bindLine`. -/
theorem bindCreatesTheContext : Obligations.BindCreatesTheContext := by
  intro s tag line hole stage redo hl
  refine ⟨fun d hd => ⟨.denied hl rfl rfl ?_,
    .of_handle (r := { result := d.result, body := u16 d.value ++ u8 d.qualifier }) hl rfl rfl ?_⟩,
    fun l r hok => ⟨.of_handle (r := { result := .ok, body := r.bytes }) hl rfl rfl ?_, ?_⟩⟩
  · have hd' : admission (reloadT1 s) line hole stage redo = .error d := hd
    show reqBind .. = _
    rw [reqBind, hd']
  · have hd' : admission (reloadT1 s) line hole stage redo = .error d := hd
    show reqProbe .. = _
    rw [reqProbe, hd']
  · have hok' : admission (reloadT1 s) line hole stage redo = .ok (l, r) := hok
    show reqProbe .. = _
    rw [reqProbe, hok']
    rfl
  · obtain ⟨-, h, st, had⟩ := admission_ok hok
    have hreq : handle (.bind tag line hole stage redo) (reloadT1 s) = accept (bindLine l hole stage redo r (reloadT1 s)) r.bytes := by
      have hok' : admission (reloadT1 s) line hole stage redo = .ok (l, r) := hok
      show reqBind .. = _
      rw [reqBind, hok']
    obtain ⟨k, hexec, hans⟩ := exec_accepted (kind := 0x99) hl rfl rfl hreq rfl
    refine ⟨st, _, had.stage_found, hexec, hans, rfl, fun n => ?_, fun n => ?_⟩
    · show tfind (bindLine l hole stage redo r (reloadT1 s)).store.stages n = _
      rw [bindLine_stages, tfind_tmod]
      split
      · next he =>
        subst he
        rw [show tfind (reloadT1 s).store.stages (stageKey hole stage) = some st from had.stage_found, Option.map_some,
          Stage.bound_eq]
      · rfl
    · show tfind (bindLine l hole stage redo r (reloadT1 s)).store.sets n = _
      rw [bindLine_sets, tfind_tmod]
      split
      · next he => simp [he, reloadT1_eq]
      · next he => simp [reloadT1_eq]

end Sys2Proof.Machine
end

section
/-! PROOFS. The requests and the field events of one line: each is a step that writes that line, hands instructions over and
queues reports, and nothing else of the part moves. -/

namespace Sys2Proof.Machine

/-! ### Steps of one line -/

/-- The report queue has room for these reports, or there are none (R167). -/
def State.takes (s : State) (rs : List Report) : Prop := rs ≠ [] → s.roomFor rs.length

theorem State.takes_nil (s : State) : s.takes [] := fun h => absurd rfl h

theorem State.roomFor.takes {s : State} {n : Nat} (h : s.roomFor n) {rs : List Report} (hn : rs.length ≤ n := by simp) :
    s.takes rs := fun _ => h.mono hn

theorem State.takes.left {s : State} {rs qs : List Report} (h : s.takes (rs ++ qs)) : s.takes rs := fun hne =>
  (h (fun he => hne (List.append_eq_nil_iff.1 he).1)).mono (by simp)

/-- At most 8 answers and 32 reports wait (R166, R167). -/
def State.bounded (s : State) : Prop :=
  s.link.answers.length ≤ Config.maxAnswers ∧ s.link.reports.length ≤ Config.maxReports

theorem State.bounded.report {s : State} (h : s.bounded) (r : Report) : (s.report r).bounded := by
  unfold State.report
  split
  · next hroom => exact ⟨h.1, by rw [State.modLink]; simpa using hroom⟩
  · exact h

/-- A report never takes those that wait from the queue (R167). -/
theorem State.report_grows (s : State) (r : Report) : s.link.reports <+: (s.report r).link.reports := by
  unfold State.report
  split
  · exact List.prefix_append ..
  · exact List.prefix_rfl

/-- From `s` to `u` line `l` has been written as `x`, these instructions handed over and these reports queued, where they find
room; nothing else of the part has moved. -/
structure LineStep (s u : State) (l : LineId) (x : Line) (hs : List Instr) (rs : List Report) : Prop where
  state : u = { s with lines := s.lines.set l x, handoffs := s.handoffs ++ hs, link := u.link }
  link : u.link = { s.link with reports := u.link.reports, missed := u.link.missed }
  queued : s.takes rs → Queued s u rs
  bounded : s.bounded → u.bounded
  grows : s.link.reports <+: u.link.reports

section
variable {s u w : State} {l : LineId} {x y : Line} {hs ks : List Instr} {rs qs : List Report} {v : Live}

namespace LineStep

theorem refl (s : State) (l : LineId) : LineStep s s l (s.line l) [] [] where
  state := by simp [State.line]
  link := rfl
  queued _ := .refl s
  bounded := id
  grows := List.prefix_rfl

theorem line (h : LineStep s u l x hs rs) : u.line l = x := by
  rw [h.state]; simp [State.line]

theorem live (h : LineStep s u l x hs rs) : u.live l = x.live := by rw [State.live, h.line]

theorem phase (h : LineStep s u l x hs rs) (hx : x.live = some v) : u.phase l = some v.phase :=
  phase_of_live (h.live.trans hx)

theorem uptime (h : LineStep s u l x hs rs) : u.uptime = s.uptime := by rw [h.state]; rfl

theorem lineChange (h : LineStep s u l x hs rs) (before after : Phase) (cause : Option Cause) (hold : HoldSet)
    (starve : Option StarveCause) (cond : Option Release) :
    lineChange u l before after cause hold starve cond = Sys2Proof.Machine.lineChange s l before after cause hold starve cond := by
  unfold Sys2Proof.Machine.lineChange; rw [h.uptime]

theorem entry (h : LineStep s u l x hs rs) (c : Context) (pe : Nat) : u.entry c pe = s.entry c pe := by rw [h.state]; rfl

theorem setLine (h : LineStep s u l x hs rs) (y : Line) : LineStep s (u.setLine l y) l y hs rs where
  state := by rw [h.state]; simp [State.setLine]
  link := h.link
  queued room := (h.queued room).link_eq rfl
  bounded := h.bounded
  grows := h.grows

theorem modLine (h : LineStep s u l x hs rs) (f : Line → Line) :
    LineStep s (u.setLine l (f (u.line l))) l (f x) hs rs := by
  rw [h.line]; exact h.setLine _

theorem setLive (h : LineStep s u l x hs rs) (w : Live) : LineStep s (u.setLive l w) l { x with live := some w } hs rs :=
  h.modLine (fun x => { x with live := some w })

theorem handOffs (h : LineStep s u l x hs rs) (ks : List Instr) :
    LineStep s { u with handoffs := u.handoffs ++ ks } l x (hs ++ ks) rs where
  state := by rw [h.state]; simp
  link := h.link
  queued room := (h.queued room).link_eq rfl
  bounded := h.bounded
  grows := h.grows

theorem report (h : LineStep s u l x hs rs) (r : Report) : LineStep s (u.report r) l x hs (rs ++ [r]) where
  state := by rw [State.report_eq, h.state]
  link := by rw [State.report_eq, h.link]
  queued room := by
    have hroom := room (List.append_ne_nil_of_right_ne_nil rs (List.cons_ne_nil r []))
    rw [List.length_append] at hroom
    exact (h.queued room.left).report r (hroom.lt (Nat.lt_succ_self _))
  bounded hs := (h.bounded hs).report r
  grows := h.grows.trans (State.report_grows u r)

/-- A step of the line, beside a tank that is written before it and after it alike. -/
theorem setTank (h : LineStep s u l x hs rs) (k : TankId) (tk : Tank) :
    LineStep (s.setTank k tk) (u.setTank k tk) l x hs rs where
  state := by rw [h.state]; rfl
  link := h.link
  queued := h.queued
  bounded := h.bounded
  grows := h.grows

/-- An event of a line, taken with the supply good. -/
theorem reported {f : State → State} (good : s.supply.failed = false) (h : LineStep s (f s) l x hs rs)
    (room : s.takes rs) :
    ∃ k, takeEvent f s = .next { s with lines := s.lines.set l x, handoffs := s.handoffs ++ hs, link := k } ∧
      Reported s { s with lines := s.lines.set l x, handoffs := s.handoffs ++ hs, link := k } rs := by
  obtain ⟨k, hexec, hrep⟩ := takeEvent_reported good (h.queued room)
  rw [h.state] at hexec hrep
  exact ⟨k, hexec, hrep⟩

/-- A request of a line, taken while the part listens. -/
theorem answered {c : Instr} {k kind : Byte} {r : Reply} (hl : s.Listening) (hk : requestKind c = some k)
    (hkind : kind = k + 0x80) (hf : handle c (reloadT1 s) = (u, r)) (h : LineStep (reloadT1 s) u l x hs rs)
    (room : s.takes rs) :
    ∃ k', exec c s = .next { s with lines := s.lines.set l x, handoffs := s.handoffs ++ hs, link := k' } ∧
      Answered s { s with lines := s.lines.set l x, handoffs := s.handoffs ++ hs, link := k' } kind (requestTag c) r.result
        r.body rs := by
  obtain ⟨k', hexec, hans⟩ := exec_answered hl hk hkind hf (h.queued room)
  rw [h.state] at hexec hans
  exact ⟨k', hexec, hans⟩

end LineStep

/-! ### The entries and exits as steps of one line -/

namespace LineStep

theorem enterHold (h : LineStep s u l x hs rs) (hx : x.live = some v) (before : Phase)
    (cause : Cause) (add : HoldSet → HoldSet) :
    LineStep s (enterHold l before cause add u) l
      { x with
        live := some
          { phase := .hold, latch := v.latch
            ctx := { v.ctx with
              hold := add HoldSet.none, u := 0, starve := none
              refusalTimer := if v.phase = Phase.inject then 0 else v.ctx.refusalTimer } } }
      (hs ++ leaving v.phase v.ctx) (rs ++ [Sys2Proof.Machine.lineChange s l before .hold (some cause) (add HoldSet.none) none none]) := by
  rw [enterHold_eq (h.live.trans hx), h.lineChange]
  exact ((h.setLive _).handOffs _).report _

theorem addCause (h : LineStep s u l x hs rs) (hx : x.live = some v) (cause : Cause)
    (add : HoldSet → HoldSet) :
    LineStep s (addCause l cause add u) l
      { x with live := some { v with ctx := { v.ctx with hold := add v.ctx.hold } } } hs
      (rs ++ [Sys2Proof.Machine.lineChange s l .hold .hold (some cause) (add v.ctx.hold) v.ctx.starve none]) := by
  rw [addCause_eq (h.live.trans hx), h.lineChange]
  exact (h.setLive _).report _

/-- A release that leaves a cause (R70, R84). -/
theorem release_stays (h : LineStep s u l x hs rs) (hx : x.live = some v)
    (drop : HoldSet → HoldSet) (cause : Option Cause) (cond : Release) {c : Context}
    (hc : { v.ctx with hold := drop v.ctx.hold } = c) (hne : c.hold.isEmpty = false) :
    LineStep s (releaseCauses l drop cause cond u) l { x with live := some { v with ctx := c } } hs
      (rs ++ [Sys2Proof.Machine.lineChange s l .hold .hold cause c.hold c.starve (some cond)]) := by
  subst hc
  rw [releaseCauses_eq (h.live.trans hx)]
  dsimp only at hne ⊢
  rw [hne, if_neg Bool.false_ne_true, h.lineChange]
  exact (h.setLive _).report _

/-- A release that leaves no cause: the line leaves HOLD (R70). -/
theorem release_leaves (h : LineStep s u l x hs rs) (hx : x.live = some v)
    (drop : HoldSet → HoldSet) (cause : Option Cause) (cond : Release) {c : Context}
    (hc : { v.ctx with hold := drop v.ctx.hold } = c) (he : c.hold.isEmpty = true) {e : Phase × Context}
    (hentry : s.entry c c.lastPe = e) :
    LineStep s (releaseCauses l drop cause cond u) l
      { x with live := some { phase := e.1, ctx := e.2, latch := v.latch } } (hs ++ raised l c e.2)
      (rs ++ [Sys2Proof.Machine.lineChange s l .hold e.1 cause e.2.hold e.2.starve (some cond)]) := by
  subst hc
  rw [releaseCauses_eq (h.live.trans hx)]
  dsimp only at he hentry ⊢
  rw [he, if_pos rfl, h.entry, hentry, h.lineChange]
  exact ((h.setLive _).handOffs _).report _

theorem injectOrStarve (h : LineStep s u l x hs rs) (hx : x.live = some v) {pe : Nat} {e : Phase × Context}
    (hentry : s.entry v.ctx pe = e) :
    LineStep s (injectOrStarve l pe u) l { x with live := some { phase := e.1, ctx := e.2, latch := v.latch } }
      (hs ++ raised l v.ctx e.2) rs := by
  rw [injectOrStarve_eq (h.live.trans hx), h.entry, hentry]
  exact (h.setLive _).handOffs _

/-- An exit from INJECT writes the refusal timer and hands the tank its examination (R65). -/
theorem exitIfInject (h : LineStep s u l x hs rs) (hx : x.live = some v) :
    LineStep s (exitIfInject l u) l
      { x with
        live := some { v with ctx := { v.ctx with refusalTimer := if v.phase = .inject then 0 else v.ctx.refusalTimer } } }
      (hs ++ leaving v.phase v.ctx) rs := by
  rw [exitIfInject_eq (h.live.trans hx)]
  exact (h.setLive _).handOffs _

theorem setPhase (h : LineStep s u l x hs rs) (hx : x.live = some v) (p : Phase) (f : Context → Context) :
    LineStep s (setPhase l p f u) l { x with live := some { v with phase := p, ctx := f v.ctx } } hs rs := by
  rw [setPhase_eq (h.live.trans hx)]
  exact h.setLive _

theorem modCtx (h : LineStep s u l x hs rs) (hx : x.live = some v) (f : Context → Context) :
    LineStep s (u.modCtx l f) l { x with live := some { v with ctx := f v.ctx } } hs rs := by
  rw [modCtx_eq (h.live.trans hx)]
  exact h.setLive _

/-- Writing the line as it stands changes nothing. -/
theorem rewrite (h : LineStep s u l x hs rs) (hx : x.live = some v) : LineStep s u l { x with live := some v } hs rs := by
  have hsame : { x with live := some v } = x := by rw [← hx]
  rw [hsame]
  exact h

theorem raiseRequest (h : LineStep s u l x hs rs) (hx : x.live = some v) (mix : Nat) :
    LineStep s (raiseRequest l mix u) l
      { x with live := some { v with ctx := { v.ctx with pendingReq := some (v.ctx.pendingReq.getD mix) } } }
      (hs ++ if v.ctx.pendingReq.isSome then [] else [.mixRequest v.ctx.tank l mix]) rs := by
  rw [raiseRequest_eq (h.live.trans hx)]
  cases hp : v.ctx.pendingReq with
  | some m =>
    have hsame : { v with ctx := { v.ctx with pendingReq := some m } } = v := by rw [← hp]
    simp only [Option.isSome_some, if_true, Option.getD_some, hsame, List.append_nil]
    exact h.rewrite hx
  | none => exact (h.setLive _).handOffs _

theorem lineReport (h : LineStep s u l x hs rs) (hx : x.live = some v)
    (before after : Phase) (cause : Option Cause) (cond : Option Release) :
    LineStep s (lineReport l before after cause cond u) l x hs
      (rs ++ [Sys2Proof.Machine.lineChange s l before after cause v.ctx.hold v.ctx.starve cond]) := by
  rw [lineReport_eq (h.live.trans hx), h.lineChange]
  exact h.report _

end LineStep

end

theorem entry_hold (s : State) (c : Context) (pe : Nat) : (s.entry c pe).2.hold = c.hold := by
  unfold State.entry
  split
  · rfl
  · split_ifs <;> rfl

theorem HoldSet.isEmpty_iff {h : HoldSet} : h.isEmpty = true ↔ h = HoldSet.none := by
  obtain ⟨site, brk, link, heave, gauge, sensor, localKey⟩ := h
  cases site <;> cases heave <;> simp [HoldSet.isEmpty, HoldSet.none, and_assoc]

/-! ### The hold timer (R71) -/

/-- Settles O29: the expiry is a release of SITE. -/
theorem holdTimerReleasesSite : Obligations.HoldTimerReleasesSite := by
  intro s l good
  refine ⟨fun hnone => ?_, ?_⟩
  · have hf : evHoldTimer l s = s := by rw [evHoldTimer, hnone]
    obtain ⟨k, hexec, hrep⟩ := takeEvent_reported (f := evHoldTimer l) good (.of_link (by rw [hf]))
    rw [hf] at hexec hrep
    exact ⟨_, hexec, rfl, hrep⟩
  · intro v site n room hv hp hsite hn released e
    have hf : evHoldTimer l s = releaseCauses l (fun h => h.drop .site) (some .site) .timer s := by
      simp [evHoldTimer, State.holdTimer, hv, hp, hsite, hn]
    refine ⟨fun hne => ?_, fun he => ?_⟩
    · have hstep := (LineStep.refl s l).release_stays hv (fun h => h.drop .site) (some .site) .timer rfl hne
      rw [← hf] at hstep
      obtain ⟨k, hexec, hrep⟩ := hstep.reported good room.takes
      rw [hp] at hexec hrep
      exact ⟨_, hexec, by simp only [List.append_nil]; rfl, hrep⟩
    · have hstep := (LineStep.refl s l).release_leaves hv (fun h => h.drop .site) (some .site) .timer rfl he rfl
      rw [← hf] at hstep
      obtain ⟨k, hexec, hrep⟩ := hstep.reported good room.takes
      exact ⟨_, hexec, rfl, hrep⟩

/-! ### PAUSE and RESUME (R72 to R74) -/

section
variable {s : State} {l : LineId} {v : Live}

theorem reqPause_pausable {time decay : Option Nat} (ht : time.all (inRange 1 3600) = true) (hd : decay.all (inRange 1 20000) = true)
    (hv : s.live l = some v) (hp : v.phase.pausable = true) :
    reqPause (l.val + 1) time decay s =
      let s' := pauseLine l v { timer := time.map (· * 1000), decay := decay } s
      accept s' (holdBytes s' l) := by
  have hk : v.phase ≠ .localPanel := fun he => by rw [he] at hp; cases hp
  simp only [reqPause, lineOf_val, ht, hd, hv, hk, hp, if_false, Bool.not_true, Bool.false_eq_true]

theorem holdBytes_of_live (hv : s.live l = some v) : holdBytes s l = u8 v.ctx.hold.mask := by
  rw [holdBytes, ctx_of_live hv]

/-- The context of a line that a PAUSE has brought into HOLD, or found there (R72). -/
def Live.paused (v : Live) (site : SiteHold) : Context :=
  { v.ctx with
    hold := if v.phase = .hold then { v.ctx.hold with site := some site } else { HoldSet.none with site := some site }
    u := if v.phase = .hold then v.ctx.u else 0
    starve := if v.phase = .hold then v.ctx.starve else none
    refusalTimer := if v.phase = .inject then 0 else v.ctx.refusalTimer }

/-- The SITE cause is added in HOLD, and brings a line of another state into it (R72, R69). -/
theorem pause_holds (hv : s.live l = some v) (site : SiteHold) :
    LineStep s
      (if v.phase = .hold then addCause l .site (fun h => { h with site := some site }) s
        else enterHold l v.phase .site (fun h => { h with site := some site }) s) l
      { s.line l with live := some { phase := .hold, ctx := v.paused site, latch := v.latch } } (leaving v.phase v.ctx)
      [lineChange s l v.phase .hold (some .site) (v.paused site).hold (v.paused site).starve none] := by
  by_cases hp : v.phase = .hold
  · have hstep := (LineStep.refl s l).addCause hv .site (fun h => { h with site := some site })
    simpa [hp, Live.paused, leaving] using hstep
  · have hstep := (LineStep.refl s l).enterHold hv v.phase .site (fun h => { h with site := some site })
    simpa [hp, Live.paused] using hstep

theorem pauseLine_holds (hv : s.live l = some v) {site : SiteHold}
    (hmet : decayMet site.decay v.ctx.lastPe = false) :
    LineStep s (pauseLine l v site s) l
      { s.line l with live := some { phase := .hold, ctx := v.paused site, latch := v.latch } } (leaving v.phase v.ctx)
      [lineChange s l v.phase .hold (some .site) (v.paused site).hold (v.paused site).starve none] := by
  unfold pauseLine
  rw [hmet]
  exact pause_holds hv site

/-- A threshold met at the PAUSE releases SITE at once, and a line without another cause leaves HOLD (R73, R70). -/
theorem pauseLine_leaves (hv : s.live l = some v) {site : SiteHold}
    (hmet : decayMet site.decay v.ctx.lastPe = true) {c : Context}
    (hc : { v.paused site with hold := (v.paused site).hold.drop .site } = c) (he : c.hold.isEmpty = true)
    {e : Phase × Context} (hentry : s.entry c c.lastPe = e) :
    LineStep s (pauseLine l v site s) l { s.line l with live := some { phase := e.1, ctx := e.2, latch := v.latch } }
      (leaving v.phase v.ctx ++ raised l c e.2)
      [lineChange s l v.phase .hold (some .site) (v.paused site).hold (v.paused site).starve none,
       lineChange s l .hold e.1 (some .site) e.2.hold e.2.starve (some .decay)] := by
  unfold pauseLine
  rw [hmet]
  exact (pause_holds hv site).release_leaves rfl (fun h => h.drop .site) (some .site) .decay hc he
    hentry

theorem pauseLine_stays (hv : s.live l = some v) {site : SiteHold}
    (hmet : decayMet site.decay v.ctx.lastPe = true) {c : Context}
    (hc : { v.paused site with hold := (v.paused site).hold.drop .site } = c) (hne : c.hold.isEmpty = false) :
    LineStep s (pauseLine l v site s) l { s.line l with live := some { phase := .hold, ctx := c, latch := v.latch } }
      (leaving v.phase v.ctx)
      [lineChange s l v.phase .hold (some .site) (v.paused site).hold (v.paused site).starve none,
       lineChange s l .hold .hold (some .site) c.hold c.starve (some .decay)] := by
  unfold pauseLine
  rw [hmet]
  exact (pause_holds hv site).release_stays rfl (fun h => h.drop .site) (some .site) .decay hc hne

theorem decayMet_iff {decay : Option Nat} {pe : Nat} : decayMet decay pe = true ↔ ∃ d, decay = some d ∧ pe < d := by
  cases decay <;> simp [decayMet]

theorem paused_drop_site (v : Live) (site : SiteHold) :
    (v.paused site).hold.drop .site = if v.phase = .hold then { v.ctx.hold with site := none } else HoldSet.none := by
  by_cases hp : v.phase = .hold <;> simp [Live.paused, hp, HoldSet.drop, HoldSet.none]

end

/-- Settles O25: an accepted PAUSE is `pauseLine`, by whether the threshold is met and another cause stands. -/
theorem pauseHoldsWithSite : Obligations.PauseHoldsWithSite := by
  intro s tag l v time decay hl room hv ht hd c site met other entering held released e frame
  have hv' : (reloadT1 s).live l = some v := hv
  have hheld : held = v.paused site := rfl
  have hrel : released = { v.paused site with hold := (v.paused site).hold.drop .site } :=
    congrArg (fun h => { v.paused site with hold := h }) (paused_drop_site v site).symm
  have hpause (hp : v.phase.pausable = true) : handle c (reloadT1 s) =
      (pauseLine l v site (reloadT1 s),
        { result := .ok, body := holdBytes (pauseLine l v site (reloadT1 s)) l }) := reqPause_pausable ht hd hv' hp
  have hpausable (hp : entering ∨ v.phase = .hold) : v.phase.pausable = true := by
    rcases hp with (hp | hp | hp) | hp <;> rw [hp] <;> rfl
  refine ⟨fun hp => .denied hl rfl rfl ?_, fun hp => .denied hl rfl rfl ?_, fun hp hmet => ?_, fun hp hmet he => ?_,
    fun hp hmet hne => ?_⟩
  · show reqPause .. = _
    simp [reqPause, ht, hd, hv', hp]
  · show reqPause .. = _
    rcases hp with hp | hp | hp <;> simp [reqPause, ht, hd, hv', hp, Phase.pausable]
  · have hstep := pauseLine_holds (s := reloadT1 s) (site := site) hv'
      (by rw [Bool.eq_false_iff, ne_eq, decayMet_iff]; exact hmet)
    obtain ⟨k, hexec, hans⟩ := hstep.answered (kind := 0x9B) hl rfl rfl (hpause (hpausable hp)) room.takes
    rw [holdBytes_of_live hstep.live] at hans
    exact ⟨_, hexec, by simp only [frame, hheld, List.append_nil]; rfl, hans⟩
  · have hentry : (reloadT1 s).entry released released.lastPe = e := rfl
    have hstep := pauseLine_leaves (s := reloadT1 s) (site := site) hv' (decayMet_iff.2 hmet) hrel.symm he hentry
    obtain ⟨k, hexec, hans⟩ := hstep.answered (kind := 0x9B) hl rfl rfl (hpause (hpausable hp)) room.takes
    have hempty : e.2.hold = HoldSet.none := (entry_hold ..).trans (HoldSet.isEmpty_iff.1 he)
    have hbody : holdBytes (pauseLine l v site (reloadT1 s)) l = [0] := by
      rw [holdBytes_of_live hstep.live, hempty]; rfl
    rw [hbody] at hans
    exact ⟨_, hexec, by simp only [frame, List.append_assoc]; rfl, hans⟩
  · have hstep := pauseLine_stays (s := reloadT1 s) (site := site) hv' (decayMet_iff.2 hmet) hrel.symm
      (by simp only [released, hp, if_true]; exact hne)
    obtain ⟨k, hexec, hans⟩ := hstep.answered (kind := 0x9B) hl rfl rfl (hpause (hpausable (.inr hp))) room.takes
    have hother : released.hold = other := if_pos hp
    rw [hp] at hexec hans
    rw [holdBytes_of_live hstep.live] at hans
    dsimp only at hans
    rw [hother] at hans
    exact ⟨_, hexec, by simp only [frame, hp, List.append_nil]; rfl, hans⟩

/-! ### RESUME (R74) -/

theorem heaveStands_iff (s : State) (h : HoldSet) :
    s.heaveStands h = true ↔ ∃ zs z, h.heave = some zs ∧ hasZone zs z = true ∧ s.latched z = true := by
  simp only [State.heaveStands, Option.any_eq_true, List.any_eq_true, mem_allZones, true_and, Bool.and_eq_true, exists_and_left]

theorem mem_resumable (h : HoldSet) (x : Cause) : x ∈ h.resumable ↔ x ≠ .gauge ∧ h.holds x = true := by
  have hall : x ∈ allCauses := by cases x <;> decide
  simp [HoldSet.resumable, HoldSet.causes, hall]

theorem resumable_isEmpty_iff (h : HoldSet) : h.resumable.isEmpty = true ↔ ∀ x, x ≠ .gauge → h.holds x = false := by
  simp only [List.isEmpty_iff, List.eq_nil_iff_forall_not_mem, mem_resumable, not_and, Bool.not_eq_true]

/-- What RESUME leaves is empty exactly without GAUGE (R74). -/
theorem resumed_isEmpty (h : HoldSet) : h.resumed.isEmpty = !h.gauge := by
  simp [HoldSet.resumed, HoldSet.isEmpty, HoldSet.none]

/-- A set that holds nothing but GAUGE is what RESUME leaves of it. -/
theorem eq_resumed {h : HoldSet} (hx : ∀ x, x ≠ .gauge → h.holds x = false) : h = h.resumed := by
  obtain ⟨site, brk, link, heave, gauge, sensor, localKey⟩ := h
  have hsite := hx .site (by decide)
  have hbrk := hx .brk (by decide)
  have hlink := hx .link (by decide)
  have hheave := hx .heave (by decide)
  have hsensor := hx .sensor (by decide)
  have hkey := hx .localKey (by decide)
  simp only [HoldSet.holds, Option.isSome_eq_false_iff, Option.isNone_iff_eq_none] at hsite hbrk hlink hheave hsensor hkey
  subst hsite hbrk hlink hheave hsensor hkey
  rfl

/-- A set that is not empty and holds no GAUGE holds another cause. -/
theorem resumable_of_nonempty {h : HoldSet} (hg : h.gauge = false) (hne : h.isEmpty = false) :
    h.resumable.isEmpty = false := by
  rw [Bool.eq_false_iff, ne_eq, resumable_isEmpty_iff]
  intro hx
  rw [eq_resumed hx, resumed_isEmpty, hg] at hne
  cases hne

/-- Settles O26: an accepted RESUME is a release of every cause but GAUGE, or nothing where there is none. -/
theorem resumeReleasesAllButGauge : Obligations.ResumeReleasesAllButGauge := by
  intro s tag l v hl room hv c h trips faulted released e named
  have hv' : (reloadT1 s).live l = some v := hv
  have hnamed : named = oneCause h.resumable := rfl
  have htrips : (reloadT1 s).heaveStands h = true ↔ trips := heaveStands_iff (reloadT1 s) h
  have hbytes : holdBytes (reloadT1 s) l = u8 h.mask := holdBytes_of_live hv'
  have hresume (hp : v.phase = .hold) (ht : ¬trips) (hf : ¬faulted) : handle c (reloadT1 s) =
      (resumeLine l h (reloadT1 s), { result := .ok, body := holdBytes (resumeLine l h (reloadT1 s)) l }) := by
    have ht' : (reloadT1 s).heaveStands v.ctx.hold = false := by rw [Bool.eq_false_iff, ne_eq, htrips]; exact ht
    have hf' : (v.ctx.hold.sensor && ((reloadT1 s).line l).fe.fault) = false := by
      rw [Bool.eq_false_iff, ne_eq, Bool.and_eq_true]; exact hf
    show reqResume .. = _
    simp only [reqResume, lineOf_val, hv', hp, ht', hf', reduceCtorEq, ne_eq, not_true_eq_false, if_false, Bool.false_eq_true]
    rfl
  refine ⟨fun hp => .denied hl rfl rfl ?_, fun hk hp => .denied hl rfl rfl ?_,
    fun hp ht => .of_handle (r := { result := .heave, body := u8 h.mask }) hl rfl rfl ?_,
    fun hp ht hf => .of_handle (r := { result := .sensor, body := u8 h.mask }) hl rfl rfl ?_,
    fun hp ht hf hg hx => ?_, fun hp ht hf hg hx => ?_, fun hp ht hf hg hne => ?_⟩
  · show reqResume .. = _
    simp [reqResume, hv', hp]
  · show reqResume .. = _
    simp [reqResume, hv', hp, hk]
  · have ht' : (reloadT1 s).heaveStands v.ctx.hold = true := htrips.2 ht
    show reqResume .. = _
    rw [← hbytes]
    simp [reqResume, hv', hp, ht']
  · have ht' : (reloadT1 s).heaveStands v.ctx.hold = false := by rw [Bool.eq_false_iff, ne_eq, htrips]; exact ht
    have hf1 : v.ctx.hold.sensor = true := hf.1
    have hf2 : ((reloadT1 s).line l).fe.fault = true := hf.2
    show reqResume .. = _
    rw [← hbytes]
    simp [reqResume, hv', hp, ht', hf1, hf2]
  · have hne : h.resumable.isEmpty = false := by
      obtain ⟨x, hx1, hx2⟩ := hx
      rw [Bool.eq_false_iff, ne_eq, resumable_isEmpty_iff]
      exact fun hall => by rw [hall x hx1] at hx2; cases hx2
    have hset : released.hold.isEmpty = false := (resumed_isEmpty h).trans (by rw [hg]; rfl)
    have hmask : released.hold.mask = 16 := by
      show (HoldSet.resumed h).mask = 16
      rw [HoldSet.resumed, hg]; rfl
    have hstep := (LineStep.refl (reloadT1 s) l).release_stays hv' HoldSet.resumed (oneCause h.resumable) .resume
      (c := released) rfl hset
    have hf : resumeLine l h (reloadT1 s) = releaseCauses l HoldSet.resumed (oneCause h.resumable) .resume (reloadT1 s) := by
      rw [resumeLine, hne]; rfl
    rw [← hf] at hstep
    obtain ⟨k, hexec, hans⟩ := hstep.answered (kind := 0x9C) hl rfl rfl (hresume hp ht ‹_›) room.takes
    rw [holdBytes_of_live hstep.live, hp] at hans
    rw [hp] at hexec
    dsimp only at hans
    rw [hmask, ← hnamed] at hans
    exact ⟨_, hexec, by simp only [List.append_nil]; rfl, hans⟩
  · have he : h.resumable.isEmpty = true := (resumable_isEmpty_iff h).2 hx
    have hmask : h.mask = 16 := by
      rw [eq_resumed hx, HoldSet.resumed, hg]; rfl
    have hsame : resumeLine l h (reloadT1 s) = reloadT1 s := by rw [resumeLine, he]; rfl
    refine .accepted hl rfl rfl ?_
    rw [hresume hp ht hf, hsame, hbytes, hmask]
    rfl
  · have hres := resumable_of_nonempty hg hne
    have hset : released.hold.isEmpty = true := (resumed_isEmpty h).trans (by rw [hg]; rfl)
    have hentry : (reloadT1 s).entry released released.lastPe = e := rfl
    have hstep := (LineStep.refl (reloadT1 s) l).release_leaves hv' HoldSet.resumed (oneCause h.resumable) .resume
      (c := released) rfl hset hentry
    have hf : resumeLine l h (reloadT1 s) = releaseCauses l HoldSet.resumed (oneCause h.resumable) .resume (reloadT1 s) := by
      rw [resumeLine, hres]; rfl
    rw [← hf] at hstep
    have hempty : e.2.hold = HoldSet.none := (entry_hold ..).trans (HoldSet.isEmpty_iff.1 hset)
    have hbody : holdBytes (resumeLine l h (reloadT1 s)) l = [0] := by
      rw [holdBytes_of_live hstep.live, hempty]; rfl
    obtain ⟨k, hexec, hans⟩ := hstep.answered (kind := 0x9C) hl rfl rfl (hresume hp ht ‹_›) room.takes
    rw [hbody, ← hnamed] at hans
    exact ⟨_, hexec, rfl, hans⟩

end Sys2Proof.Machine
end

section
/-! PROOFS. The outputs of a line, its LOCAL key, START, and the notices of its tank. -/

namespace Sys2Proof.Machine

/-- Settles O32: the outputs by line state. -/
theorem outputsFollowTheState : Obligations.OutputsFollowTheState := by
  intro s l
  refine ⟨fun hf => ⟨by simp [State.pump, hf], by simp [State.bleed, hf], by simp [State.permit, hf]⟩,
    fun hf hv => ⟨by simp [State.pump, hf, hv], by simp [State.bleed, hf, hv], by simp [State.permit, hf, hv, State.phase]⟩,
    fun v hf hv => ?_⟩
  have hpump : s.pump l = v.pump := by simp [State.pump, hf, hv]
  have hbleed : s.bleed l = v.bleed := by simp [State.bleed, hf, hv]
  rw [hpump, hbleed]
  refine ⟨fun hp => ?_, fun hp => ?_, fun hp => ?_, fun hp => ?_, ?_⟩
  · simp [Live.pump, Live.bleed, hp]
  · simp only [Live.pump, Live.bleed, hp, if_true]; omega
  · rcases hp with hp | hp | hp <;> simp [Live.pump, Live.bleed, hp]
  · rcases hp with hp | hp | hp <;> simp [Live.pump, Live.bleed, hp]
  · cases hp : v.phase <;> simp [State.permit, hf, phase_of_live hv, hp, Phase.started]

/-! ### The LOCAL key (R78 to R81) -/

section
variable {s u : State} {l : LineId} {x : Line} {hs : List Instr} {rs : List Report} {v : Live}

theorem LineStep.enterLocal (h : LineStep s u l x hs rs) (hx : x.live = some v)
    (before : Phase) :
    LineStep s (enterLocal l before u) l
      { x with
        permitDrop := false
        live := some
          { phase := .localPanel, latch := v.latch
            ctx := { v.ctx with
              u := 0, hold := HoldSet.none, starve := none
              refusalTimer := if v.phase = .inject then 0 else v.ctx.refusalTimer } } }
      (hs ++ leaving v.phase v.ctx) (rs ++ [Sys2Proof.Machine.lineChange s l before .localPanel none HoldSet.none none none]) :=
  (((h.exitIfInject hx).setPhase rfl .localPanel (fun c => { c with u := 0, hold := HoldSet.none, starve := none })).modLine
    (fun x => { x with permitDrop := false })).lineReport rfl before .localPanel none none

theorem LineStep.leaveLocal (h : LineStep s u l x hs rs) (hx : x.live = some v)
    (hset : u.returnSet v.ctx.zones = s.returnSet v.ctx.zones) :
    LineStep s (leaveLocal l u) l
      { x with
        permitDrop := false
        live := some { v with phase := .hold, ctx := { v.ctx with u := 0, hold := s.returnSet v.ctx.zones } } } hs
      (rs ++ [Sys2Proof.Machine.lineChange s l .localPanel .hold (some .localKey) (s.returnSet v.ctx.zones) v.ctx.starve none]) := by
  have hstep := ((h.setPhase hx .hold (fun c => { c with u := 0, hold := u.returnSet c.zones })).modLine
    (fun x => { x with permitDrop := false })).lineReport rfl .localPanel .hold (some .localKey) none
  dsimp only at hstep
  rw [hset] at hstep
  exact hstep

end

/-- The zones a loop over the zones collects are those that satisfy its test. -/
theorem hasZone_foldl (p : ZoneId → Bool) (z : ZoneId) (zs : List ZoneId) (m : ZoneSet) :
    hasZone (zs.foldl (fun m y => if p y then m ||| oneZone y else m) m) z = (hasZone m z || (decide (z ∈ zs) && p z)) := by
  induction zs generalizing m with
  | nil => simp
  | cons y rest ih =>
    rw [List.foldl_cons, ih]
    have hone : hasZone (oneZone y) z = decide (z = y) := by
      rw [hasZone, oneZone, BitVec.getLsbD_twoPow]
      simp [Fin.ext_iff, eq_comm]
    have hor : hasZone (m ||| oneZone y) z = (hasZone m z || decide (z = y)) := by
      rw [← hone]; exact BitVec.getLsbD_or
    by_cases hy : z = y
    · subst hy; cases p z <;> simp [hor]
    · cases p y <;> simp [hor, hy]

theorem holdTrips_iff (s : State) (zs : ZoneSet) (z : ZoneId) :
    hasZone (s.holdTrips zs) z = true ↔ hasZone zs z = true ∧ s.latched z = true ∧ (s.zoneCfg z).routing = .hold := by
  have hzero : hasZone 0 z = false := by simp [hasZone]
  rw [State.holdTrips, hasZone_foldl, hzero, decide_eq_true (mem_allZones z)]
  simp [and_assoc]

theorem zoneSet_eq_zero {zs : ZoneSet} : zs = 0 ↔ ∀ z, hasZone zs z = false := by
  constructor
  · rintro rfl z; simp [hasZone]
  · intro h
    apply BitVec.eq_of_getLsbD_eq
    intro i hi
    have hz := h ⟨i, hi⟩
    rw [hasZone] at hz
    simpa using hz

/-- Settles O30: the entry and the return as steps of the line. -/
theorem localKeyEntersAndLeavesLocal : Obligations.LocalKeyEntersAndLeavesLocal := by
  intro s l key good room enters
  have hkey : LineStep s (s.setLine l { s.line l with key := key }) l { s.line l with key := key } [] [] :=
    (LineStep.refl s l).setLine _
  have hphase : (s.setLine l { s.line l with key := key }).phase l = s.phase l := by
    rw [State.phase, State.phase, hkey.live]; rfl
  have henters (p : Phase) : p.entersLocal = true ↔ enters p := by cases p <;> simp [Phase.entersLocal, enters]
  refine ⟨fun hno => ?_, fun v hv hk hp => ?_, fun v hv hk hp => ?_⟩
  · have hf : evLocalKey l key s = s.setLine l { s.line l with key := key } := by
      unfold evLocalKey
      dsimp only
      rw [hphase]
      cases hv : s.live l with
      | none => simp [State.phase, hv]
      | some v =>
        obtain ⟨h1, h2⟩ := hno v hv
        rw [phase_of_live hv]
        cases key with
        | true =>
          have hne : v.phase.entersLocal = false := by rw [Bool.eq_false_iff, ne_eq, henters]; exact h1 rfl
          simp [hne]
        | false => simp [h2 rfl]
    rw [← hf] at hkey
    obtain ⟨k, hexec, hrep⟩ := hkey.reported good s.takes_nil
    rw [List.append_nil] at hexec hrep
    exact ⟨_, hexec, rfl, hrep⟩
  · subst hk
    have hf : evLocalKey l true s = enterLocal l v.phase (s.setLine l { s.line l with key := true }) := by
      unfold evLocalKey
      dsimp only
      rw [hphase, phase_of_live hv]
      simp [(henters v.phase).2 hp]
    have hstep := hkey.enterLocal (v := v) hv v.phase
    rw [← hf] at hstep
    obtain ⟨k, hexec, hrep⟩ := hstep.reported good room.takes
    refine ⟨_, hexec, rfl, hrep, fun hloop => ?_⟩
    simp [State.permit, good, hloop, State.phase, State.live, State.line]
  · subst hk
    have hf : evLocalKey l false s = leaveLocal l (s.setLine l { s.line l with key := false }) := by
      unfold evLocalKey
      dsimp only
      rw [hphase, phase_of_live hv]
      simp [hp]
    have hstep := hkey.leaveLocal (v := v) hv rfl
    rw [← hf] at hstep
    obtain ⟨k, hexec, hrep⟩ := hstep.reported good room.takes
    rw [List.append_nil] at hexec hrep
    have hset : (s.returnSet v.ctx.zones).heave =
        if s.holdTrips v.ctx.zones = 0 then none else some (s.holdTrips v.ctx.zones) := rfl
    have hheave (z : ZoneId) : (∃ zs, (s.returnSet v.ctx.zones).heave = some zs ∧ hasZone zs z = true) ↔
        hasZone (s.holdTrips v.ctx.zones) z = true := by
      rw [hset]
      split_ifs with h0
      · rw [zoneSet_eq_zero.1 h0 z]; simp
      · simp
    refine ⟨_, s.returnSet v.ctx.zones, hexec, rfl, rfl, rfl, rfl, rfl, ?_, ?_, fun z => (hheave z).trans (holdTrips_iff ..),
      ?_, hrep⟩
    · simp [State.returnSet]
    · simp [State.returnSet, mem_allZones]
    · simp only [← holdTrips_iff]
      have hex : (∃ z, hasZone (s.holdTrips v.ctx.zones) z = true) ↔ s.holdTrips v.ctx.zones ≠ 0 := by
        rw [ne_eq, zoneSet_eq_zero]; simp
      rw [hex, hset]
      split_ifs with h0
      · exact ⟨fun h => absurd h Bool.false_ne_true, fun h => absurd h0 h⟩
      · exact ⟨fun _ => h0, fun _ => rfl⟩

/-! ### START (R63 to R66) -/

/-- The context of a line whose step START has settled against its tank's mix, and what it hands over (R64, R130, R132). -/
def State.startSettled (s : State) (l : LineId) (c : Context) : Context × List Instr :=
  match (s.tank c.tank).mix with
  | none => (c, [.adopt c.tank l c.mix])
  | some m =>
    if m = c.mix then (c, [])
    else
      match laterStep c.ladder c.step m with
      | some k => ({ c with step := k }, [])
      | none =>
        ({ c with pendingReq := some (c.pendingReq.getD c.mix) },
          if c.pendingReq.isSome then [] else [.mixRequest c.tank l c.mix])

section
variable {s u : State} {l : LineId} {x : Line} {hs : List Instr} {rs : List Report} {v : Live}

theorem LineStep.settleStep (h : LineStep s u l x hs rs) (hx : x.live = some v) {c : Context} (up : Option Nat)
    (hc : v.ctx = { c with startUptime := up }) :
    LineStep s (settleStep l c u) l { x with live := some { v with ctx := (s.startSettled l v.ctx).1 } }
      (hs ++ (s.startSettled l v.ctx).2) rs := by
  have htank : u.tank c.tank = s.tank v.ctx.tank := by rw [h.state, hc]; rfl
  have hmix : v.ctx.mix = c.mix := by rw [hc]; rfl
  have hlater (m : Nat) : laterStep c.ladder c.step m = laterStep v.ctx.ladder v.ctx.step m := by rw [hc]
  have ht : c.tank = v.ctx.tank := by rw [hc]
  unfold Sys2Proof.Machine.settleStep State.startSettled
  rw [htank, ht, hmix]
  cases (s.tank v.ctx.tank).mix with
  | none => exact (h.rewrite hx).handOffs _
  | some m =>
    dsimp only
    rw [hlater]
    by_cases hm : m = c.mix
    · rw [if_pos hm, if_pos hm, List.append_nil]
      exact h.rewrite hx
    · rw [if_neg hm, if_neg hm]
      cases laterStep v.ctx.ladder v.ctx.step m with
      | some k =>
        dsimp only
        rw [List.append_nil]
        exact h.modCtx hx _
      | none => exact h.raiseRequest hx _

theorem startBarred_iff (s : State) (zs : ZoneSet) :
    s.startBarred zs = true ↔ ∃ z, hasZone zs z = true ∧
      (s.latched z = true ∧ (s.zoneCfg z).routing ≠ .report ∨ s.zoneFault z = true) := by
  simp only [State.startBarred, List.any_eq_true, mem_allZones, true_and, Bool.and_eq_true, Bool.or_eq_true, zoneBars_iff]

/-- An accepted START of a line that is BOUND (R64). -/
theorem startLine_step (hv : s.live l = some v) :
    let c := { v.ctx with startUptime := some s.uptime }
    let e := s.entry (s.startSettled l c).1 v.ctx.lastPe
    LineStep (s.modStage v.ctx.hole v.ctx.stage (fun st => { st with status := .active, prior := none }))
      (startLine l v.ctx s) l
      { s.line l with
        live := some { phase := e.1, ctx := e.2, latch := v.latch }
        fe := { FrontEnd.fresh with fault := (s.line l).fe.fault } }
      ((s.startSettled l c).2 ++ raised l (s.startSettled l c).1 e.2)
      (if e.1 = .starved then [lineChange s l .bound .starved none e.2.hold e.2.starve none] else []) := by
  intro c e
  have h1 := (LineStep.refl (s.modStage v.ctx.hole v.ctx.stage (fun st => { st with status := .active, prior := none })) l).modCtx
    (v := v) hv (fun c => { c with startUptime := some s.uptime })
  have h2 := h1.modLine (fun x => { x with fe := { FrontEnd.fresh with fault := x.fe.fault } })
  have h3 := h2.settleStep (v := { v with ctx := c }) rfl (c := v.ctx) (some s.uptime) rfl
  have h4 := h3.injectOrStarve rfl (pe := v.ctx.lastPe) (e := e) rfl
  unfold startLine
  dsimp only
  have hphase := h4.phase rfl
  split_ifs with hs he he
  · exact h4.lineReport rfl .bound .starved none none
  · exact absurd (Option.some.inj (hphase.symm.trans hs)) he
  · exact absurd (hphase.trans (congrArg some he)) hs
  · exact h4

end

/-- Settles O24: the denials of `startDenial` in their order, else `startLine`. -/
theorem startEntersInjectOrStarved : Obligations.StartEntersInjectOrStarved := by
  intro s tag l v hl hv c keyed barred x settled e
  have hv' : (reloadT1 s).live l = some v := hv
  have hphase : (reloadT1 s).phase l = some v.phase := phase_of_live hv
  have hbarred : (reloadT1 s).startBarred v.ctx.zones = true ↔ barred := startBarred_iff (reloadT1 s) v.ctx.zones
  have hkeyed : ((reloadT1 s).phase l = some .localPanel ∨
      (keyBarsStart ((reloadT1 s).phase l) = true ∧ ((reloadT1 s).line l).key = true)) ↔ keyed := by
    have hline : ((reloadT1 s).line l).key = (s.line l).key := rfl
    rw [hphase, hline]
    cases hp : v.phase <;> simp [keyBarsStart, keyed, hp]
  have hdeny {r : Result} (hr : startDenial (reloadT1 s) l = some r) : AnswersOnly c s 0x9A tag r [] :=
    .denied hl rfl rfl (by show reqStart .. = _; simp [reqStart, hr])
  refine ⟨fun hk => hdeny ?_, fun hk hp => hdeny ?_, fun hk hp hloop => hdeny ?_, fun hk hp hloop hb => hdeny ?_,
    fun hk hp hloop hb hf => hdeny ?_, fun hk hp hloop hb hf room => ?_⟩
  · rw [startDenial, if_pos (hkeyed.2 hk)]
  · rw [startDenial, if_neg (mt hkeyed.1 hk), hv']
    simp [hp]
  · have hloop' : (reloadT1 s).supply.loopOpen = true := hloop
    rw [startDenial, if_neg (mt hkeyed.1 hk), hv']
    simp [hp, hloop']
  · have hloop' : (reloadT1 s).supply.loopOpen = false := hloop
    rw [startDenial, if_neg (mt hkeyed.1 hk), hv']
    simp [hp, hloop', hbarred.2 hb]
  · have hloop' : (reloadT1 s).supply.loopOpen = false := hloop
    have hf' : ((reloadT1 s).line l).fe.fault = true := hf
    have hb' : (reloadT1 s).startBarred v.ctx.zones = false := Bool.eq_false_iff.2 (mt hbarred.1 hb)
    rw [startDenial, if_neg (mt hkeyed.1 hk), hv']
    simp [hp, hloop', hf', hb']
  · have hloop' : (reloadT1 s).supply.loopOpen = false := hloop
    have hf' : ((reloadT1 s).line l).fe.fault = false := hf
    have hb' : (reloadT1 s).startBarred v.ctx.zones = false := Bool.eq_false_iff.2 (mt hbarred.1 hb)
    have hpass : startDenial (reloadT1 s) l = none := by
      rw [startDenial, if_neg (mt hkeyed.1 hk), hv']
      simp [hp, hloop', hf', hb']
    have hreq : handle c (reloadT1 s) = (startLine l v.ctx (reloadT1 s),
        { result := .ok, body := startBytes (startLine l v.ctx (reloadT1 s)) l }) := by
      show reqStart .. = _
      simp only [reqStart, lineOf_val, hpass, ctx_of_live hv']
      rfl
    have hsettled : settled = s.startSettled l { v.ctx with startUptime := some s.uptime } := rfl
    have hstep := startLine_step hv'
    obtain ⟨k, hexec, hans⟩ := exec_answered (kind := 0x9A) hl rfl rfl hreq (hstep.queued (room.takes (by split_ifs <;> simp)))
    have hbody : startBytes (startLine l v.ctx (reloadT1 s)) l = u8 e.1.code ++ u8 e.2.step ++ u8 (starveCode e.2.starve) := by
      rw [startBytes, hstep.live]
      rfl
    rw [hbody] at hans
    rw [hstep.state, hf'] at hexec hans
    refine ⟨_, hexec, ?_, fun n => ?_, hans⟩
    · simp only [← List.append_assoc]; rfl
    · show tfind ((reloadT1 s).modStage v.ctx.hole v.ctx.stage _).store.stages n = _
      rw [State.tfind_modStage]
      split
      · next he => simp [he, reloadT1_eq]
      · simp [reloadT1_eq]

/-! ### A notice taken by its line (R121, R66, R67, R130) -/

section
variable {s u : State} {l : LineId} {x : Line} {hs : List Instr} {rs : List Report} {v : Live}

/-- The refusal timer has no part in what a line enters. -/
theorem entry_refusalTimer (s : State) (c : Context) (pe n : Nat) :
    s.entry { c with refusalTimer := n } pe = ((s.entry c pe).1, { (s.entry c pe).2 with refusalTimer := n }) := by
  unfold State.entry
  dsimp only
  split
  · rfl
  · next m _ =>
    have hmix : Context.mix { c with refusalTimer := n } = c.mix := rfl
    rw [hmix]
    split_ifs <;> rfl

/-- A line enters INJECT exactly where its tank supplies it, and STARVED otherwise (R64, R70). -/
theorem entry_inject_iff (s : State) (c : Context) (pe : Nat) : (s.entry c pe).1 = .inject ↔ s.supplies c = true := by
  rw [entry_eq]
  split_ifs with hs hc
  · exact ⟨fun _ => hs, fun _ => rfl⟩
  · exact ⟨fun h => absurd h (by decide), fun h => absurd h hs⟩
  · exact ⟨fun h => absurd h (by decide), fun h => absurd h hs⟩

theorem entry_starved_iff (s : State) (c : Context) (pe : Nat) : (s.entry c pe).1 = .starved ↔ s.supplies c = false := by
  rw [entry_eq, Bool.eq_false_iff]
  split_ifs with hs hc
  · exact ⟨fun h => absurd h (by decide), fun h => absurd hs h⟩
  · exact ⟨fun _ => hs, fun _ => rfl⟩
  · exact ⟨fun _ => hs, fun _ => rfl⟩

theorem LineStep.supplies (h : LineStep s u l x hs rs) (c : Context) : u.supplies c = s.supplies c := by rw [h.state]; rfl

/-- The entry to STARVED is that of a line leaving its state without supply (R66). -/
theorem LineStep.enterStarved (h : LineStep s u l x hs rs) (hx : x.live = some v) {pe : Nat} {e : Phase × Context}
    (hentry : s.entry v.ctx pe = e) (hno : s.supplies v.ctx = false) :
    LineStep s (enterStarved l u) l { x with live := some { phase := e.1, ctx := e.2, latch := v.latch } }
      (hs ++ raised l v.ctx e.2) rs := by
  have hstep := h.injectOrStarve hx hentry
  unfold Sys2Proof.Machine.injectOrStarve at hstep
  rw [ctx_of_live (h.live.trans hx)] at hstep
  dsimp only at hstep
  rw [h.supplies, hno] at hstep
  exact hstep

theorem LineStep.enterInject (h : LineStep s u l x hs rs) (hx : x.live = some v) {pe : Nat} {e : Phase × Context}
    (hentry : s.entry v.ctx pe = e) (hsup : s.supplies v.ctx = true) :
    LineStep s (enterInject l pe u) l { x with live := some { phase := e.1, ctx := e.2, latch := v.latch } }
      (hs ++ raised l v.ctx e.2) rs := by
  have hstep := h.injectOrStarve hx hentry
  unfold Sys2Proof.Machine.injectOrStarve at hstep
  rw [ctx_of_live (h.live.trans hx)] at hstep
  dsimp only at hstep
  rw [h.supplies, hsup] at hstep
  exact hstep

/-- A line in INJECT or RELIEF that its tank no longer supplies (R66, R121). -/
theorem LineStep.starve (h : LineStep s u l x hs rs) (hx : x.live = some v) {pe : Nat}
    {e : Phase × Context} (hentry : s.entry v.ctx pe = e) (he : e.1 = .starved) {c : Context}
    (hc : { e.2 with refusalTimer := if v.phase = .inject then 0 else v.ctx.refusalTimer } = c) :
    LineStep s (starve l v.phase u) l { x with live := some { phase := .starved, ctx := c, latch := v.latch } }
      (hs ++ (leaving v.phase v.ctx ++ raised l v.ctx e.2))
      (rs ++ [Sys2Proof.Machine.lineChange s l v.phase .starved none c.hold c.starve none]) := by
  have hno : s.supplies v.ctx = false := (entry_starved_iff s v.ctx pe).1 (by rw [hentry]; exact he)
  have hafter := entry_refusalTimer s v.ctx pe (if v.phase = .inject then 0 else v.ctx.refusalTimer)
  rw [hentry, hc, he] at hafter
  have hraised : raised l v.ctx e.2 = raised l v.ctx c := by subst hc; rfl
  rw [hraised, ← List.append_assoc]
  exact ((h.exitIfInject hx).enterStarved rfl hafter hno).lineReport rfl v.phase .starved none none

/-- A line in STARVED that examines its supply again (R67). -/
theorem LineStep.reexamine (h : LineStep s u l x hs rs) (hx : x.live = some v)
    {e : Phase × Context} (hentry : s.entry v.ctx v.ctx.lastPe = e) :
    LineStep s (reexamine l u) l { x with live := some { phase := e.1, ctx := e.2, latch := v.latch } }
      (hs ++ raised l v.ctx e.2)
      (rs ++ if e.1 = .starved ∧ e.2.starve = v.ctx.starve then []
        else [Sys2Proof.Machine.lineChange s l .starved e.1 none e.2.hold e.2.starve none]) := by
  have hcause : u.starveCause v.ctx = s.starveCause v.ctx := by rw [h.state]; rfl
  unfold Sys2Proof.Machine.reexamine
  rw [ctx_of_live (h.live.trans hx)]
  dsimp only
  rw [h.supplies, hcause]
  by_cases hsup : s.supplies v.ctx = true
  · have hi : e.1 = .inject := hentry ▸ (entry_inject_iff s v.ctx v.ctx.lastPe).2 hsup
    rw [if_pos hsup, if_neg (fun h => by rw [hi] at h; cases h.1)]
    have hstep := (h.enterInject hx hentry hsup).lineReport rfl .starved .inject none none
    rw [hi] at hstep ⊢
    exact hstep
  · have hno : s.supplies v.ctx = false := Bool.eq_false_iff.2 hsup
    have hst : e.1 = .starved := hentry ▸ (entry_starved_iff s v.ctx v.ctx.lastPe).2 hno
    have hcs : e.2.starve = some (s.starveCause v.ctx) := by
      rw [← hentry, entry_eq, if_neg hsup]
      split_ifs with hm
      · rw [hm]
      · cases hx : s.starveCause v.ctx
        · rfl
        · exact absurd hx hm
    rw [if_neg hsup, hcs]
    have hstep := h.enterStarved hx hentry hno
    by_cases hsame : v.ctx.starve = some (s.starveCause v.ctx)
    · rw [if_pos hsame, if_pos ⟨hst, hsame.symm⟩, List.append_nil]
      exact hstep
    · rw [if_neg hsame, if_neg (fun h => hsame h.2.symm)]
      have hrep := hstep.lineReport rfl .starved .starved none none
      dsimp only at hrep
      rw [hcs] at hrep
      rw [hst] at hrep ⊢
      exact hrep

theorem requestOwnMix_asks (hv : s.live l = some v) {n : Notice}
    (ha : n.mismatch = some true ∧ ∃ m, (s.tank v.ctx.tank).mix = some m ∧ m ≠ v.ctx.mix) :
    requestOwnMix l n s = raiseRequest l v.ctx.mix s := by
  obtain ⟨hn, m, hm, hne⟩ := ha
  simp [requestOwnMix, ctx_of_live hv, hm, hn, hne]

theorem requestOwnMix_same (hv : s.live l = some v) {n : Notice}
    (ha : ¬(n.mismatch = some true ∧ (∃ m, (s.tank v.ctx.tank).mix = some m ∧ m ≠ v.ctx.mix) ∧ v.ctx.pendingReq = none)) :
    requestOwnMix l n s = s := by
  by_cases h : n.mismatch = some true ∧ ∃ m, (s.tank v.ctx.tank).mix = some m ∧ m ≠ v.ctx.mix
  · have hp : v.ctx.pendingReq.isSome = true := by
      rw [Option.isSome_iff_ne_none]; exact fun hp => ha ⟨h.1, h.2, hp⟩
    rw [requestOwnMix_asks hv h, raiseRequest_eq hv, if_pos hp]
  · unfold requestOwnMix
    rw [ctx_of_live hv]
    dsimp only
    cases hm : (s.tank v.ctx.tank).mix with
    | none => rfl
    | some m => exact if_neg (fun hc => h ⟨hc.1, m, hm, hc.2⟩)

end

/-- The line has read its oldest notice, which leaves the line and the hand-offs (R121). -/
def State.noticeRead (s : State) (l : LineId) : State :=
  (s.taken (.tankNotice l)).setLine l { s.line l with notices := (s.line l).notices.tail }

theorem noticeRead_step (s : State) (l : LineId) :
    LineStep (s.taken (.tankNotice l)) (s.noticeRead l) l { s.line l with notices := (s.line l).notices.tail } [] [] :=
  (LineStep.refl _ l).setLine _

theorem evTankNotice_idle {s : State} {l : LineId} (hv : s.live l = none) : evTankNotice l s = s.noticeRead l := by
  unfold evTankNotice
  dsimp only
  split
  · rfl
  · next w hw => cases hw.symm.trans ((noticeRead_step s l).live.trans hv)

theorem evTankNotice_live {s : State} {l : LineId} {v : Live} (hv : s.live l = some v) :
    evTankNotice l s =
      actOnNotice l ((s.line l).notices.head?.getD Notice.plain)
        ((s.noticeRead l).setLive l (((s.line l).notices.head?.getD Notice.plain).write v)) := by
  unfold evTankNotice
  dsimp only
  split
  · next hn => cases hn.symm.trans ((noticeRead_step s l).live.trans hv)
  · next w hw =>
    obtain rfl : w = v := Option.some.inj (hw.symm.trans ((noticeRead_step s l).live.trans hv))
    rfl

/-- Settles O47: the line's action at its notice, by its state. -/
theorem noticeStarvesOrFeedsTheLine : Obligations.NoticeStarvesOrFeedsTheLine := by
  intro s l good hs
  have hdone {x : Line} {more : List Instr} {rs : List Report}
      (h : LineStep (s.taken (.tankNotice l)) (evTankNotice l s) l x more rs) (room : s.takes rs) :
      ∃ k, exec (.tankNotice l) s = .next { s with lines := s.lines.set l x, handoffs := hs ++ more, link := k } ∧
        Reported s { s with lines := s.lines.set l x, handoffs := hs ++ more, link := k } rs := by
    obtain ⟨k, hexec, hrep⟩ := takeEvent_reported (f := evTankNotice l) good (h.queued room)
    rw [h.state] at hexec hrep
    exact ⟨k, hexec, hrep⟩
  refine ⟨fun hv => ?_, fun v room hv => ?_⟩
  · have hread := noticeRead_step s l
    rw [← evTankNotice_idle hv] at hread
    obtain ⟨k, hexec, hrep⟩ := hdone hread s.takes_nil
    rw [List.append_nil] at hexec hrep
    exact ⟨_, hexec, hrep, rfl⟩
  · intro n c e frame
    have hwritten := (noticeRead_step s l).setLive (n.write v)
    have hf := evTankNotice_live hv
    have hentry : (s.taken (.tankNotice l)).entry c c.lastPe = e := rfl
    have hsup := hwritten.supplies c
    generalize (s.noticeRead l).setLive l (n.write v) = u at hf hwritten hsup
    have hlive : u.live l = some (n.write v) := hwritten.live
    simp only [actOnNotice, hlive] at hf
    have hphase : (n.write v).phase = v.phase := rfl
    rw [hphase] at hf
    have htank : u.tank c.tank = s.tank c.tank := by rw [hwritten.state]; rfl
    refine ⟨fun hp he => ?_, fun hp he => ?_, fun hp => ?_, fun hp => ?_, fun hp => ?_⟩
    · have hfed : evTankNotice l s = u := by
        rw [hf]
        rcases hp with hp | hp <;> rw [hp] <;> exact if_pos (hsup.trans ((entry_inject_iff s c c.lastPe).1 he))
      rw [← hfed] at hwritten
      obtain ⟨k, hexec, hrep⟩ := hdone hwritten s.takes_nil
      exact ⟨_, ⟨hexec, rfl⟩, hrep⟩
    · intro x
      have hno : u.supplies c = false := hsup.trans ((entry_starved_iff s c c.lastPe).1 he)
      have hstarves : evTankNotice l s = starve l v.phase u := by
        rw [hf]
        rcases hp with hp | hp <;> rw [hp] <;> exact if_neg (Bool.eq_false_iff.1 hno)
      have hstep := hwritten.starve rfl hentry he (c := x) rfl
      rw [hphase, ← hstarves] at hstep
      obtain ⟨k, hexec, hrep⟩ := hdone hstep (room.takes (by simp))
      exact ⟨_, ⟨hexec, rfl⟩, hrep⟩
    · have hown : evTankNotice l s = reexamine l u := by rw [hf, hp]
      have hstep := hwritten.reexamine rfl hentry
      rw [← hown] at hstep
      obtain ⟨k, hexec, hrep⟩ := hdone hstep (room.takes (by rw [List.nil_append]; split_ifs <;> simp))
      exact ⟨_, ⟨hexec, rfl⟩, hrep⟩
    · intro asks
      have hown : evTankNotice l s = requestOwnMix l n u := by
        rw [hf]
        rcases hp with hp | hp | hp <;> rw [hp]
      refine ⟨fun hno => ?_, fun hasks => ?_⟩
      · have hsame : requestOwnMix l n u = u := requestOwnMix_same hlive (by
          show ¬(_ ∧ (∃ m, (u.tank c.tank).mix = some m ∧ m ≠ c.mix) ∧ c.pendingReq = none)
          rw [htank]; exact hno)
        rw [← hsame, ← hown] at hwritten
        obtain ⟨k, hexec, hrep⟩ := hdone hwritten s.takes_nil
        exact ⟨_, ⟨hexec, rfl⟩, hrep⟩
      · obtain ⟨hn, hm, hpend⟩ := hasks
        have hraise : requestOwnMix l n u = raiseRequest l c.mix u := requestOwnMix_asks hlive (by
          show _ ∧ ∃ m, (u.tank c.tank).mix = some m ∧ m ≠ c.mix
          rw [htank]; exact ⟨hn, hm⟩)
        have hstep := hwritten.raiseRequest rfl c.mix
        have hctx : (n.write v).ctx = c := rfl
        rw [← hraise, ← hown, hctx, hpend] at hstep
        obtain ⟨k, hexec, hrep⟩ := hdone hstep (room.takes (by simp))
        exact ⟨_, ⟨hexec, rfl⟩, hrep⟩
    · have hfed : evTankNotice l s = u := by
        rw [hf]
        rcases hp with hp | hp <;> rw [hp]
      rw [← hfed] at hwritten
      obtain ⟨k, hexec, hrep⟩ := hdone hwritten s.takes_nil
      exact ⟨_, ⟨hexec, rfl⟩, hrep⟩

end Sys2Proof.Machine
end

section
/-! PROOFS. The drain of a line by an event that is no sample, and the two returns of a line to IDLE. -/

namespace Sys2Proof.Machine

/-- Writing one entry of a vector leaves the others. -/
theorem getElem_set_other {α : Type} {n : Nat} (xs : Vector α n) {i j : Fin n} (x : α) (h : j ≠ i) :
    (xs.set i x)[j] = xs[j] := by
  have hne : i.val ≠ j.val := fun e => h (Fin.ext e.symm)
  simp [hne]

theorem getElem_set_same {α : Type} {n : Nat} (xs : Vector α n) (i : Fin n) (x : α) : (xs.set i x)[i] = x := by simp

/-! ### The withdrawal of a request (R129) -/

/-- The MIXREQ report of a withdrawal from line `x`, where the tank has not reported the request's end (R129, R137). -/
def withdrawals (l : LineId) (x : Line) (c : Context) (step : Nat) : List Report :=
  (x.unreported c).toList.map (fun m => Report.mixreq
    { tank := c.tank, line := l, mix := m, disposition := .withdrawn, position := 0, step := step })

/-- The examination that a tank is handed when the entry at the head of its queue leaves (R129). -/
def State.headLeaves (s : State) (l : LineId) (k : TankId) : List Instr :=
  if (s.tank k).queue.head?.any (fun q => q.1 == l) then [.headExamination k] else []

/-- A tank whose queue has lost the entries of line `l` (R129). -/
def Tank.without (tk : Tank) (l : LineId) : Tank := { tk with queue := tk.queue.filter (fun q => q.1 != l) }

theorem withdrawalReport_eq (l : LineId) (x : Line) (c : Context) (step : Nat) (s : State) :
    withdrawalReport l x c step s = (withdrawals l x c step).foldl State.report s := by
  unfold withdrawalReport withdrawals
  cases x.unreported c <;> rfl

theorem withdrawals_length (l : LineId) (x : Line) (c : Context) (step : Nat) : (withdrawals l x c step).length ≤ 1 := by
  unfold withdrawals
  cases x.unreported c <;> simp

section
variable {s u : State} {l : LineId} {x : Line} {hs : List Instr} {rs : List Report} {v : Live}

namespace LineStep

theorem reports (h : LineStep s u l x hs rs) (qs : List Report) : LineStep s (qs.foldl State.report u) l x hs (rs ++ qs) := by
  induction qs generalizing u rs with
  | nil => rw [List.append_nil]; exact h
  | cons q rest ih =>
    have hstep := ih (h.report q)
    rw [List.append_assoc] at hstep
    exact hstep

theorem dropRequest (h : LineStep s u l x hs rs) (hx : x.live = some v) (c : Context) :
    LineStep (s.setTank c.tank ((s.tank c.tank).without l)) (dropRequest l c u) l
      { x with
        live := some { v with ctx := { v.ctx with pendingReq := none } }
        notices := x.notices.map Notice.withdrawn }
      (hs ++ s.headLeaves l c.tank) rs := by
  have htank : u.tank c.tank = s.tank c.tank := by rw [h.state]; rfl
  rw [dropRequest_eq (h.live.trans hx), htank, h.line]
  exact ((h.setLine _).handOffs _).setTank c.tank _

end LineStep

/-! ### The entry to DRAIN (R77, R107 to R109) -/

/-- The context of a line that has entered DRAIN (R77). -/
def Context.drained (c : Context) : Context :=
  { c with u := -1000, hold := HoldSet.none, starve := none, refusalTimer := 0, pendingReq := none }

/-- The reports of a line that held `v` and enters DRAIN: the LINE report of an exit from HOLD, STARVED or LOCAL, and the
MIXREQ report of its request (R84, R129). -/
def exitReports (s : State) (l : LineId) (x : Line) (v : Live) : List Report :=
  (if v.phase = .hold ∨ v.phase = .starved ∨ v.phase = .localPanel
    then [lineChange s l v.phase .drain none HoldSet.none none none] else []) ++ withdrawals l x v.ctx v.ctx.step

theorem exitReports_length (s : State) (l : LineId) (x : Line) (v : Live) : (exitReports s l x v).length ≤ 2 := by
  have hw := withdrawals_length l x v.ctx v.ctx.step
  rw [exitReports, List.length_append]
  split_ifs
  · simp only [List.length_singleton]; omega
  · simp only [List.length_nil]; omega

theorem reportsExit_iff (p : Phase) : p.reportsExit = true ↔ p = .hold ∨ p = .starved ∨ p = .localPanel := by
  cases p <;> simp [Phase.reportsExit]

theorem LineStep.enterDrain (h : LineStep s u l x hs rs) (hx : x.live = some v) :
    LineStep (s.setTank v.ctx.tank ((s.tank v.ctx.tank).without l)) (enterDrain l u) l
      { x with
        live := some { v with phase := .drain, ctx := v.ctx.drained }
        permitDrop := false
        notices := x.notices.map Notice.withdrawn }
      (hs ++ leaving v.phase v.ctx ++ s.headLeaves l v.ctx.tank) (rs ++ exitReports s l x v) := by
  have hdrop := (((h.exitIfInject hx).setPhase rfl .drain
    (fun c => { c with u := -1000, hold := HoldSet.none, starve := none, refusalTimer := 0 })).modLine
      (fun x => { x with permitDrop := false })).dropRequest rfl v.ctx
  unfold Sys2Proof.Machine.enterDrain
  rw [h.live.trans hx]
  dsimp only
  rw [withdrawalReport_eq, h.line, exitReports, ← List.append_assoc]
  refine LineStep.reports ?_ _
  by_cases hp : v.phase.reportsExit = true
  · rw [if_pos hp, if_pos ((reportsExit_iff _).1 hp)]
    exact hdrop.lineReport rfl v.phase .drain none none
  · rw [if_neg hp, if_neg (mt (reportsExit_iff _).2 hp), List.append_nil]
    exact hdrop

theorem LineStep.fillLatch (h : LineStep s u l x hs rs) (hx : x.live = some v) (o : PassOutcome) (p : Phase) (d : Int) :
    LineStep s (fillLatch l o p d u) l { x with live := some { v with latch := some (endLatch s o p d v.ctx) } } hs rs := by
  have hend : endLatch u o p d v.ctx = endLatch s o p d v.ctx := by
    unfold endLatch snapshotOf; rw [h.uptime]
  rw [fillLatch_eq (h.live.trans hx), hend]
  exact h.setLive _

/-- A started line as a drain by an event that is no sample leaves it (R77, R107, R108). -/
def Line.drained (s : State) (x : Line) (v : Live) (o : PassOutcome) : Line :=
  { x with
    live := some { phase := .drain, ctx := v.ctx.drained, latch := some (endLatch s o v.phase v.ctx.u v.ctx.drained) }
    permitDrop := false
    notices := x.notices.map Notice.withdrawn }

theorem drainLine_step (hv : s.live l = some v) (hp : v.phase.started = true) (o : PassOutcome) :
    LineStep (s.setTank v.ctx.tank ((s.tank v.ctx.tank).without l)) (drainLine l o s) l ((s.line l).drained s v o)
      (leaving v.phase v.ctx ++ s.headLeaves l v.ctx.tank) (exitReports s l (s.line l) v) := by
  rw [drainLine, hv]
  dsimp only
  rw [if_pos hp]
  exact ((LineStep.refl s l).enterDrain hv).fillLatch rfl o v.phase v.ctx.u

theorem drained_of_line {t : State} {o : PassOutcome} (ho : o.snapshots = true)
    (h : t.line l = (s.line l).drained s v o) : Drained s t l v o where
  live := by
    rw [State.live, h, Line.drained]
    simp only [endLatch, ho, if_true]
    rfl
  permitDrop := by rw [h]; rfl
  notices := by rw [h]; rfl
  permit := by simp [State.permit, State.phase, State.live, h, Line.drained]

end

/-- Settles O27: the drain of the one line. -/
theorem abortDrainsAStartedLine : Obligations.AbortDrainsAStartedLine := by
  intro s tag l v hl room hv c k pend
  have hv' : (reloadT1 s).live l = some v := hv
  refine ⟨fun hp => .denied hl rfl rfl ?_, fun hp => ?_⟩
  · show reqAbort .. = _
    rcases hp with hp | hp <;> simp [reqAbort, hv', hp, Phase.started]
  · have hreq : handle c (reloadT1 s) = (drainLine l .abort (reloadT1 s), { result := .ok, body := [] }) := by
      show reqAbort .. = _
      simp only [reqAbort, lineOf_val, hv', hp, if_true]
      rfl
    have hstep := drainLine_step hv' hp .abort
    obtain ⟨j, hexec, hans⟩ := exec_answered (kind := 0x9D) hl rfl rfl hreq
      (hstep.queued (room.takes (exitReports_length ..)))
    rw [hstep.state] at hexec hans
    have hline := getElem_set_same s.lines l ((s.line l).drained s v .abort)
    refine ⟨_, hexec, drained_of_line rfl hline, rfl, fun j hj => getElem_set_other s.lines _ hj, ?_, ?_, ?_, ?_,
      fun j hj => getElem_set_other s.tanks _ hj, getElem_set_same s.tanks _ _, ?_, hans⟩
    · exact (congrArg Line.key hline).trans rfl
    · exact (congrArg Line.fe hline).trans rfl
    · exact (congrArg Line.sampleTimer hline).trans rfl
    · exact (congrArg Line.traceCounter hline).trans rfl
    · rw [List.append_assoc]; rfl

/-! ### The returns to IDLE (R75, R76) -/

section
variable {s : State} {l : LineId} {v : Live}

/-- A line as its return to IDLE leaves it (R75, R76). -/
def Line.unbound (x : Line) : Line := { x with live := none, sampleTimer := none, permitDrop := false, notices := [] }

/-- A BOUND line that ABORT returns to IDLE, its MIXREQ report aside (R75, R129). -/
def State.aborted (s : State) (l : LineId) (c : Context) : State :=
  { s.modStage c.hole c.stage Stage.restored with
    lines := s.lines.set l (s.line l).unbound
    tanks := s.tanks.set c.tank ((s.tank c.tank).without l)
    handoffs := (s.handoffs ++ s.headLeaves l c.tank).filter (fun i => i != .tankNotice l) }

theorem abortBound_eq (hv : s.live l = some v) :
    abortBound l v.ctx s = (withdrawals l (s.line l) v.ctx 0).foldl State.report (s.aborted l v.ctx) := by
  have hstage : (s.modStage v.ctx.hole v.ctx.stage Stage.restored).live l = some v := hv
  unfold abortBound
  dsimp only
  rw [withdrawalReport_eq, unbind_eq, dropRequest_eq hstage]
  simp only [State.line, getElem_set_same, Vector.set_set]
  rfl

end

theorem Queued.reports {s u : State} {rs qs : List Report} (h : Queued s u rs) (room : s.takes (rs ++ qs)) :
    Queued s (qs.foldl State.report u) (rs ++ qs) := by
  induction qs generalizing u rs with
  | nil => rw [List.append_nil]; exact h
  | cons q rest ih =>
    have hroom := room (by simp)
    rw [List.length_append, List.length_cons] at hroom
    have hstep := ih (h.report q (hroom.lt (by omega))) (by rw [List.append_assoc]; exact room)
    rw [List.append_assoc] at hstep
    exact hstep

/-- Settles O28: the refusals by number and state, and the two returns to IDLE. -/
theorem abortAndReleaseReturnToIdle : Obligations.AbortAndReleaseReturnToIdle := by
  intro s tag hl
  refine ⟨fun n time decay hn => ?_, fun n time decay hbad => ?_, fun l hv => ?_, fun l v room hv => ?_⟩
  · have hnone := lineOf_none (not_inRange_iff.2 hn)
    refine ⟨.denied hl rfl rfl ?_, .denied hl rfl rfl ?_, .denied hl rfl rfl ?_, .denied hl rfl rfl ?_, .denied hl rfl rfl ?_⟩
    · show reqStart .. = _
      simp [reqStart, hnone]
    · show reqPause .. = _
      simp [reqPause, hnone]
    · show reqResume .. = _
      simp [reqResume, hnone]
    · show reqAbort .. = _
      simp [reqAbort, hnone]
    · show reqRelease .. = _
      simp [reqRelease, hnone]
  · refine .denied hl rfl rfl ?_
    show reqPause .. = _
    unfold reqPause
    split
    · next h1 h2 => exact absurd ⟨h1, h2⟩ hbad
    · rfl
  · have hv' : (reloadT1 s).live l = none := hv
    have hphase : (reloadT1 s).phase l = none := by rw [State.phase, hv']; rfl
    refine ⟨.denied hl rfl rfl ?_, fun time decay ht hd => .denied hl rfl rfl ?_, .denied hl rfl rfl ?_,
      .denied hl rfl rfl ?_, .denied hl rfl rfl ?_⟩
    · have hkey : ((reloadT1 s).line l).key = (s.line l).key := rfl
      show reqStart .. = _
      cases hk : (s.line l).key <;> simp [reqStart, startDenial, hphase, keyBarsStart, hkey, hk, hv']
    · show reqPause .. = _
      simp [reqPause, ht, hd, hv']
    · show reqResume .. = _
      simp [reqResume, hv']
    · show reqAbort .. = _
      simp [reqAbort, hv']
    · show reqRelease .. = _
      simp [reqRelease, hphase]
  · intro k pend freed idle
    have hv' : (reloadT1 s).live l = some v := hv
    have hphase : (reloadT1 s).phase l = some v.phase := phase_of_live hv
    have hkey : ((reloadT1 s).line l).key = (s.line l).key := rfl
    refine ⟨fun hp => ?_, fun hp => .denied hl rfl rfl ?_, fun h1 h2 => .denied hl rfl rfl ?_, fun hp hk => ?_⟩
    · have hreq : handle (.abort tag (l.val + 1)) (reloadT1 s) =
          (abortBound l v.ctx (reloadT1 s), { result := .ok, body := [] }) := by
        show reqAbort .. = _
        simp only [reqAbort, lineOf_val, hv', hp, Phase.started, Bool.false_eq_true, if_false, if_true]
        rfl
      have hq : Queued (reloadT1 s) (abortBound l v.ctx (reloadT1 s)) (withdrawals l (s.line l) v.ctx 0) := by
        rw [abortBound_eq hv']
        exact (Queued.of_link (u := (reloadT1 s).aborted l v.ctx) rfl).reports (room.takes (withdrawals_length ..))
      obtain ⟨j, hexec, hans⟩ := exec_answered (kind := 0x9D) hl rfl rfl hreq hq
      have hframe (t : State) (rs : List Report) : { rs.foldl State.report t with link := j } = { t with link := j } := by
        induction rs generalizing t with
        | nil => rfl
        | cons r rest ih => rw [List.foldl_cons, ih, State.report_eq]
      rw [abortBound_eq hv', hframe] at hexec hans
      refine ⟨_, hexec, rfl, fun n hn => ?_, fun st p hst hp => ?_, hans⟩
      · show tfind ((reloadT1 s).modStage _ _ _).store.stages n = _
        rw [State.tfind_modStage, if_neg hn]
        rfl
      · show tfind ((reloadT1 s).modStage _ _ _).store.stages _ = _
        rw [State.tfind_modStage, if_pos rfl]
        have hfound : tfind (reloadT1 s).store.stages (stageKey v.ctx.hole v.ctx.stage) = some st := hst
        obtain ⟨status, _ | ⟨pass, vol⟩⟩ := p
        · rw [hfound, Option.map_some, Stage.restored_plain hp]
        · rw [hfound, Option.map_some, Stage.restored_redo hp]
    · show reqRelease .. = _
      rcases hp with hp | ⟨hp, hk⟩
      · simp [reqRelease, hphase, hp]
      · simp [reqRelease, hphase, hp, hkey, hk]
    · show reqRelease .. = _
      simp only [reqRelease, lineOf_val, hphase]
      cases hp : v.phase with
      | localPanel => exact absurd hp h1
      | ended => exact absurd hp h2
      | _ => rfl
    · have hreq : handle (.release tag (l.val + 1)) (reloadT1 s) = accept (unbind l (reloadT1 s)) [] := by
        show reqRelease .. = _
        simp [reqRelease, hphase, hp, hkey, hk]
      obtain ⟨j, hexec, hans⟩ := exec_accepted (kind := 0x9E) hl rfl rfl hreq rfl
      exact ⟨_, hexec, hans, rfl⟩

end Sys2Proof.Machine
end

section
/-! PROOFS. The steps of a sample (chapters 3, 5 and 6) as steps of its line: reading and counting, the cap, the ramp and the
target, the close, and the assembly of a whole sample in a started state. -/

namespace Sys2Proof.Machine

section
variable {s u : State} {l : LineId} {x : Line} {hs : List Instr} {rs : List Report} {v w : Live} {current : Nat}

/-! ### Steps that write the stage beside the line -/

namespace LineStep

theorem modStage (h : LineStep s u l x hs rs) (hole stage : Nat) (f : Stage → Stage) :
    LineStep (s.modStage hole stage f) (u.modStage hole stage f) l x hs rs where
  state := by rw [h.state]; rfl
  link := h.link
  queued := h.queued
  bounded := h.bounded
  grows := h.grows

theorem pe (h : LineStep s u l x hs rs) (c : Context) (pg : Nat) : u.pe c pg = s.pe c pg := by rw [h.state]; rfl

theorem cap (h : LineStep s u l x hs rs) (c : Context) : u.cap c = s.cap c := by
  have hsafe : u.link.safeLatch = s.link.safeLatch := by rw [h.link]
  have hstore : u.store = s.store := by rw [h.state]
  have hzone : u.zoneCap c = s.zoneCap c := by rw [h.state]; rfl
  unfold State.cap
  rw [hsafe, hstore, hzone]

theorem lineCfg (h : LineStep s u l x hs rs) (k : LineId) : u.lineCfg k = s.lineCfg k := by rw [h.state]; rfl

end LineStep

/-! ### Reading and counting (R41, R42, R45, R46) -/

/-- The line after a sample at this current, with what it then holds (R39, R42, R45). -/
def State.lineSampled (s : State) (l : LineId) (current : Nat) (w : Live) : Line :=
  { s.line l with
    live := some w
    sampleTimer := some (s.lineCfg l).interval
    fe := { (s.line l).fe with fault := !loopInRange current, count := 0 } }

/-- The draw of an increment (R46). -/
def drawOf (c : Context) (dv : Nat) : List Instr := if dv = 0 then [] else [.tankDraw c.tank dv]

theorem afterReading_step (hv : s.live l = some v) :
    LineStep s (afterReading l (!loopInRange current) s) l (s.lineSampled l current v) [] [] := by
  have hline : s.lineSampled l current v =
      { s.line l with
        sampleTimer := some (s.lineCfg l).interval
        fe := { (s.line l).fe with fault := !loopInRange current, count := 0 } } := by
    rw [State.lineSampled, ← hv]; rfl
  rw [hline]
  exact (LineStep.refl s l).setLine _

theorem LineStep.countVolume (h : LineStep s u l x hs rs) (hx : x.live = some v) (dv : Nat) :
    LineStep s (countVolume l dv u) l { x with live := some { v with ctx := v.ctx.counted dv } } (hs ++ drawOf v.ctx dv) rs := by
  have hstep := h.modCtx hx (fun c => { c with vol := c.vol + dv })
  unfold Sys2Proof.Machine.countVolume drawOf
  rw [ctx_of_live (h.live.trans hx)]
  dsimp only
  split_ifs
  · rw [List.append_nil]; exact hstep
  · exact hstep.handOffs _

/-- A sample of a counting state up to step 2. -/
theorem counted_step (hv : s.live l = some v) :
    let r := s.read l current v.ctx.lastPg
    LineStep s (countVolume l r.dv (afterReading l r.fault s)) l
      (s.lineSampled l current { v with ctx := v.ctx.counted r.dv }) (drawOf v.ctx r.dv) [] :=
  (afterReading_step hv).countVolume rfl _

/-! ### The trace and the store update (R9, R47, R97) -/

theorem permit_congr {t : State} (hs : t.supply = u.supply) (hp : t.phase l = u.phase l)
    (hd : (t.line l).permitDrop = (u.line l).permitDrop) : t.permit l = u.permit l := by
  unfold State.permit; rw [hs, hp, hd]

/-- The trace counter after a sample that advances it (R97). -/
def advanceTrace (every n : Nat) : Nat := if every = 0 then n else if n + 1 = every then 0 else n + 1

theorem nextTrace_eq (s : State) (l : LineId) :
    s.nextTrace l = advanceTrace (s.lineCfg l).trace (s.line l).traceCounter := rfl

theorem LineStep.traceSample (h : LineStep s u l x hs rs) (hx : x.live = some w) (hn : x.traceCounter = (s.line l).traceCounter)
    (pint : BitVec 32) :
    LineStep s (traceSample l pint u) l { x with traceCounter := s.nextTrace l } hs
      (rs ++ traceReports s u l w.phase w.ctx pint) := by
  unfold Sys2Proof.Machine.traceSample State.nextTrace traceReports
  dsimp only
  rw [h.line, h.lineCfg, hn]
  by_cases h0 : (s.lineCfg l).trace = 0
  · have hsame : { x with traceCounter := (s.line l).traceCounter } = x := by rw [← hn]
    rw [if_pos h0, if_pos h0, if_neg (fun hc => hc.1 h0), List.append_nil, hsame]
    exact h
  · rw [if_neg h0, if_neg h0]
    by_cases hc : (s.line l).traceCounter + 1 = (s.lineCfg l).trace
    · rw [if_pos hc, if_pos hc, if_pos ⟨h0, hc⟩, hx]
      dsimp only
      have hstep := (h.setLine { x with traceCounter := 0 }).report (.trace
        { uptime := u.uptime, line := l, phase := w.phase, ctx := w.ctx, pint := pint, permit := u.permit l
          permitDrop := x.permitDrop, fault := x.fe.fault })
      rw [hx] at hstep
      rw [h.uptime] at hstep ⊢
      exact hstep
    · rw [if_neg hc, if_neg hc, if_neg (fun hx => hc hx.2), List.append_nil]
      exact h.setLine _

theorem LineStep.storeUpdate (h : LineStep s u l x hs rs) (hx : x.live = some w) (dv : Nat) :
    LineStep (s.modStage w.ctx.hole w.ctx.stage (fun st => st.update dv (s.imageOf w.phase w.ctx))) (storeUpdate l dv u) l x hs
      rs := by
  have himage : runningImage u w = s.imageOf w.phase w.ctx := by
    unfold runningImage State.imageOf snapshotOf; rw [h.uptime]
  rw [storeUpdate_eq (h.live.trans hx), himage]
  exact h.modStage _ _ _

/-! ### The close (R96) -/

/-- The context a started sample closes with (R96). -/
def Context.closeWith (c : Context) (m : Sampled) : Context :=
  { c with maxPe := max c.maxPe m.pe, lastPg := m.reading.pg, lastPe := m.pe, lastQ := m.reading.q }

/-- The stage record after a sample's store update, in state `p` with this context (R9, R47). -/
def State.stageSampled (s : State) (p : Phase) (c : Context) (dv : Nat) : State :=
  s.modStage c.hole c.stage (fun st => st.update dv (s.imageOf p c))

/-- Step 10, with the examination where the proof of refusal was broken (R96, R103). -/
def closeVerdict (l : LineId) (m : Sampled) (c : Context) (broken : Bool) (s : State) : State :=
  if broken then (closeSample l m s).handOff (.headExamination c.tank) else closeSample l m s

theorem LineStep.closeVerdict (h : LineStep s u l x hs rs) (hx : x.live = some w)
    (hn : x.traceCounter = (s.line l).traceCounter) (m : Sampled) (c : Context) (broken : Bool) {y : Context}
    (hy : w.ctx.closeWith m = y) :
    ∃ t, (t.supply = s.supply ∧ t.phase l = some w.phase ∧ t.line l = { x with live := some { w with ctx := y } }) ∧
      LineStep (s.stageSampled w.phase y m.reading.dv) (closeVerdict l m c broken u) l
        { x with live := some { w with ctx := y }, traceCounter := s.nextTrace l }
        (hs ++ if broken then [.headExamination c.tank] else [])
        (rs ++ traceReports s t l w.phase y (pintField m.pint)) := by
  subst hy
  have hclosed := (h.modCtx hx (fun c => c.closeWith m)).storeUpdate rfl m.reading.dv
  have htraced := hclosed.traceSample rfl hn (pintField m.pint)
  refine ⟨_, ⟨by rw [hclosed.state]; rfl, hclosed.phase (v := { w with ctx := w.ctx.closeWith m }) rfl,
    hclosed.line⟩, ?_⟩
  unfold Sys2Proof.Machine.closeVerdict
  cases broken with
  | true => exact htraced.handOffs _
  | false => rw [if_neg Bool.false_ne_true, if_neg Bool.false_ne_true, List.append_nil]; exact htraced

/-! ### Steps 3 to 6 (R71, R86 to R88) -/

/-- The context after the take and, in HOLD, the decay release of SITE (R52, R71). -/
def Live.settled (w : Live) (pe : Nat) : Context :=
  { w.ctx.retake with
    hold := if w.phase = .hold ∧ w.ctx.decayed pe = true then w.ctx.hold.drop .site else w.ctx.hold }

/-- The report of a decay release that leaves a cause (R71, R84). -/
def decayReports (s : State) (l : LineId) (w : Live) (pe : Nat) : List Report :=
  if (w.phase = .hold ∧ w.ctx.decayed pe = true) ∧ (w.ctx.hold.drop .site).isEmpty = false then
    [lineChange s l .hold .hold (some .site) (w.ctx.hold.drop .site) w.ctx.starve (some .decay)]
  else []

theorem LineStep.decaySite (h : LineStep s u l x hs rs) (hx : x.live = some { w with ctx := w.ctx.retake }) (pe : Nat) :
    LineStep s (decaySite l pe u) l { x with live := some { w with ctx := w.settled pe } } hs (rs ++ decayReports s l w pe) := by
  unfold Sys2Proof.Machine.decaySite Live.settled decayReports
  rw [h.live.trans hx]
  have hdec : w.ctx.retake.decayed pe = w.ctx.decayed pe := rfl
  dsimp only
  rw [hdec]
  by_cases hd : w.phase = .hold ∧ w.ctx.decayed pe = true
  · have hstep := h.modCtx hx (fun c => { c with hold := c.hold.drop .site })
    have hhold : w.ctx.retake.hold = w.ctx.hold := rfl
    rw [if_pos hd, if_pos hd, hhold]
    cases he : (w.ctx.hold.drop .site).isEmpty with
    | true =>
      rw [if_pos rfl, if_neg (fun hc => Bool.false_ne_true hc.2.symm), List.append_nil]
      exact hstep
    | false =>
      rw [if_neg Bool.false_ne_true, if_pos ⟨hd, rfl⟩]
      exact hstep.lineReport rfl .hold .hold (some .site) (some .decay)
  · rw [if_neg hd, if_neg hd, if_neg (fun hc => hd hc.1), List.append_nil]
    exact h.rewrite hx

/-- What the tests of a started sample read, on the counted context `c` (R85). -/
def State.sampledOf (s : State) (l : LineId) (r : Reading) (c : Context) : Sampled :=
  { reading := r, pe := s.pe c r.pg, cap := s.cap c, pint := intensityLimit c.limits.gin (takeOf c.vol c.length)
    first := c.first, interval := (s.lineCfg l).interval }

/-- The context that the tests of a sample find (R85 to R88). -/
def Live.aimed (w : Live) (m : Sampled) : Context := (w.settled m.pe).aim w.phase m.interval m.cap

/-- A started sample from its tests on, where the sensor test has left `w` in `u` (R85). -/
theorem startedSample_tested {p p' : Phase} {r : Reading} {m : Sampled} (h : LineStep s u l x hs rs) (hx : x.live = some w)
    (hp : w.phase = p') (hsense : senseFault l p r.fault (countVolume l r.dv (afterReading l r.fault s)) = (p', u))
    (hm : s.sampledOf l r w.ctx = m) :
    ∃ t, LineStep s t l { x with live := some { w with ctx := w.aimed m } } hs (rs ++ decayReports s l w m.pe) ∧
      startedSample l p r s =
        (testSample l p' m t).ended.elim id (fun o => fillLatch l o p' w.ctx.u)
          (closeVerdict l m w.ctx (testSample l p' m t).broken (regulateSample l p' m (testSample l p' m t).s)) := by
  subst hp
  have hdecayed := (h.modCtx hx Context.retake).decaySite rfl m.pe
  have haimed := hdecayed.modCtx rfl (fun c => c.aim w.phase m.interval m.cap)
  refine ⟨_, haimed, ?_⟩
  have hpe : u.pe w.ctx r.pg = m.pe := by rw [h.pe, ← hm]; rfl
  have hinterval : ((decaySite l m.pe (u.modCtx l Context.retake)).lineCfg l).interval = m.interval := by
    rw [hdecayed.lineCfg, ← hm]; rfl
  have hcap : (decaySite l m.pe (u.modCtx l Context.retake)).cap w.ctx = m.cap := by rw [hdecayed.cap, ← hm]; rfl
  have hm' : m = Sampled.mk r m.pe m.cap (intensityLimit w.ctx.limits.gin (takeOf w.ctx.vol w.ctx.length)) w.ctx.first
      m.interval := by rw [← hm]; rfl
  unfold startedSample
  dsimp only
  rw [hsense]
  dsimp only
  rw [ctx_of_live (h.live.trans hx)]
  dsimp only
  rw [hpe, hinterval, hcap, ← hm']
  generalize testSample l w.phase m _ = verdict
  cases verdict.ended <;> rfl

theorem senseFault_healthy {p : Phase} {fault : Bool} (h : fault = false ∨ p.sensorHolds = false) :
    senseFault l p fault u = (p, u) := by
  unfold senseFault
  rw [if_neg]
  rw [Bool.and_eq_true]
  rintro ⟨h1, h2⟩
  rcases h with h | h
  · rw [h] at h1; cases h1
  · rw [h] at h2; cases h2

theorem senseFault_faulted {p : Phase} (hp : p.sensorHolds = true) :
    senseFault l p true u = (.hold, enterHold l p .sensor (fun h => { h with sensor := true }) u) := by
  unfold senseFault
  rw [if_pos (by rw [hp]; rfl)]

/-! ### The assembly of a sample -/

theorem evSample_started (hv : s.live l = some v) (hp : v.phase.started = true) (current : Nat) :
    evSample l current s = startedSample l v.phase (s.read l current v.ctx.lastPg) s := by
  unfold evSample
  rw [hv]
  dsimp only
  cases hphase : v.phase <;> first | rfl | (rw [hphase] at hp; cases hp)

theorem pintField_intensityLimit (gin take : Nat) : pintField (intensityLimit gin take) = tracedInt gin take := by
  unfold intensityLimit tracedInt
  split_ifs <;> rfl

theorem minInt_intensityLimit (cap gin take : Nat) :
    minInt cap (intensityLimit gin take) = if take = 0 then cap else min cap (gin * 1000 / take) := by
  unfold intensityLimit
  split_ifs <;> rfl

/-- The store update of a sample, at every stage (R9, R47). -/
theorem stageSampled_tfind (s : State) (p : Phase) (c : Context) (dv k : Nat) :
    tfind (s.stageSampled p c dv).store.stages k = (tfind s.store.stages k).map (fun st =>
      if k = stageKey c.hole c.stage then
        { st with
          passVol := st.passVol + dv, cumVol := st.cumVol + dv
          image := if st.status = .active then some (s.imageOf p c) else st.image }
      else st) := by
  rw [State.stageSampled, State.tfind_modStage]
  split_ifs with hk
  · rfl
  · exact Option.map_id'.symm

theorem traceReports_length (s t : State) (l : LineId) (p : Phase) (c : Context) (pint : BitVec 32) :
    (traceReports s t l p c pint).length ≤ 1 := by
  unfold traceReports; split_ifs <;> simp

theorem traceReports_congr {t t' : State} (hp : t.permit l = t'.permit l) (hd : (t.line l).permitDrop = (t'.line l).permitDrop)
    (hf : (t.line l).fe.fault = (t'.line l).fe.fault) (p : Phase) (c : Context) (pint : BitVec 32) :
    traceReports s t l p c pint = traceReports s t' l p c pint := by
  unfold traceReports; rw [hp, hd, hf]

/-- An event whose effect touches nothing of the link but the waiting reports and the missed flag. -/
theorem takeEvent_kept {f : State → State} (good : s.supply.failed = false)
    (h : (f s).link = { s.link with reports := (f s).link.reports, missed := (f s).link.missed }) :
    ∃ k, takeEvent f s = .next { f s with link := k } ∧ LinkKept s { f s with link := k } s.link.t1 ∧
      ({ f s with link := k } : State).answersOut = s.answersOut ∧
      ∀ rs, Queued s (f s) rs → Reported s { f s with link := k } rs := by
  refine ⟨(startFrame (f s)).link, ?_, ?_, ?_, fun rs hq => ?_⟩
  · rw [takeEvent_good _ _ good]; exact congrArg _ (startFrame_only_link _)
  · constructor <;> (dsimp only; rw [startFrame_eq]; dsimp only; rw [h])
  · refine (startFrame_answersOut (f s)).trans ?_
    unfold State.answersOut
    rw [h]
  · have hrep := hq.reported
    rw [startFrame_only_link] at hrep
    exact hrep

/-- What was reported since `s` was reported since any state with its link. -/
theorem Reported.of_link_eq {s' t : State} (h : Reported s t rs) (hl : s'.link = s.link) : Reported s' t rs where
  link := by
    obtain ⟨hframer, hgap, hstate, ht1, ht2, hsafe⟩ := h.link
    constructor <;> rw [hl] <;> assumption
  answers := by rw [h.answers]; simp only [State.answersOut, hl]
  reports := by rw [h.reports]; simp only [State.reportsOut, hl]
  missed := by rw [h.missed, hl]

/-- A sample of a started line that keeps it started, with the permit drop flag it leaves. -/
theorem exec_sampled {p : Phase} {c : Context} {d : Bool} {handed : List Instr} {t₀ : State}
    (good : s.supply.failed = false)
    (ht : t₀.supply = s.supply ∧ t₀.phase l = some p ∧
      t₀.line l = { s.lineSampled l current { phase := p, ctx := c, latch := v.latch } with permitDrop := d })
    (h : LineStep (s.stageSampled p c (s.read l current v.ctx.lastPg).dv) (evSample l current s) l
      { s.lineSampled l current { phase := p, ctx := c, latch := v.latch } with
        permitDrop := d, traceCounter := s.nextTrace l }
      (drawOf v.ctx (s.read l current v.ctx.lastPg).dv ++ handed)
      (rs ++ traceReports s t₀ l p c (tracedInt c.limits.gin c.take))) :
    ∃ t, exec (.sample l current) s = .next t ∧ t.live l = some { phase := p, ctx := c, latch := v.latch } ∧
      (t.line l).permitDrop = d ∧ t.supply = s.supply ∧
      t.handoffs = s.handoffs ++ (drawOf v.ctx (s.read l current v.ctx.lastPg).dv ++ handed) ∧
      (s.roomFor (rs.length + 1) →
        SampledTo (s.setLine l { s.line l with permitDrop := d }) t l v current p c handed rs) := by
  obtain ⟨k, hexec, hkept, hans, hrep⟩ := takeEvent_kept (f := evSample l current) (s := s) good h.link
  have hline : ({ evSample l current s with link := k } : State).line l = _ := h.line
  refine ⟨_, hexec, h.live, congrArg Line.permitDrop hline, by rw [h.state]; rfl, by rw [h.state]; rfl, fun room => ?_⟩
  have hset := State.line_setLine_self s l { s.line l with permitDrop := d }
  have hread : (s.setLine l { s.line l with permitDrop := d }).read l current v.ctx.lastPg = s.read l current v.ctx.lastPg := by
    unfold State.read; rw [hset]; rfl
  have hnext : (s.setLine l { s.line l with permitDrop := d }).nextTrace l = s.nextTrace l := by
    unfold State.nextTrace; rw [hset]; rfl
  have htrace (t : State) : traceReports (s.setLine l { s.line l with permitDrop := d }) t l p c (tracedInt c.limits.gin c.take) =
      traceReports s t l p c (tracedInt c.limits.gin c.take) := by
    unfold traceReports; rw [hset]; rfl
  have hlen := traceReports_length s t₀ l p c (tracedInt c.limits.gin c.take)
  have hq := hrep _ (h.queued (room.takes (by rw [List.length_append]; omega)))
  obtain ⟨hsupply, hphase, hline₀⟩ := ht
  unfold SampledTo
  rw [hread, hnext, hset, htrace]
  refine ⟨?_, fun n => ?_, ?_⟩
  · show ({ evSample l current s with link := k } : State) = _
    rw [h.state]
    have hlines (y : Line) : (s.setLine l { s.line l with permitDrop := d }).lines.set l y = s.lines.set l y := by
      simp [State.setLine]
    simp only [hlines, List.append_assoc]
    rfl
  · show tfind (evSample l current s).store.stages n = _
    rw [h.state]
    exact stageSampled_tfind s p c _ n
  · rw [← traceReports_congr (t := t₀)]
    · exact hq.of_link_eq rfl
    · refine permit_congr ?_ ?_ ?_
      · rw [hsupply, h.state]; rfl
      · exact hphase.trans (phase_of_live h.live).symm
      · rw [hline₀, hline]
    · rw [hline₀, hline]
    · rw [hline₀, hline]

/-- A sample of a started line that drains it. -/
theorem exec_drainedAtSample {e : EndLatch} {c : Context} {noticed : List Instr} {t₀ : State}
    (good : s.supply.failed = false) (hphase : t₀.phase l = some .drain) (hdrop : (t₀.line l).permitDrop = false)
    (hfault : (t₀.line l).fe.fault = !loopInRange current)
    (h : LineStep ((s.setTank v.ctx.tank ((s.tank v.ctx.tank).without l)).stageSampled .drain c (s.read l current v.ctx.lastPg).dv)
      (evSample l current s) l
      { s.lineSampled l current { phase := .drain, ctx := c, latch := some e } with
        permitDrop := false
        traceCounter := s.nextTrace l
        notices := (s.line l).notices.map Notice.withdrawn }
      (drawOf v.ctx (s.read l current v.ctx.lastPg).dv ++ leaving v.phase v.ctx ++ s.headLeaves l v.ctx.tank ++ noticed)
      (rs ++ traceReports s t₀ l .drain c (tracedInt c.limits.gin c.take)))
    (hlen : rs.length ≤ 3) :
    ∃ t, exec (.sample l current) s = .next t ∧ t.permit l = false ∧ t.pump l = 0 ∧ t.bleed l = 1000 ∧
      (t.live l = some { phase := .drain, ctx := c, latch := some e }) ∧
      DrainedAtSample s t l v current e c noticed rs := by
  obtain ⟨k, hexec, hkept, hans, hrep⟩ := takeEvent_kept (f := evSample l current) (s := s) good h.link
  have hlive : ({ evSample l current s with link := k } : State).live l =
      some { phase := .drain, ctx := c, latch := some e } := h.live
  have hline : ({ evSample l current s with link := k } : State).line l = _ := h.line
  have hgood : ({ evSample l current s with link := k } : State).supply.failed = false := by rw [h.state]; exact good
  have hpermit (t : State) (hp : t.phase l = some .drain) : t.permit l = false := by simp [State.permit, hp]
  refine ⟨_, hexec, hpermit _ (phase_of_live hlive), ?_, ?_, hlive, ?_⟩
  · rw [State.pump, hgood, hlive]; rfl
  · rw [State.bleed, hgood, hlive]; rfl
  · refine ⟨?_, ?_, hkept, hans, fun room => ?_⟩
    · show ({ evSample l current s with link := k } : State) = _
      rw [h.state]
      simp only [List.append_assoc]
      rfl
    · intro n
      show tfind (evSample l current s).store.stages n = _
      rw [h.state]
      exact stageSampled_tfind (s.setTank v.ctx.tank ((s.tank v.ctx.tank).without l)) .drain c _ n
    · have hlen' := traceReports_length s t₀ l .drain c (tracedInt c.limits.gin c.take)
      have hq := h.queued (room.takes (by rw [List.length_append]; omega))
      rw [← traceReports_congr (t := t₀)]
      · exact hrep _ hq
      · rw [hpermit _ hphase, hpermit _ (phase_of_live hlive)]
      · rw [hdrop, hline]
      · rw [hfault, hline]; rfl

end

end Sys2Proof.Machine
end

section
/-! PROOFS. The samples of a line by its state (chapters 5 and 6): display, LOCAL, INJECT and the ends of a pass. -/

namespace Sys2Proof.Machine

section
variable {s u : State} {l : LineId} {x : Line} {hs : List Instr} {rs : List Report} {v w : Live} {current : Nat}

/-! ### Tests that do not end the pass (R89) -/

theorem endTest_none {c : Context} {pe : Nat} (h1 : c.take < c.limits.tmax) (h2 : pe * c.take < c.limits.gin * 1000) :
    endTest c pe = none := by
  rw [endTest, if_neg (Nat.not_le.2 h1), if_neg (Nat.not_le.2 h2)]

theorem testSample_passes {p : Phase} {m : Sampled} (hv : u.live l = some w) (hend : endTest w.ctx m.pe = none) :
    testSample l p m u = stateTests l p m u := by
  unfold testSample
  rw [ctx_of_live hv]
  dsimp only
  rw [hend]

theorem testSample_ends {p : Phase} {m : Sampled} {o : PassOutcome} (hv : u.live l = some w)
    (hend : endTest w.ctx m.pe = some o) :
    testSample l p m u = { s := enterDrain l u, ended := some o, broken := false } := by
  unfold testSample
  rw [ctx_of_live hv]
  dsimp only
  rw [hend]

theorem decayReports_nil (h : w.phase ≠ .hold) (s : State) (l : LineId) (pe : Nat) : decayReports s l w pe = [] :=
  if_neg fun hc => h hc.1.1

theorem regulateSample_not_inject {p : Phase} (hp : p ≠ .inject) (m : Sampled) (u : State) : regulateSample l p m u = u :=
  if_neg fun h => hp h.1

theorem displaySample_step (hv : s.live l = some v) :
    let r := s.read l current v.ctx.lastPg
    LineStep s (displaySample l r s) l
      (s.lineSampled l current { v with ctx := { v.ctx with lastPg := r.pg, lastPe := s.pe v.ctx r.pg, lastQ := r.q } }) [] [] := by
  intro r
  unfold displaySample
  rw [ctx_of_live hv]
  exact (afterReading_step hv).modCtx rfl _

/-- Settles O34: a sample for display writes the last values. -/
theorem displaySampleOnlyMeasures : Obligations.DisplaySampleOnlyMeasures := by
  intro s l current good
  refine ⟨fun hv => ?_, fun v hv hp => ?_⟩
  · have hf : evSample l current s = s := by rw [evSample, hv]
    obtain ⟨k, hexec, hrep⟩ := takeEvent_reported (f := evSample l current) good (.of_link (by rw [hf]))
    rw [hf] at hexec hrep
    exact ⟨_, hexec, rfl, hrep⟩
  · have hf : evSample l current s = displaySample l (s.read l current v.ctx.lastPg) s := by
      rw [evSample, hv]
      rcases hp with hp | hp <;> simp only [hp]
    have hstep := displaySample_step (current := current) hv
    dsimp only at hstep
    rw [← hf] at hstep
    obtain ⟨k, hexec, hrep⟩ := hstep.reported good s.takes_nil
    rw [List.append_nil] at hexec hrep
    exact ⟨_, _, _, _, hexec, hrep, rfl⟩

/-! ### LOCAL (R99) -/

theorem permitDropAfter_iff (c : Context) (m : Sampled) (flag : Bool) :
    permitDropAfter c m flag = true ↔
      m.reading.fault = true ∨ m.cap + c.limits.overshoot < m.pe ∨ m.cap < m.pe ∧ flag = true := by
  unfold permitDropAfter overLimit
  by_cases hf : m.reading.fault = true
  · simp [hf]
  · by_cases ho : m.cap + c.limits.overshoot < m.pe
    · simp [hf, ho]
    · by_cases hc : m.pe ≤ m.cap
      · simp [hf, ho, hc]
      · simp [hf, ho, hc, Nat.not_le.1 hc]

/-- The context a started sample closes with, where the tests write nothing of it (R85 to R88, R96). -/
theorem closeWith_aimed (w : Live) (m : Sampled) :
    (w.aimed m).closeWith m =
      let take := takeOf w.ctx.vol w.ctx.length
      let ramp := if w.phase = .inject then min (w.ctx.pRamp + rampStep w.ctx.limits.ramp m.interval) w.ctx.limits.pmax else w.ctx.pRamp
      { w.ctx with
        take := take, lastCap := m.cap, pRamp := ramp
        lastPtgt := min (if take = 0 then m.cap else min m.cap (w.ctx.limits.gin * 1000 / take)) ramp
        hold := if w.phase = .hold ∧ w.ctx.decayed m.pe = true then w.ctx.hold.drop .site else w.ctx.hold
        maxPe := max w.ctx.maxPe m.pe, lastPg := m.reading.pg, lastPe := m.pe, lastQ := m.reading.q } := by
  simp only [Live.aimed, Context.aim, targetOf, minInt_intensityLimit]
  rfl

theorem pintField_sampledOf {r : Reading} {m : Sampled} (hm : s.sampledOf l r w.ctx = m) {c : Context}
    (hgin : c.limits.gin = w.ctx.limits.gin) (htake : c.take = takeOf w.ctx.vol w.ctx.length) :
    pintField m.pint = tracedInt c.limits.gin c.take := by
  rw [hgin, htake, ← pintField_intensityLimit, ← hm]; rfl

/-- A started sample whose tests end nothing: `w` is what the sensor test has left, `z` what the tests and regulation leave, and
`c` the context it closes with. -/
theorem exec_sample_kept {p' : Phase} {m : Sampled} {z : Live} {c : Context} {d : Bool} {handed : List Instr}
    {qs : List Report} (good : s.supply.failed = false) (hv : s.live l = some v) (hstarted : v.phase.started = true)
    (h : LineStep s u l (s.lineSampled l current w) hs rs) (hp : w.phase = p')
    (hsense : senseFault l v.phase (!loopInRange current) (countVolume l (s.read l current v.ctx.lastPg).dv
      (afterReading l (!loopInRange current) s)) = (p', u))
    (hm : s.sampledOf l (s.read l current v.ctx.lastPg) w.ctx = m)
    (htests : ∀ t, LineStep s t l (s.lineSampled l current { w with ctx := w.aimed m }) hs (rs ++ decayReports s l w m.pe) →
      ∃ T broken more, testSample l p' m t = { s := T, ended := none, broken := broken } ∧
        LineStep s (regulateSample l p' m T) l { s.lineSampled l current z with permitDrop := d }
          (drawOf v.ctx (s.read l current v.ctx.lastPg).dv ++ more) qs ∧
        more ++ (if broken then [.headExamination w.ctx.tank] else []) = handed)
    (hlatch : z.latch = v.latch) (hc : z.ctx.closeWith m = c) (hgin : c.limits.gin = w.ctx.limits.gin)
    (htake : c.take = takeOf w.ctx.vol w.ctx.length) :
    ∃ t, exec (.sample l current) s = .next t ∧ t.live l = some { phase := z.phase, ctx := c, latch := v.latch } ∧
      (t.line l).permitDrop = d ∧ t.supply = s.supply ∧
      t.handoffs = s.handoffs ++ (drawOf v.ctx (s.read l current v.ctx.lastPg).dv ++ handed) ∧
      (s.roomFor (qs.length + 1) →
        SampledTo (s.setLine l { s.line l with permitDrop := d }) t l v current z.phase c handed qs) := by
  obtain ⟨t, ht, hev⟩ := startedSample_tested h rfl hp hsense hm
  obtain ⟨T, broken, more, htest, hstep, hmore⟩ := htests t ht
  obtain ⟨t₀, hat, hclosed⟩ := hstep.closeVerdict rfl rfl m w.ctx broken hc
  rw [← evSample_started hv hstarted, htest] at hev
  dsimp only [Option.elim, id] at hev
  have hdv : m.reading.dv = (s.read l current v.ctx.lastPg).dv := by rw [← hm]; rfl
  rw [← hev, pintField_sampledOf hm hgin htake, List.append_assoc, hmore, hdv] at hclosed
  have hz : ({ z with ctx := c } : Live) = { phase := z.phase, ctx := c, latch := v.latch } := by rw [← hlatch]
  rw [hz] at hat hclosed
  exact exec_sampled good hat hclosed

/-- A started sample whose tests end the pass with outcome `o`, where `z` is what they leave before the entry to DRAIN. -/
theorem exec_sample_ended {p' : Phase} {m : Sampled} {z : Live} {c : Context} {o : PassOutcome} {noticed : List Instr}
    {qs : List Report} (good : s.supply.failed = false) (hv : s.live l = some v) (hstarted : v.phase.started = true)
    (h : LineStep s u l (s.lineSampled l current w) hs rs) (hp : w.phase = p')
    (hsense : senseFault l v.phase (!loopInRange current) (countVolume l (s.read l current v.ctx.lastPg).dv
      (afterReading l (!loopInRange current) s)) = (p', u))
    (hm : s.sampledOf l (s.read l current v.ctx.lastPg) w.ctx = m)
    (htests : ∀ t, LineStep s t l (s.lineSampled l current { w with ctx := w.aimed m }) hs (rs ++ decayReports s l w m.pe) →
      ∃ T broken, testSample l p' m t = { s := enterDrain l T, ended := some o, broken := broken } ∧
        LineStep s T l (s.lineSampled l current z) hs (rs ++ decayReports s l w m.pe) ∧
        (if broken then [.headExamination w.ctx.tank] else []) = noticed)
    (hhands : hs ++ leaving z.phase z.ctx = drawOf v.ctx (s.read l current v.ctx.lastPg).dv ++ leaving v.phase v.ctx)
    (htank : z.ctx.tank = v.ctx.tank) (hc : z.ctx.drained.closeWith m = c)
    (hreports : rs ++ decayReports s l w m.pe ++ exitReports s l (s.line l) z = qs) (hlen : qs.length ≤ 3)
    (hgin : c.limits.gin = w.ctx.limits.gin) (htake : c.take = takeOf w.ctx.vol w.ctx.length) :
    ∃ t, exec (.sample l current) s = .next t ∧ t.permit l = false ∧ t.pump l = 0 ∧ t.bleed l = 1000 ∧
      t.live l = some { phase := .drain, ctx := c, latch := some (endLatch s o p' w.ctx.u c) } ∧
      DrainedAtSample s t l v current (endLatch s o p' w.ctx.u c) c noticed qs := by
  obtain ⟨t, ht, hev⟩ := startedSample_tested h rfl hp hsense hm
  obtain ⟨T, broken, htest, hstep, hmore⟩ := htests t ht
  have hdrain := hstep.enterDrain rfl
  have hkept : regulateSample l p' m (enterDrain l T) = enterDrain l T := by
    unfold regulateSample
    rw [hdrain.phase rfl]
    exact if_neg (fun hx => by cases hx.2)
  rw [← evSample_started hv hstarted, htest] at hev
  dsimp only [Option.elim] at hev
  rw [hkept] at hev
  obtain ⟨t₀, ⟨-, hphase, hline⟩, hclosed⟩ := hdrain.closeVerdict rfl rfl m w.ctx broken hc
  have hfilled := hclosed.fillLatch rfl o p' w.ctx.u
  have hdv : m.reading.dv = (s.read l current v.ctx.lastPg).dv := by rw [← hm]; rfl
  have hexit : exitReports s l (s.lineSampled l current z) z = exitReports s l (s.line l) z := rfl
  rw [← hev, pintField_sampledOf hm hgin htake, hmore, hdv, hexit, hreports, htank, hhands] at hfilled
  exact exec_drainedAtSample good hphase (by rw [hline]) (by rw [hline]; rfl) hfilled hlen

/-- Settles O38: a LOCAL sample that ends nothing writes the permit drop flag and closes. -/
theorem localSampleTestsThePermit : Obligations.LocalSampleTestsThePermit := by
  rintro s l ⟨p, x, latch⟩ current good hv hp
  obtain rfl : p = .localPanel := hp
  intro c r pe take cap ceiling htake hpe
  let w : Live := { phase := .localPanel, ctx := x.counted r.dv, latch := latch }
  let m := s.sampledOf l r w.ctx
  obtain ⟨t, hexec, hlive, hdrop, hsupply, -, hto⟩ := exec_sample_kept (w := w) (p' := .localPanel) (m := m) (handed := [])
    (qs := [])
    (z := { w with ctx := w.aimed m }) (d := permitDropAfter (w.aimed m) m (s.line l).permitDrop) good hv rfl (counted_step hv) rfl
    (senseFault_healthy (.inr rfl)) rfl
    (fun t ht => by
      have hctx := ctx_of_live (ht.live.trans rfl)
      rw [decayReports_nil (w := w) nofun] at ht
      refine ⟨t.setLine l { t.line l with permitDrop := permitDropAfter (w.aimed m) m (t.line l).permitDrop }, false, [],
        (testSample_passes (ht.live.trans rfl) (endTest_none htake hpe)).trans ?_, ?_, rfl⟩
      · rw [stateTests, hctx]
      · rw [regulateSample_not_inject (p := .localPanel) nofun, List.append_nil]
        exact ht.modLine (fun x => { x with permitDrop := permitDropAfter (w.aimed m) m x.permitDrop }))
    rfl (closeWith_aimed w m) rfl rfl
  refine ⟨t, _, hexec, hlive, rfl, rfl, rfl, ?_, fun hloop => ?_, fun room => ?_⟩
  · rw [hdrop, permitDropAfter_iff]
    have hfault : m.reading.fault = true ↔ loopInRange current = false := by simp [m, State.sampledOf, r, State.read]
    rw [hfault]
    rfl
  · have hgood : t.supply.failed = false := by rw [hsupply]; exact good
    have hclosed : t.supply.loopOpen = false := by rw [hsupply]; exact hloop
    have hphase : t.phase l = some .localPanel := phase_of_live hlive
    simp [State.permit, hgood, hclosed, hphase]
  · rw [hdrop]
    exact hto room

/-! ### The tests of an INJECT sample (R89 to R92, R102 to R104) -/

section
variable {c : Context} {m : Sampled}

/-- The refusal timer is broken: it was running, and this sample sets it to 0 (R103). -/
def Context.breaksRefusal (c : Context) (m : Sampled) : Bool :=
  decide (0 < c.refusalTimer) && decide (refusalTimerAfter c m = 0)

/-- The state with the refusal timer of this sample written (R102). -/
def timed (l : LineId) (c : Context) (m : Sampled) (u : State) : State :=
  u.modCtx l (fun k => { k with refusalTimer := refusalTimerAfter c m })

theorem injectTests_refusal (hc : u.ctx l = some c)
    (hq : qualifies c m = true ∧ c.limits.refTime * 1000 ≤ refusalTimerAfter c m) :
    injectTests l m u = { s := enterDrain l (timed l c m u), ended := some .refusal, broken := c.breaksRefusal m } := by
  unfold injectTests
  rw [hc]
  exact if_pos hq

theorem injectTests_over (hc : u.ctx l = some c)
    (hq : ¬(qualifies c m = true ∧ c.limits.refTime * 1000 ≤ refusalTimerAfter c m)) (ho : overLimit c m = true) :
    injectTests l m u = relieve l (c.breaksRefusal m) (timed l c m u) := by
  unfold injectTests
  rw [hc]
  exact (if_neg hq).trans (if_pos ho)

theorem injectTests_break (hc : u.ctx l = some c)
    (hq : ¬(qualifies c m = true ∧ c.limits.refTime * 1000 ≤ refusalTimerAfter c m)) (ho : overLimit c m = false)
    (hb : pressureBreak c m = true) :
    injectTests l m u =
      { s := enterHold l .inject .brk (fun h => { h with brk := true }) (timed l c m u), ended := none
        broken := c.breaksRefusal m } := by
  unfold injectTests
  rw [hc]
  exact ((if_neg hq).trans (if_neg (Bool.eq_false_iff.1 ho))).trans (if_pos hb)

theorem injectTests_runs (hc : u.ctx l = some c)
    (hq : ¬(qualifies c m = true ∧ c.limits.refTime * 1000 ≤ refusalTimerAfter c m)) (ho : overLimit c m = false)
    (hb : pressureBreak c m = false) :
    injectTests l m u = { s := timed l c m u, ended := none, broken := c.breaksRefusal m } := by
  unfold injectTests
  rw [hc]
  exact ((if_neg hq).trans (if_neg (Bool.eq_false_iff.1 ho))).trans (if_neg (Bool.eq_false_iff.1 hb))

theorem relieve_ends (hc : u.ctx l = some c) {broken : Bool} (hlim : c.limits.reliefLimit < c.reliefCount + 1) :
    relieve l broken u =
      { s := enterDrain l (u.modCtx l (fun k => { k with reliefCount := k.reliefCount + 1 })), ended := some .unstable
        broken := broken } := by
  unfold relieve
  rw [hc]
  exact if_pos hlim

theorem relieve_enters (hc : u.ctx l = some c) {broken : Bool} (hlim : c.reliefCount + 1 ≤ c.limits.reliefLimit) :
    relieve l broken u =
      { s := setPhase l .relief (fun k => { k with u := -1000 })
          (exitInject l (u.modCtx l (fun k => { k with reliefCount := k.reliefCount + 1 })))
        ended := none, broken := broken } := by
  unfold relieve
  rw [hc]
  exact if_neg (Nat.not_lt.2 hlim)

theorem LineStep.exitInject (h : LineStep s u l x hs rs) (hx : x.live = some w) (hp : w.phase = .inject) :
    LineStep s (exitInject l u) l { x with live := some { w with ctx := { w.ctx with refusalTimer := 0 } } }
      (hs ++ [.headExamination w.ctx.tank]) rs := by
  have hstep := h.exitIfInject hx
  unfold Sys2Proof.Machine.exitIfInject leaving at hstep
  rw [h.phase hx, if_pos (congrArg some hp), if_pos hp, if_pos hp] at hstep
  exact hstep

/-- What qualifies an INJECT sample for refusal, on the context its tests find (R102). -/
theorem qualifies_aimed {r : Reading} (hp : w.phase = .inject) :
    qualifies (w.aimed (s.sampledOf l r w.ctx)) (s.sampledOf l r w.ctx) = true ↔
      let take := takeOf w.ctx.vol w.ctx.length
      let ceiling := if take = 0 then s.cap w.ctx else min (s.cap w.ctx) (w.ctx.limits.gin * 1000 / take)
      let ramp := min (w.ctx.pRamp + max 1 (w.ctx.limits.ramp * (s.lineCfg l).interval / 1000)) w.ctx.limits.pmax
      r.q ≤ w.ctx.limits.refFlow ∧ min ceiling ramp ≤ s.pe w.ctx r.pg + w.ctx.limits.refBand ∧ ceiling ≤ ramp := by
  unfold qualifies
  simp only [Live.aimed, Context.aim, targetOf, minInt_intensityLimit, hp, if_true, Bool.and_eq_true, decide_eq_true_eq,
    and_assoc]
  simp only [State.sampledOf, minInt_intensityLimit]
  rfl

theorem not_refused {n bound : Nat} (hq : qualifies c m = true → n < bound) (hn : c.refusalTimer + m.interval = n)
    (hbound : c.limits.refTime * 1000 = bound) :
    ¬(qualifies c m = true ∧ c.limits.refTime * 1000 ≤ refusalTimerAfter c m) := by
  rintro ⟨h1, h2⟩
  rw [refusalTimerAfter, if_pos h1, hn, hbound] at h2
  exact absurd (hq h1) (Nat.not_lt.2 h2)

/-- The proof of refusal is broken where the timer was running and this sample sets it to 0 (R103). -/
theorem breaksRefusal_iff {timer : Nat} (h : refusalTimerAfter c m = timer) :
    c.breaksRefusal m = true ↔ 0 < c.refusalTimer ∧ timer = 0 := by
  unfold Context.breaksRefusal
  rw [h, Bool.and_eq_true, decide_eq_true_eq, decide_eq_true_eq]

end

end

end Sys2Proof.Machine
end

section
/-! PROOFS. Samples in INJECT (chapter 5): the over-limit test, the regulating sample and the pressure break. -/

namespace Sys2Proof.Machine

section
variable {s u : State} {l : LineId} {x : Line} {hs : List Instr} {rs : List Report} {v w : Live} {current : Nat}

/-! ### What an INJECT sample reads, and the context its tests find -/

/-- An INJECT sample with its names: what it reads (`m`) and the context its tests find (`a`), of a line with context `c` (R85 to
R88, R102, R103). -/
structure InjectSample (s : State) (l : LineId) (r : Reading) (c : Context) (latch : Option EndLatch) (m : Sampled)
    (a : Context) (ramp ceiling timer : Nat) (qualifying : Prop) : Prop where
  reads : s.sampledOf l r (c.counted r.dv) = m
  aims : ({ phase := .inject, ctx := c.counted r.dv, latch := latch } : Live).aimed m = a
  context : a =
    { c with
      vol := c.vol + r.dv, take := takeOf (c.vol + r.dv) c.length, lastCap := s.cap c, pRamp := ramp
      lastPtgt := min ceiling ramp }
  qualifies_iff : qualifies a m = true ↔ qualifying
  timer_eq : refusalTimerAfter a m = timer
  sampled : m.reading = r ∧ m.pe = s.pe c r.pg ∧ m.cap = s.cap c ∧ m.interval = (s.lineCfg l).interval ∧ m.first = c.first

theorem injectSample (s : State) (l : LineId) (r : Reading) (c : Context) (latch : Option EndLatch) {take ramp ceiling timer : Nat}
    {qualifying : Prop} {_ : Decidable qualifying} (htake : takeOf (c.vol + r.dv) c.length = take)
    (hramp : min (c.pRamp + max 1 (c.limits.ramp * (s.lineCfg l).interval / 1000)) c.limits.pmax = ramp)
    (hceiling : (if take = 0 then s.cap c else min (s.cap c) (c.limits.gin * 1000 / take)) = ceiling)
    (hq : (r.q ≤ c.limits.refFlow ∧ min ceiling ramp ≤ s.pe c r.pg + c.limits.refBand ∧ ceiling ≤ ramp) = qualifying)
    (htimer : (if qualifying then c.refusalTimer + (s.lineCfg l).interval else 0) = timer) :
    ∃ m a, InjectSample s l r c latch m a ramp ceiling timer qualifying := by
  have hqual := qualifies_aimed (s := s) (l := l) (r := r)
    (w := { phase := .inject, ctx := c.counted r.dv, latch := latch }) rfl
  have haimed : ({ phase := .inject, ctx := c.counted r.dv, latch := latch } : Live).aimed (s.sampledOf l r (c.counted r.dv)) =
      { c with
        vol := c.vol + r.dv, take := takeOf (c.vol + r.dv) c.length, lastCap := s.cap c
        pRamp := min (c.pRamp + max 1 (c.limits.ramp * (s.lineCfg l).interval / 1000)) c.limits.pmax
        lastPtgt := min (if take = 0 then s.cap c else min (s.cap c) (c.limits.gin * 1000 / take))
          (min (c.pRamp + max 1 (c.limits.ramp * (s.lineCfg l).interval / 1000)) c.limits.pmax) } := by
    subst htake
    simp only [Live.aimed, Context.aim, targetOf, minInt_intensityLimit]
    rfl
  subst htake hramp hceiling hq
  exact ⟨_, _,
    { reads := rfl
      aims := rfl
      context := haimed
      qualifies_iff := hqual
      timer_eq := by rw [← htimer]; exact if_congr hqual rfl rfl
      sampled := ⟨rfl, rfl, rfl, rfl, rfl⟩ }⟩

namespace InjectSample

variable {r : Reading} {c : Context} {latch : Option EndLatch} {m : Sampled} {a : Context} {ramp ceiling timer bound : Nat}
  {qualifying : Prop}

theorem limits (h : InjectSample s l r c latch m a ramp ceiling timer qualifying) : a.limits = c.limits := by rw [h.context]

theorem reliefCount (h : InjectSample s l r c latch m a ramp ceiling timer qualifying) : a.reliefCount = c.reliefCount := by
  rw [h.context]

theorem tank (h : InjectSample s l r c latch m a ramp ceiling timer qualifying) : a.tank = c.tank := by rw [h.context]

theorem step (h : InjectSample s l r c latch m a ramp ceiling timer qualifying) : a.step = c.step := by rw [h.context]

theorem pendingReq (h : InjectSample s l r c latch m a ramp ceiling timer qualifying) : a.pendingReq = c.pendingReq := by
  rw [h.context]

theorem runs (h : InjectSample s l r c latch m a ramp ceiling timer qualifying) : a.refusalTimer = c.refusalTimer := by
  rw [h.context]

theorem interval (h : InjectSample s l r c latch m a ramp ceiling timer qualifying) : m.interval = (s.lineCfg l).interval :=
  h.sampled.2.2.2.1

theorem closes (h : InjectSample s l r c latch m a ramp ceiling timer qualifying) :
    a.closeWith m =
      { c with
        vol := c.vol + r.dv, take := takeOf (c.vol + r.dv) c.length, lastCap := s.cap c, pRamp := ramp
        lastPtgt := min ceiling ramp, maxPe := max c.maxPe (s.pe c r.pg), lastPg := r.pg, lastPe := s.pe c r.pg
        lastQ := r.q } := by
  obtain ⟨hr, hpe, -, -, -⟩ := h.sampled
  rw [h.context, Context.closeWith, hr, hpe]

theorem not_refused (h : InjectSample s l r c latch m a ramp ceiling timer qualifying)
    (hq : qualifying → c.refusalTimer + (s.lineCfg l).interval < c.limits.refTime * 1000) :
    ¬(qualifies a m = true ∧ a.limits.refTime * 1000 ≤ refusalTimerAfter a m) := by
  rintro ⟨h1, h2⟩
  rw [refusalTimerAfter, if_pos h1, h.runs, h.interval, h.limits] at h2
  exact absurd (hq (h.qualifies_iff.1 h1)) (Nat.not_lt.2 h2)

theorem noticed (h : InjectSample s l r c latch m a ramp ceiling timer qualifying) :
    (if a.breaksRefusal m then [Instr.headExamination c.tank] else []) =
      if 0 < c.refusalTimer ∧ timer = 0 then [.headExamination c.tank] else [] :=
  if_congr (by rw [breaksRefusal_iff h.timer_eq, h.runs]) rfl rfl

theorem endTest_none (h : InjectSample s l r c latch m a ramp ceiling timer qualifying) {take pe : Nat}
    (htake : takeOf (c.vol + r.dv) c.length = take) (hpe : s.pe c r.pg = pe) (h1 : take < c.limits.tmax)
    (h2 : pe * take < c.limits.gin * 1000) : endTest a m.pe = none := by
  subst htake hpe
  obtain ⟨-, hpe, -, -, -⟩ := h.sampled
  rw [h.context, hpe]
  exact Sys2Proof.Machine.endTest_none h1 h2

theorem overLimit_iff (h : InjectSample s l r c latch m a ramp ceiling timer qualifying) :
    overLimit a m = decide (s.cap c + c.limits.overshoot < s.pe c r.pg) := by
  obtain ⟨-, hpe, hcap, -, -⟩ := h.sampled
  rw [overLimit, h.limits, hpe, hcap]

theorem pressureBreak_iff (h : InjectSample s l r c latch m a ramp ceiling timer qualifying) :
    pressureBreak a m = true ↔ c.first = false ∧ s.pe c r.pg + c.limits.breakDrop ≤ c.lastPe ∧ c.lastQ ≤ r.q := by
  obtain ⟨hr, hpe, -, -, hfirst⟩ := h.sampled
  rw [pressureBreak, h.context, hr, hpe, hfirst]
  simp [and_assoc]

theorem earnedMix_eq (h : InjectSample s l r c latch m a ramp ceiling timer qualifying) {take : Nat}
    (htake : takeOf (c.vol + r.dv) c.length = take) (k : Nat) :
    earnedMix { a with refusalTimer := k } m = (stepAdvance c.ladder c.step).elim none (fun n =>
      if n ≤ take ∧ s.pe c r.pg * 2 < s.cap c ∧ c.pendingReq = none then stepMix c.ladder (c.step + 1) else none) := by
  obtain ⟨-, hpe, hcap, -, -⟩ := h.sampled
  unfold earnedMix
  rw [h.context, hpe, hcap, ← htake]
  cases stepAdvance c.ladder c.step <;> rfl

/-- The regulated context as the obligation of R94 writes it. -/
theorem regulate_eq (h : InjectSample s l r c latch m a ramp ceiling timer qualifying) (kp ki : Nat) {timer' n : Nat}
    (ht : timer' = n) {p p' : Option Nat} (hreq : p = p') {e ePrev : Int} (he : ((min ceiling ramp : Nat) : Int) - (s.pe c r.pg : Nat) = e)
    (hprev : (if c.first then e else c.ePrev) = ePrev) :
    (Context.regulate { a with refusalTimer := timer', pendingReq := p } kp ki m.pe).closeWith m =
      { c with
        vol := c.vol + r.dv, take := takeOf (c.vol + r.dv) c.length, lastCap := s.cap c, maxPe := max c.maxPe (s.pe c r.pg)
        lastPg := r.pg, lastPe := s.pe c r.pg, lastQ := r.q, pRamp := ramp, lastPtgt := min ceiling ramp
        refusalTimer := n, ePrev := e, first := false, pendingReq := p'
        u := max (-1000) (min 1000 (c.u + (trunc (kp * (e - ePrev)) 32 + trunc (ki * e) 256))) } := by
  obtain ⟨hr, hpe, -, -, -⟩ := h.sampled
  subst ht hreq
  rw [h.context, Context.closeWith, Context.regulate, hr, hpe, ← hprev, ← he, clampI_eq_max_min _ (by decide)]

end InjectSample

theorem LineStep.advanceMix (h : LineStep s u l x hs rs) (hx : x.live = some v) {m : Sampled} {asks : Option Nat}
    (hasks : earnedMix v.ctx m = asks) :
    LineStep s (advanceMix l m u) l
      { x with live := some { v with ctx := { v.ctx with pendingReq := asks.or v.ctx.pendingReq } } }
      (hs ++ asks.toList.map (fun y => .mixRequest v.ctx.tank l y)) rs := by
  unfold Sys2Proof.Machine.advanceMix
  rw [ctx_of_live (h.live.trans hx)]
  dsimp only
  rw [hasks]
  cases hy : asks with
  | none => rw [Option.none_or, Option.toList_none, List.map_nil, List.append_nil]; exact h.rewrite hx
  | some y =>
    have hfree : v.ctx.pendingReq = none := by
      rw [hy] at hasks
      unfold earnedMix at hasks
      split at hasks
      · cases hasks
      · split_ifs at hasks with hc
        exact hc.2.2
    have hstep := h.raiseRequest hx y
    rw [hfree] at hstep ⊢
    exact hstep

theorem LineStep.regulateSample (h : LineStep s u l x hs rs) (hx : x.live = some v) (hp : v.phase = .inject) {m : Sampled}
    {asks : Option Nat} (hasks : earnedMix v.ctx m = asks) :
    LineStep s (regulateSample l .inject m u) l
      { x with live := some { v with
          ctx := Context.regulate { v.ctx with pendingReq := asks.or v.ctx.pendingReq } (s.lineCfg l).kp (s.lineCfg l).ki m.pe } }
      (hs ++ asks.toList.map (fun y => .mixRequest v.ctx.tank l y)) rs := by
  unfold Sys2Proof.Machine.regulateSample
  rw [if_pos ⟨rfl, by rw [h.phase hx, hp]⟩, h.lineCfg]
  exact (h.advanceMix hx hasks).modCtx rfl _

theorem regulateSample_left {p q : Phase} {m : Sampled} (hq : u.phase l = some q) (hne : q ≠ .inject) :
    regulateSample l p m u = u := by
  unfold regulateSample
  rw [hq]
  exact if_neg fun h => hne (Option.some.inj h.2)

theorem leaving_tank {p : Phase} {c k : Context} (h : k.tank = c.tank) : leaving p k = leaving p c := by
  unfold leaving; rw [h]

theorem exitReports_eq {p : Phase} {c k : Context} {latch latch' : Option EndLatch} {q : Phase} (ht : k.tank = c.tank)
    (hr : k.pendingReq = c.pendingReq) (hstep : k.step = c.step) :
    exitReports s l (s.line l) { phase := p, ctx := k, latch := latch } =
      drainReports s l { phase := q, ctx := c, latch := latch' } p := by
  unfold exitReports drainReports withdrawals Line.unreported
  dsimp only
  rw [ht, hr, hstep]

theorem drainReports_length (s : State) (l : LineId) (v : Live) (p : Phase) : (drainReports s l v p).length ≤ 2 := by
  obtain ⟨q, c, latch⟩ := v
  rw [← exitReports_eq (s := s) (l := l) (latch := latch) rfl rfl rfl]
  exact exitReports_length ..

/-- A started sample whose tests end nothing and leave its permit drop flag (`exec_sample_kept`). -/
theorem exec_sample_same {p' : Phase} {m : Sampled} {z : Live} {c : Context} {handed : List Instr}
    {qs : List Report} (good : s.supply.failed = false) (hv : s.live l = some v) (hstarted : v.phase.started = true)
    (h : LineStep s u l (s.lineSampled l current w) hs rs) (hp : w.phase = p')
    (hsense : senseFault l v.phase (!loopInRange current) (countVolume l (s.read l current v.ctx.lastPg).dv
      (afterReading l (!loopInRange current) s)) = (p', u))
    (hm : s.sampledOf l (s.read l current v.ctx.lastPg) w.ctx = m)
    (htests : ∀ t, LineStep s t l (s.lineSampled l current { w with ctx := w.aimed m }) hs (rs ++ decayReports s l w m.pe) →
      ∃ T broken more, testSample l p' m t = { s := T, ended := none, broken := broken } ∧
        LineStep s (regulateSample l p' m T) l (s.lineSampled l current z)
          (drawOf v.ctx (s.read l current v.ctx.lastPg).dv ++ more) qs ∧
        more ++ (if broken then [.headExamination w.ctx.tank] else []) = handed)
    (hlatch : z.latch = v.latch) (hc : z.ctx.closeWith m = c) (hgin : c.limits.gin = w.ctx.limits.gin)
    (htake : c.take = takeOf w.ctx.vol w.ctx.length) :
    ∃ t, exec (.sample l current) s = .next t ∧ t.live l = some { phase := z.phase, ctx := c, latch := v.latch } ∧
      (t.line l).permitDrop = (s.line l).permitDrop ∧ t.supply = s.supply ∧
      t.handoffs = s.handoffs ++ (drawOf v.ctx (s.read l current v.ctx.lastPg).dv ++ handed) ∧
      (s.roomFor (qs.length + 1) → SampledTo s t l v current z.phase c handed qs) := by
  obtain ⟨t, hexec, hlive, hdrop, hsupply, hhand, hto⟩ := exec_sample_kept (z := z) (d := (s.line l).permitDrop) (handed := handed)
    good hv hstarted h hp hsense hm htests hlatch hc hgin htake
  have hsame : s.setLine l { s.line l with permitDrop := (s.line l).permitDrop } = s := by
    show s.setLine l (s.line l) = s
    simp [State.setLine, State.line]
  rw [hsame] at hto
  exact ⟨t, hexec, hlive, hdrop, hsupply, hhand, hto⟩

/-- Settles O37: test (d) of an INJECT sample, by the relief limit. -/
theorem overLimitRelievesOrEndsUnstable : Obligations.OverLimitRelievesOrEndsUnstable := by
  rintro s l ⟨p, x, latch⟩ current good hv hp hcur
  obtain rfl : p = .inject := hp
  intro c r pe take cap ramp ceiling qualifying timer noticed relieved htake hpe hrefuse hover
  obtain ⟨m, a, hi⟩ := injectSample s l r x latch (take := take) (ramp := ramp) (ceiling := ceiling) (timer := timer)
    (qualifying := qualifying) rfl rfl rfl rfl rfl
  have hnot := hi.not_refused hrefuse
  have hend := hi.endTest_none rfl rfl htake hpe
  have hov : overLimit a m = true := hi.overLimit_iff.trans (decide_eq_true hover)
  have hnoticed := hi.noticed
  have hsense : senseFault l .inject (!loopInRange current) (countVolume l r.dv (afterReading l (!loopInRange current) s)) =
      (.inject, _) := senseFault_healthy (.inl (by rw [hcur]; rfl))
  have htests (t : State) (ht : LineStep s t l (s.lineSampled l current { phase := .inject, ctx := a, latch := latch }) (drawOf x r.dv) []) :
      testSample l .inject m t = relieve l (a.breaksRefusal m) (timed l a m t) :=
    (testSample_passes (ht.live.trans rfl) hend).trans (injectTests_over (ctx_of_live (ht.live.trans rfl)) hnot hov)
  by_cases hlim : x.reliefCount + 1 ≤ x.limits.reliefLimit
  · have hlim' : a.reliefCount + 1 ≤ a.limits.reliefLimit := by rw [hi.reliefCount, hi.limits]; exact hlim
    have hclosed : Context.closeWith { a with refusalTimer := 0, reliefCount := a.reliefCount + 1, u := -1000 } m = relieved := by
      rw [hi.reliefCount]
      exact congrArg (fun k : Context => { k with refusalTimer := 0, reliefCount := x.reliefCount + 1, u := -1000 }) hi.closes
    obtain ⟨t, hexec, hlive, hdrop, hsupply, hhand, hto⟩ := exec_sample_same (p' := .inject) (m := m)
      (w := { phase := .inject, ctx := x.counted r.dv, latch := latch })
      (handed := .headExamination x.tank :: noticed) (qs := [])
      (z := { phase := .relief, latch := latch, ctx := { a with refusalTimer := 0, reliefCount := a.reliefCount + 1, u := -1000 } })
      (c := relieved) good hv rfl (counted_step hv) rfl hsense hi.reads
      (fun t ht => by
        rw [decayReports_nil (w := { phase := .inject, ctx := x.counted r.dv, latch := latch }) nofun, hi.aims] at ht
        have htimed := ht.modCtx rfl (fun k => { k with refusalTimer := refusalTimerAfter a m })
        have hcounted := htimed.modCtx rfl (fun k => { k with reliefCount := k.reliefCount + 1 })
        have hrelief := (hcounted.exitInject rfl rfl).setPhase rfl .relief (fun k => { k with u := -1000 })
        refine ⟨_, a.breaksRefusal m, [.headExamination x.tank],
          (htests t ht).trans (relieve_enters (ctx_of_live (htimed.live.trans rfl)) hlim'), ?_, congrArg _ hnoticed⟩
        have hkept : regulateSample l .inject m _ = _ := regulateSample_left (hrelief.phase rfl) nofun
        rw [hkept, ← hi.tank]
        exact hrelief)
      rfl hclosed rfl rfl
    have hgood : t.supply.failed = false := by rw [hsupply]; exact good
    refine ⟨t, _, hexec, hlive, rfl, rfl, rfl, rfl, rfl, rfl, ?_, ?_, ?_, fun _ => ⟨rfl, rfl, rfl, rfl, ?_, hto⟩, fun h => ?_⟩
    · rw [State.pump, hgood, hlive]; rfl
    · rw [State.bleed, hgood, hlive]; rfl
    · rw [hhand]; exact List.mem_append_right _ (List.mem_append_right _ (List.mem_cons_self ..))
    · have hbefore : s.phase l = some .inject := phase_of_live hv
      have hafter : t.phase l = some .relief := phase_of_live hlive
      rw [State.permit, State.permit, hbefore, hafter, hsupply]
    · exact absurd h (Nat.not_lt.2 hlim)
  · have hlim' : a.limits.reliefLimit < a.reliefCount + 1 := by rw [hi.reliefCount, hi.limits]; exact Nat.not_le.1 hlim
    have hclosed : Context.closeWith (Context.drained { a with refusalTimer := refusalTimerAfter a m, reliefCount := a.reliefCount + 1 }) m =
        { relieved with hold := HoldSet.none, starve := none, pendingReq := none } := by
      rw [hi.reliefCount]
      exact congrArg (fun k : Context => { k with
        refusalTimer := 0, reliefCount := x.reliefCount + 1, u := -1000, hold := HoldSet.none, starve := none
        pendingReq := none }) hi.closes
    obtain ⟨t, hexec, hpermit, hpump, hbleed, hlive, hto⟩ := exec_sample_ended (p' := .inject) (m := m)
      (w := { phase := .inject, ctx := x.counted r.dv, latch := latch }) (noticed := noticed) (o := .unstable)
      (z := { phase := .inject, latch := latch, ctx := { a with refusalTimer := refusalTimerAfter a m, reliefCount := a.reliefCount + 1 } })
      (c := { relieved with hold := HoldSet.none, starve := none, pendingReq := none })
      (qs := drainReports s l { phase := .inject, ctx := x, latch := latch } .inject) good hv rfl (counted_step hv) rfl hsense hi.reads
      (fun t ht => by
        rw [decayReports_nil (w := { phase := .inject, ctx := x.counted r.dv, latch := latch }) nofun, hi.aims] at ht
        have htimed := ht.modCtx rfl (fun k => { k with refusalTimer := refusalTimerAfter a m })
        have hcounted := htimed.modCtx rfl (fun k => { k with reliefCount := k.reliefCount + 1 })
        exact ⟨_, a.breaksRefusal m,
          (htests t ht).trans (relieve_ends (ctx_of_live (htimed.live.trans rfl)) hlim'), hcounted, hnoticed⟩)
      (by rw [← leaving_tank hi.tank]; rfl) hi.tank hclosed (exitReports_eq hi.tank hi.pendingReq hi.step)
      ((drainReports_length ..).trans (by decide)) rfl rfl
    refine ⟨t, _, hexec, hlive, rfl, rfl, rfl, rfl, rfl, rfl, hpump, hbleed, ?_, fun h => absurd h hlim,
      fun _ => ⟨rfl, hpermit, hto⟩⟩
    rw [hto.state]
    simp [leaving, show c.tank = x.tank from rfl]

/-! ### A sample of any other started state -/

/-- What a sample outside INJECT closes with, where its tests write nothing of the context (R85 to R88, R96). -/
theorem closeWith_aimed_still {r : Reading} {m : Sampled} {take pe cap ceiling : Nat} {hold : HoldSet} (hp : w.phase ≠ .inject)
    (hm : s.sampledOf l r w.ctx = m) (htake : takeOf w.ctx.vol w.ctx.length = take) (hpe : s.pe w.ctx r.pg = pe)
    (hcap : s.cap w.ctx = cap) (hceiling : (if take = 0 then cap else min cap (w.ctx.limits.gin * 1000 / take)) = ceiling)
    (hhold : (if w.phase = .hold ∧ w.ctx.decayed pe = true then w.ctx.hold.drop .site else w.ctx.hold) = hold) :
    (w.aimed m).closeWith m =
      { w.ctx with
        take := take, lastCap := cap, lastPtgt := min ceiling w.ctx.pRamp, hold := hold, maxPe := max w.ctx.maxPe pe
        lastPg := r.pg, lastPe := pe, lastQ := r.q } := by
  subst hm htake hpe hcap hceiling hhold
  rw [closeWith_aimed]
  simp only [if_neg hp]
  rfl

theorem endTest_aimed {r : Reading} {m : Sampled} {take pe : Nat} (hm : s.sampledOf l r w.ctx = m)
    (htake : takeOf w.ctx.vol w.ctx.length = take) (hpe : s.pe w.ctx r.pg = pe) (h1 : take < w.ctx.limits.tmax)
    (h2 : pe * take < w.ctx.limits.gin * 1000) : endTest (w.aimed m) m.pe = none := by
  subst hm htake hpe
  exact endTest_none h1 h2

theorem aimed_hold (w : Live) (m : Sampled) :
    (w.aimed m).hold = if w.phase = .hold ∧ w.ctx.decayed m.pe = true then w.ctx.hold.drop .site else w.ctx.hold := rfl

theorem decayReports_undecayed {pe : Nat} (h : w.ctx.decayed pe = false) (s : State) (l : LineId) : decayReports s l w pe = [] :=
  if_neg fun hc => Bool.false_ne_true (h.symm.trans hc.1.2)

theorem stateTests_hold_stays {c : Context} (hc : u.ctx l = some c) (he : c.hold.isEmpty = false) (m : Sampled) :
    stateTests l .hold m u = { s := u, ended := none, broken := false } := by
  unfold stateTests
  rw [hc]
  simp [he]

/-- Settles O35: an INJECT sample regulates or holds on a pressure break, and a faulted one holds. -/
theorem injectSampleRegulates : Obligations.InjectSampleRegulates := by
  rintro s l ⟨p, x, latch⟩ current good hv
  intro c cfg r pe take cap ramp ceiling tgt qualifying timer e ePrev u asks kept held broken noticed leads htake hpe
  refine ⟨fun hp hcur hrefuse hcap => ?_, fun hcur hp room => ?_⟩
  · obtain rfl : p = .inject := hp
    obtain ⟨m, a, hi⟩ := injectSample s l r x latch (take := take) (ramp := ramp) (ceiling := ceiling) (timer := timer)
      (qualifying := qualifying) rfl rfl rfl rfl rfl
    have htimer (h : qualifying) : timer = c.refusalTimer + cfg.interval := if_pos h
    have hnot := hi.not_refused fun h => by rw [← htimer h]; exact hrefuse h
    have hend := hi.endTest_none rfl rfl htake hpe
    have hov : overLimit a m = false := hi.overLimit_iff.trans (decide_eq_false (Nat.not_lt.2 hcap))
    have hnoticed := hi.noticed
    have hsense : senseFault l .inject (!loopInRange current) (countVolume l r.dv (afterReading l (!loopInRange current) s)) =
        (.inject, _) := senseFault_healthy (.inl (by rw [hcur]; rfl))
    refine ⟨fun hb room => ?_, fun hb room => ?_⟩
    · have hbreak : pressureBreak a m = false := Bool.eq_false_iff.2 fun h => hb (hi.pressureBreak_iff.1 h)
      have hearned : earnedMix { a with refusalTimer := refusalTimerAfter a m } m = asks := by
        rw [hi.earnedMix_eq (take := take) rfl]
        simp only [asks, c]
        cases stepAdvance x.ladder x.step with
        | none => rfl
        | some n => exact if_congr Iff.rfl rfl rfl
      have hclosed := hi.regulate_eq cfg.kp cfg.ki hi.timer_eq (congrArg asks.or hi.pendingReq) (e := e) (ePrev := ePrev) rfl rfl
      obtain ⟨t, hexec, -, -, -, -, hto⟩ := exec_sample_same (p' := .inject) (m := m)
        (w := { phase := .inject, ctx := x.counted r.dv, latch := latch })
        (z := { phase := .inject, latch := latch
                ctx := Context.regulate { a with refusalTimer := refusalTimerAfter a m, pendingReq := asks.or a.pendingReq } cfg.kp cfg.ki m.pe })
        (handed := asks.toList.map (fun m => .mixRequest c.tank l m) ++ noticed) (qs := [])
        (c := { kept with
          pRamp := ramp, lastPtgt := tgt, refusalTimer := timer, u := u, ePrev := e, first := false
          pendingReq := asks.or c.pendingReq }) good hv rfl (counted_step hv) rfl hsense hi.reads
        (fun t ht => by
          rw [decayReports_nil (w := { phase := .inject, ctx := x.counted r.dv, latch := latch }) nofun, hi.aims] at ht
          have htimed := ht.modCtx rfl (fun k => { k with refusalTimer := refusalTimerAfter a m })
          refine ⟨_, a.breaksRefusal m, asks.toList.map (fun m => .mixRequest c.tank l m),
            ((testSample_passes (ht.live.trans rfl) hend).trans
              (injectTests_runs (ctx_of_live (ht.live.trans rfl)) hnot hov hbreak)), ?_, congrArg _ hnoticed⟩
          have hrun := htimed.regulateSample rfl rfl hearned
          rw [show c.tank = a.tank from hi.tank.symm]
          exact hrun)
        rfl hclosed rfl rfl
      exact ⟨t, hexec, hto room⟩
    · have hbreak : pressureBreak a m = true := hi.pressureBreak_iff.2 hb
      obtain ⟨t, hexec, -, -, -, -, hto⟩ := exec_sample_same (p' := .inject) (m := m)
        (w := { phase := .inject, ctx := x.counted r.dv, latch := latch })
        (z := { phase := .hold, latch := latch
                ctx := { a with hold := { HoldSet.none with brk := true }, u := 0, starve := none, refusalTimer := 0 } })
        (handed := .headExamination c.tank :: noticed)
        (qs := [lineChange s l .inject .hold (some .brk) { HoldSet.none with brk := true } none none])
        (c := { held with pRamp := ramp, lastPtgt := tgt, hold := { HoldSet.none with brk := true } })
        good hv rfl (counted_step hv) rfl hsense hi.reads
        (fun t ht => by
          rw [decayReports_nil (w := { phase := .inject, ctx := x.counted r.dv, latch := latch }) nofun, hi.aims] at ht
          have htimed := ht.modCtx rfl (fun k => { k with refusalTimer := refusalTimerAfter a m })
          have hheld := htimed.enterHold rfl .inject .brk (fun h => { h with brk := true })
          refine ⟨_, a.breaksRefusal m, [.headExamination c.tank],
            ((testSample_passes (ht.live.trans rfl) hend).trans
              (injectTests_break (ctx_of_live (ht.live.trans rfl)) hnot hov hbreak)), ?_, congrArg _ hnoticed⟩
          have hkept : regulateSample l .inject m _ = _ := regulateSample_left (hheld.phase rfl) nofun
          rw [show c.tank = a.tank from hi.tank.symm]
          unfold timed
          rw [hkept]
          exact hheld)
        rfl (congrArg (fun k : Context => { k with
          hold := { HoldSet.none with brk := true }, u := 0, starve := none, refusalTimer := 0 }) hi.closes) rfl rfl
      exact ⟨t, hexec, hto room⟩
  · have hsensor : p.sensorHolds = true := by rcases hp with h | h | h <;> (obtain rfl := h; rfl)
    have hstarted : p.started = true := by rcases hp with h | h | h <;> (obtain rfl := h; rfl)
    let w : Live :=
      { phase := .hold, latch := latch
        ctx := { x.counted r.dv with
          hold := { HoldSet.none with sensor := true }, u := 0, starve := none
          refusalTimer := if p = .inject then 0 else c.refusalTimer } }
    obtain ⟨m, hm⟩ : ∃ m, s.sampledOf l r w.ctx = m := ⟨_, rfl⟩
    have hundecayed (n : Nat) : w.ctx.decayed n = false := rfl
    have hsense : senseFault l p (!loopInRange current) (countVolume l r.dv (afterReading l (!loopInRange current) s)) =
        (.hold, enterHold l p .sensor (fun h => { h with sensor := true })
          (countVolume l r.dv (afterReading l (!loopInRange current) s))) := by
      rw [hcur]; exact senseFault_faulted hsensor
    have hheld := (counted_step (current := current) hv).enterHold rfl p .sensor (fun h => { h with sensor := true })
    obtain ⟨t, hexec, -, -, -, -, hto⟩ := exec_sample_same (p' := .hold) (m := m) (w := w)
      (z := { w with ctx := w.aimed m }) (handed := leaving p c)
      (qs := [lineChange s l p .hold (some .sensor) { HoldSet.none with sensor := true } none none])
      (c := { held with lastPtgt := min ceiling c.pRamp, hold := { HoldSet.none with sensor := true } })
      good hv hstarted hheld rfl hsense hm
      (fun t ht => by
        rw [decayReports_undecayed (hundecayed _), List.append_nil] at ht
        have hstay : (w.aimed m).hold.isEmpty = false := by
          rw [aimed_hold, hundecayed, if_neg (fun hc => Bool.false_ne_true hc.2)]; rfl
        refine ⟨_, false, leaving p c, (testSample_passes (ht.live.trans rfl) (endTest_aimed hm rfl rfl htake hpe)).trans
          (stateTests_hold_stays (ctx_of_live (ht.live.trans rfl)) hstay m), ?_, List.append_nil _⟩
        rw [regulateSample_not_inject (p := .hold) nofun]
        exact ht)
      rfl (closeWith_aimed_still nofun hm rfl rfl rfl rfl (if_neg fun hc => Bool.false_ne_true hc.2)) rfl rfl
    exact ⟨t, hexec, hto room⟩

end

end Sys2Proof.Machine
end

section
/-! PROOFS. The end tests of a sample, and what a sample that ends nothing does in RELIEF, STARVED and HOLD (chapters 4 to 6). -/

namespace Sys2Proof.Machine

section
variable {s u : State} {l : LineId} {x : Line} {hs : List Instr} {rs : List Report} {v w : Live} {current : Nat}

/-! ### The entry of a line that leaves HOLD at a sample (R70, R98) -/

theorem LineStep.leaveHold (h : LineStep s u l x hs rs) (hx : x.live = some v) {pe : Nat} {e : Phase × Context}
    (hentry : s.entry v.ctx pe = e) (cause : Option Cause) (cond : Release) :
    LineStep s (leaveHold l pe cause cond u) l { x with live := some { phase := e.1, ctx := e.2, latch := v.latch } }
      (hs ++ raised l v.ctx e.2)
      (rs ++ [Sys2Proof.Machine.lineChange s l .hold e.1 cause e.2.hold e.2.starve (some cond)]) := by
  rw [leaveHold_eq (h.live.trans hx), h.entry, hentry, h.lineChange]
  exact ((h.setLive _).handOffs _).report _

theorem entry_keeps (s : State) (c : Context) (pe : Nat) :
    ∃ ramp d first starve pending, (s.entry c pe).2 =
      { c with pRamp := ramp, u := d, first := first, starve := starve, pendingReq := pending } := by
  unfold State.entry
  split
  · exact ⟨_, _, _, _, _, rfl⟩
  · split_ifs <;> exact ⟨_, _, _, _, _, rfl⟩

/-- The entry writes nothing that the close of a sample writes (R96). -/
theorem entry_closeWith (s : State) (c : Context) (m : Sampled) (pe : Nat) :
    s.entry (c.closeWith m) pe = ((s.entry c pe).1, (s.entry c pe).2.closeWith m) := by
  have hmix : (c.closeWith m).mix = c.mix := rfl
  have htank : (c.closeWith m).tank = c.tank := rfl
  unfold State.entry
  rw [hmix, htank]
  split
  · rfl
  · split_ifs <;> rfl

/-! ### What step 7 does outside INJECT and LOCAL -/

section
variable {c : Context} {m : Sampled}

theorem stateTests_hold_leaves (hc : u.ctx l = some c) (he : c.hold.isEmpty = true) (m : Sampled) :
    stateTests l .hold m u = { s := leaveHold l m.pe (some .site) .decay u, ended := none, broken := false } := by
  unfold stateTests
  rw [hc]
  simp [he]

theorem stateTests_relief_returns (h : m.pe ≤ m.cap) :
    stateTests l .relief m u = { s := enterInject l m.pe u, ended := none, broken := false } := by
  unfold stateTests
  rw [if_pos h]

theorem stateTests_relief_stays (h : m.cap < m.pe) :
    stateTests l .relief m u = { s := u, ended := none, broken := false } := by
  unfold stateTests
  rw [if_neg (Nat.not_le.2 h)]

theorem endTest_volume {pe : Nat} (h : c.limits.tmax ≤ c.take) : endTest c pe = some .volume := if_pos h

theorem endTest_intensity {pe : Nat} (h1 : ¬c.limits.tmax ≤ c.take) (h2 : c.limits.gin * 1000 ≤ pe * c.take) :
    endTest c pe = some .intensity := (if_neg h1).trans (if_pos h2)

end

/-! ### A started sample up to the sensor test (R43) -/

/-- A started sample in its tests: what the sensor test has left (`w` in `u`), and what the tests read (`m`). -/
structure SampleStart (s : State) (l : LineId) (v : Live) (current : Nat) (w : Live) (u : State) (hs : List Instr)
    (rs : List Report) (m : Sampled) : Prop where
  good : s.supply.failed = false
  live : s.live l = some v
  started : v.phase.started = true
  step : LineStep s u l (s.lineSampled l current w) hs rs
  senses : senseFault l v.phase (!loopInRange current) (countVolume l (s.read l current v.ctx.lastPg).dv
    (afterReading l (!loopInRange current) s)) = (w.phase, u)
  reads : s.sampledOf l (s.read l current v.ctx.lastPg) w.ctx = m
  context : ∃ hold demand starve timer, w.ctx =
    { v.ctx.counted (s.read l current v.ctx.lastPg).dv with
      hold := hold, u := demand, starve := starve, refusalTimer := timer }
  handed : hs ++ leaving w.phase v.ctx = drawOf v.ctx (s.read l current v.ctx.lastPg).dv ++ leaving v.phase v.ctx

/-- The context of a line whose pass ends at a sample that found this take, p_e, cap, P_ramp and ceiling (R77, R96). -/
def Context.endedWith (c : Context) (r : Reading) (take pe cap ramp ceiling : Nat) : Context :=
  { c with
    vol := c.vol + r.dv, take := take, lastCap := cap, lastPtgt := min ceiling ramp, pRamp := ramp, maxPe := max c.maxPe pe
    lastPg := r.pg, lastPe := pe, lastQ := r.q, u := -1000, hold := HoldSet.none, starve := none, refusalTimer := 0
    pendingReq := none }

theorem aimed_tank (w : Live) (m : Sampled) : (w.aimed m).tank = w.ctx.tank := rfl
theorem aimed_pendingReq (w : Live) (m : Sampled) : (w.aimed m).pendingReq = w.ctx.pendingReq := rfl
theorem aimed_step (w : Live) (m : Sampled) : (w.aimed m).step = w.ctx.step := rfl
theorem aimed_limits (w : Live) (m : Sampled) : (w.aimed m).limits = w.ctx.limits := rfl
theorem aimed_take (w : Live) (m : Sampled) : (w.aimed m).take = takeOf w.ctx.vol w.ctx.length := rfl

namespace SampleStart

variable {m : Sampled}

theorem sampled (h : SampleStart s l v current w u hs rs m) :
    m.reading = s.read l current v.ctx.lastPg ∧ m.pe = s.pe v.ctx (s.read l current v.ctx.lastPg).pg ∧ m.cap = s.cap v.ctx ∧
      m.interval = (s.lineCfg l).interval := by
  obtain ⟨hold, demand, starve, timer, hctx⟩ := h.context
  obtain rfl := h.reads
  rw [State.sampledOf, hctx]
  exact ⟨rfl, rfl, rfl, rfl⟩

/-- What a pass that a sample ends is left with. -/
theorem ended_context (h : SampleStart s l v current w u hs rs m) {n take pe cap ramp ceiling : Nat} {r : Reading}
    (hr : s.read l current v.ctx.lastPg = r) (htake : takeOf (v.ctx.vol + r.dv) v.ctx.length = take)
    (hpe : s.pe v.ctx r.pg = pe) (hcap : s.cap v.ctx = cap)
    (hramp : (if w.phase = .inject then min (v.ctx.pRamp + rampStep v.ctx.limits.ramp (s.lineCfg l).interval) v.ctx.limits.pmax
      else v.ctx.pRamp) = ramp)
    (hceiling : (if take = 0 then cap else min cap (v.ctx.limits.gin * 1000 / take)) = ceiling) :
    Context.closeWith (Context.drained { w.aimed m with refusalTimer := n }) m =
      v.ctx.endedWith r take pe cap ramp ceiling := by
  obtain ⟨hreading, hmpe, hmcap, hinterval⟩ := h.sampled
  obtain ⟨hold, demand, starve, timer, hctx⟩ := h.context
  have hdrained (k : Context) : Context.closeWith (Context.drained { k with refusalTimer := n }) m =
      { k.closeWith m with
        u := -1000, hold := HoldSet.none, starve := none, refusalTimer := 0, pendingReq := none } := rfl
  subst hr htake hpe hcap hramp hceiling
  rw [hdrained, closeWith_aimed, hreading, hmpe, hmcap, hinterval, hctx]
  rfl

/-- A sample whose tests end the pass with an outcome that carries no snapshot (R89, R108, R109). -/
theorem ends (h : SampleStart s l v current w u hs rs m) {o : PassOutcome} {n : Nat} (ho : o.snapshots = false)
    (htests : ∀ t, LineStep s t l (s.lineSampled l current { w with ctx := w.aimed m }) hs (rs ++ decayReports s l w m.pe) →
      ∃ T, testSample l w.phase m t = { s := enterDrain l T, ended := some o, broken := false } ∧
        LineStep s T l (s.lineSampled l current { w with ctx := { w.aimed m with refusalTimer := n } }) hs
          (rs ++ decayReports s l w m.pe)) {qs : List Report} (hqs : rs ++ decayReports s l w m.pe = qs) (hlen : qs.length ≤ 1)
    {c : Context} (hc : Context.closeWith (Context.drained { w.aimed m with refusalTimer := n }) m = c) :
    ∃ t, exec (.sample l current) s = .next t ∧ t.permit l = false ∧ t.pump l = 0 ∧ t.bleed l = 1000 ∧
      DrainedAtSample s t l v current
        { outcome := o, finalTake := c.take, finalPe := c.lastPe, finalProduct := c.lastPe * c.take, maxPe := c.maxPe
          finalStep := c.step, reliefCount := c.reliefCount, snapshot := none, drainTime := 0 }
        c [] (qs ++ drainReports s l v w.phase) := by
  obtain ⟨hold, demand, starve, timer, hctx⟩ := h.context
  have htank : (w.aimed m).tank = v.ctx.tank := (aimed_tank w m).trans (by rw [hctx]; rfl)
  have hpending : (w.aimed m).pendingReq = v.ctx.pendingReq := (aimed_pendingReq w m).trans (by rw [hctx]; rfl)
  have hstep : (w.aimed m).step = v.ctx.step := (aimed_step w m).trans (by rw [hctx]; rfl)
  have hdrain := drainReports_length s l v w.phase
  obtain ⟨t, hexec, hpermit, hpump, hbleed, -, hto⟩ := exec_sample_ended (o := o) (noticed := [])
    (z := { w with ctx := { w.aimed m with refusalTimer := n } }) (qs := qs ++ drainReports s l v w.phase) h.good h.live h.started
    h.step rfl h.senses h.reads
    (fun t ht => by
      obtain ⟨T, htest, hT⟩ := htests t ht
      exact ⟨T, false, htest, hT, rfl⟩)
    ((congrArg (hs ++ ·) (leaving_tank htank)).trans h.handed) htank hc
    (by rw [hqs]; exact congrArg _ (exitReports_eq htank hpending hstep)) (by rw [List.length_append]; omega)
    (by rw [← hc]; rfl) (by rw [← hc]; rfl)
  have hlatch : endLatch s o w.phase w.ctx.u c =
      { outcome := o, finalTake := c.take, finalPe := c.lastPe, finalProduct := c.lastPe * c.take, maxPe := c.maxPe
        finalStep := c.step, reliefCount := c.reliefCount, snapshot := none, drainTime := 0 } := by
    rw [endLatch, ho]; rfl
  rw [hlatch] at hto
  exact ⟨t, hexec, hpermit, hpump, hbleed, hto⟩

/-- A sample that test (a) or (b) ends (R89, R105). -/
theorem ends_tested (h : SampleStart s l v current w u hs rs m) {o : PassOutcome} {take pe cap ramp ceiling : Nat} {r : Reading}
    {qs : List Report} (hr : s.read l current v.ctx.lastPg = r) (htake : takeOf (v.ctx.vol + r.dv) v.ctx.length = take)
    (hpe : s.pe v.ctx r.pg = pe) (hcap : s.cap v.ctx = cap)
    (hramp : (if w.phase = .inject then min (v.ctx.pRamp + rampStep v.ctx.limits.ramp (s.lineCfg l).interval) v.ctx.limits.pmax
      else v.ctx.pRamp) = ramp)
    (hceiling : (if take = 0 then cap else min cap (v.ctx.limits.gin * 1000 / take)) = ceiling)
    (hend : v.ctx.limits.tmax ≤ take ∧ o = .volume ∨
      ¬v.ctx.limits.tmax ≤ take ∧ v.ctx.limits.gin * 1000 ≤ pe * take ∧ o = .intensity)
    (hqs : rs ++ decayReports s l w pe = qs) (hlen : qs.length ≤ 1) :
    ∃ t, exec (.sample l current) s = .next t ∧ t.permit l = false ∧ t.pump l = 0 ∧ t.bleed l = 1000 ∧
      DrainedAtSample s t l v current
        { outcome := o, finalTake := take, finalPe := pe, finalProduct := pe * take, maxPe := max v.ctx.maxPe pe
          finalStep := v.ctx.step, reliefCount := v.ctx.reliefCount, snapshot := none, drainTime := 0 }
        (v.ctx.endedWith r take pe cap ramp ceiling) [] (qs ++ drainReports s l v w.phase) := by
  have hclosed := h.ended_context (n := (w.aimed m).refusalTimer) hr htake hpe hcap hramp hceiling
  obtain ⟨-, hmpe, -, -⟩ := h.sampled
  rw [hr, hpe] at hmpe
  have hlimits : (w.aimed m).limits = v.ctx.limits := by
    obtain ⟨hold, demand, starve, timer, hctx⟩ := h.context
    rw [aimed_limits, hctx]; rfl
  have htaken : (w.aimed m).take = take := by
    obtain ⟨hold, demand, starve, timer, hctx⟩ := h.context
    rw [aimed_take, hctx, ← htake, ← hr]; rfl
  have htest : endTest (w.aimed m) m.pe = some o := by
    rcases hend with ⟨h1, rfl⟩ | ⟨h1, h2, rfl⟩
    · exact endTest_volume (by rw [hlimits, htaken]; exact h1)
    · exact endTest_intensity (by rw [hlimits, htaken]; exact h1) (by rw [hlimits, htaken, hmpe]; exact h2)
  have ho : o.snapshots = false := by rcases hend with ⟨-, rfl⟩ | ⟨-, -, rfl⟩ <;> rfl
  exact h.ends ho (fun t ht => ⟨t, testSample_ends (ht.live.trans rfl) htest, ht⟩) (by rw [hmpe]; exact hqs) hlen hclosed

end SampleStart

/-- A sample that the transducer, or its state, leaves where it is (R43). -/
theorem sampleStart_healthy (good : s.supply.failed = false) (hv : s.live l = some v) (hstarted : v.phase.started = true)
    (h : loopInRange current = true ∨ v.phase.sensorHolds = false) :
    let r := s.read l current v.ctx.lastPg
    SampleStart s l v current { v with ctx := v.ctx.counted r.dv }
      (countVolume l r.dv (afterReading l (!loopInRange current) s)) (drawOf v.ctx r.dv) []
      (s.sampledOf l r (v.ctx.counted r.dv)) where
  good := good
  live := hv
  started := hstarted
  step := counted_step hv
  senses := senseFault_healthy (h.imp (fun hc => by rw [hc]; rfl) id)
  reads := rfl
  context := ⟨_, _, _, _, rfl⟩
  handed := rfl

/-- The line after a faulted transducer has taken it to HOLD (R43, R69). -/
def Live.sensed (v : Live) (dv : Nat) : Live :=
  { phase := .hold, latch := v.latch
    ctx := { v.ctx.counted dv with
      hold := { HoldSet.none with sensor := true }, u := 0, starve := none
      refusalTimer := if v.phase = .inject then 0 else v.ctx.refusalTimer } }

theorem sampleStart_faulted (good : s.supply.failed = false) (hv : s.live l = some v) (hsensor : v.phase.sensorHolds = true)
    (hcur : loopInRange current = false) :
    let r := s.read l current v.ctx.lastPg
    SampleStart s l v current (v.sensed r.dv)
      (enterHold l v.phase .sensor (fun h => { h with sensor := true })
        (countVolume l r.dv (afterReading l (!loopInRange current) s)))
      (drawOf v.ctx r.dv ++ leaving v.phase v.ctx)
      [lineChange s l v.phase .hold (some .sensor) { HoldSet.none with sensor := true } none none]
      (s.sampledOf l r (v.sensed r.dv).ctx) where
  good := good
  live := hv
  started := by obtain ⟨p, c, latch⟩ := v; cases p <;> first | rfl | cases hsensor
  step := (counted_step (current := current) hv).enterHold rfl v.phase .sensor (fun h => { h with sensor := true })
  senses := by rw [hcur]; exact senseFault_faulted hsensor
  reads := rfl
  context := ⟨_, _, _, _, rfl⟩
  handed := List.append_nil _

/-- A sample outside INJECT that tests (a) and (b) do not end: what step 7 does to the line that it has aimed. -/
theorem SampleStart.keeps {m : Sampled} (h : SampleStart s l v current w u hs rs m) (hnot : w.phase ≠ .inject)
    (hend : endTest (w.aimed m) m.pe = none) {z : Live} {c : Context} {more : List Instr} {qs : List Report}
    (htests : ∀ t, LineStep s t l (s.lineSampled l current { w with ctx := w.aimed m }) hs (rs ++ decayReports s l w m.pe) →
      ∃ T, stateTests l w.phase m t = { s := T, ended := none, broken := false } ∧
        LineStep s T l (s.lineSampled l current z) (drawOf v.ctx (s.read l current v.ctx.lastPg).dv ++ more) qs)
    (hlatch : z.latch = v.latch) (hc : z.ctx.closeWith m = c) (hgin : c.limits.gin = w.ctx.limits.gin)
    (htake : c.take = takeOf w.ctx.vol w.ctx.length) (room : s.roomFor (qs.length + 1)) :
    ∃ t, exec (.sample l current) s = .next t ∧ SampledTo s t l v current z.phase c more qs := by
  obtain ⟨t, hexec, -, -, -, -, hto⟩ := exec_sample_same (z := z) (handed := more) h.good h.live h.started h.step rfl h.senses
    h.reads
    (fun t ht => by
      obtain ⟨T, htest, hT⟩ := htests t ht
      rw [← testSample_passes (ht.live.trans rfl) hend] at htest
      refine ⟨T, false, more, htest, ?_, List.append_nil _⟩
      rw [regulateSample_not_inject hnot]
      exact hT) hlatch hc hgin htake
  exact ⟨t, hexec, hto room⟩

/-- Settles O36: the end tests of a sample, and a sample that they do not end in RELIEF, STARVED and HOLD. -/
theorem sampleEndsThePass : Obligations.SampleEndsThePass := by
  rintro s l ⟨p, x, latch⟩ current good hv hstarted
  intro c r pe take cap ramp ceiling qualifying volume intensity refusal kept decayed left e held state under ended before leads
  have hbefore : decayReports s l { phase := p, ctx := x.counted r.dv, latch := latch } pe =
      if p = .hold ∧ decayed ∧ left.hold.isEmpty = false then
        [lineChange s l .hold .hold (some .site) left.hold c.starve (some .decay)] else [] := if_congr and_assoc rfl rfl
  refine ⟨fun o ho => ?_, fun hvol hint room => ?_⟩
  · by_cases hheld : held = true
    · obtain ⟨hcur, hp⟩ := Bool.and_eq_true_iff.1 hheld
      have hsensor : p.sensorHolds = true := by
        rcases (by simpa using hp : p = .inject ∨ p = .relief ∨ p = .starved) with rfl | rfl | rfl <;> rfl
      have hlost : loopInRange current = false := by simpa using hcur
      have hnohold : p ≠ .hold := fun h => by rw [h] at hsensor; cases hsensor
      have hstate : state = .hold := if_pos hheld
      have hend : volume ∧ o = .volume ∨ ¬volume ∧ intensity ∧ o = .intensity := by
        rcases ho with h | h | ⟨-, -, ⟨-, hcur', -⟩, -⟩
        · exact .inl h
        · exact .inr h
        · exact absurd (hlost.symm.trans hcur') nofun
      have hqs : before = [lineChange s l p .hold (some .sensor) { HoldSet.none with sensor := true } none none] := by
        show (if held then _ else _) ++ (if p = .hold ∧ _ then _ else _) = _
        rw [if_pos hheld, if_neg fun h => hnohold h.1, List.append_nil]
      rw [hqs, hstate]
      exact (sampleStart_faulted good hv hsensor hlost).ends_tested rfl rfl rfl rfl
        ((if_neg nofun).trans (if_neg (by rw [hstate]; nofun)).symm) rfl hend
        (by rw [decayReports_undecayed rfl, List.append_nil]) (Nat.le_refl 1)
    · have hstate : state = p := if_neg hheld
      have hqs : before = decayReports s l { phase := p, ctx := x.counted r.dv, latch := latch } pe := by
        rw [hbefore]
        show (if held then _ else _) ++ _ = _
        rw [if_neg hheld, List.nil_append]
      have hfine : loopInRange current = true ∨ p.sensorHolds = false := by
        cases hcur : loopInRange current with
        | true => exact .inl rfl
        | false =>
          refine .inr (Bool.eq_false_iff.2 fun hs => hheld ?_)
          cases p <;> first | (cases hs; done) | simp [held, hcur]
      have hstart := sampleStart_healthy good hv hstarted hfine
      have hunder : (if p = .inject then min (c.pRamp + rampStep c.limits.ramp (s.lineCfg l).interval) c.limits.pmax
          else c.pRamp) = under := by
        show _ = if state = .inject then ramp else c.pRamp
        rw [hstate]; rfl
      have hone : (decayReports s l { phase := p, ctx := x.counted r.dv, latch := latch } pe).length ≤ 1 := by
        unfold decayReports; split_ifs <;> simp
      rw [hqs, hstate]
      rcases or_assoc.2 ho with hend | ⟨hvol, hint, hrefusal, rfl⟩
      · exact hstart.ends_tested rfl rfl rfl rfl hunder rfl hend rfl hone
      · obtain ⟨hinj, hcur, hqual, htime⟩ := hrefusal
        obtain rfl : p = .inject := hinj
        obtain ⟨m, a, hi⟩ := injectSample s l r x latch (take := take) (ramp := ramp) (ceiling := ceiling)
          (timer := if qualifying then c.refusalTimer + (s.lineCfg l).interval else 0) (qualifying := qualifying) rfl rfl rfl rfl rfl
        have hend := hi.endTest_none rfl rfl (Nat.not_le.1 hvol) (Nat.not_le.1 hint)
        have hreach : a.limits.refTime * 1000 ≤ refusalTimerAfter a m := by
          rw [hi.limits, hi.timer_eq, if_pos hqual]; exact htime
        have hunbroken : a.breaksRefusal m = false := by
          refine Bool.eq_false_iff.2 fun hb => ?_
          obtain ⟨hrun, hzero⟩ := (breaksRefusal_iff rfl).1 hb
          rw [hi.timer_eq, if_pos hqual] at hzero
          rw [hi.runs] at hrun
          exact absurd hrun (Nat.not_lt.2 (Nat.le_of_eq (Nat.eq_zero_of_add_eq_zero hzero).1))
        have hclosed := hstart.ended_context (n := refusalTimerAfter a m) (take := take) (pe := pe) (cap := cap)
          (ceiling := ceiling) rfl rfl rfl rfl hunder rfl
        obtain rfl := hi.reads
        obtain rfl := hi.aims
        exact hstart.ends rfl (fun t ht => by
          have hlive := ht.live.trans rfl
          have htests := (testSample_passes (p := .inject) hlive hend).trans
            (injectTests_refusal (ctx_of_live hlive) ⟨hi.qualifies_iff.2 hqual, hreach⟩)
          rw [hunbroken] at htests
          exact ⟨_, htests, ht.modCtx rfl _⟩)
          rfl hone hclosed
  · obtain ⟨m, hm⟩ : ∃ m, s.sampledOf l r (x.counted r.dv) = m := ⟨_, rfl⟩
    have hpe : m.pe = pe := by rw [← hm]; rfl
    have hcap : m.cap = cap := by rw [← hm]; rfl
    have hend (q : Phase) : endTest (Live.aimed { phase := q, ctx := x.counted r.dv, latch := latch } m) m.pe = none :=
      endTest_aimed hm rfl rfl (Nat.not_le.1 hvol) (Nat.not_le.1 hint)
    have hclosed {q : Phase} {set : HoldSet} (hq : q ≠ .inject)
        (hset : (if q = .hold ∧ x.decayed pe = true then x.hold.drop .site else x.hold) = set) :
        (Live.aimed { phase := q, ctx := x.counted r.dv, latch := latch } m).closeWith m = { kept with hold := set } :=
      closeWith_aimed_still hq hm rfl rfl rfl rfl hset
    have hstart (hfine : loopInRange current = true ∨ p.sensorHolds = false) :
        SampleStart s l { phase := p, ctx := x, latch := latch } current { phase := p, ctx := x.counted r.dv, latch := latch }
          (countVolume l r.dv (afterReading l (!loopInRange current) s)) (drawOf x r.dv) [] m :=
      hm ▸ sampleStart_healthy good hv hstarted hfine
    refine ⟨fun hp hcur hle => ?_, fun hp hcur hlt => ?_, fun hp hcur => ?_, fun hp hdec hne => ?_, fun hp hdec hne => ?_,
      fun hp hdec hnone => ?_⟩
    · obtain rfl : p = .relief := hp
      exact (hstart (.inl hcur)).keeps nofun (hend .relief)
        (z := { phase := .inject, latch := latch
                ctx := { Live.aimed { phase := .relief, ctx := x.counted r.dv, latch := latch } m with
                  pRamp := pe, u := 0, first := true, starve := none } })
        (more := []) (qs := [])
        (fun t ht => by
          rw [decayReports_nil (w := { phase := .relief, ctx := x.counted r.dv, latch := latch }) nofun] at ht
          refine ⟨_, stateTests_relief_returns (by rw [hpe, hcap]; exact hle), ?_⟩
          rw [List.append_nil, ← hpe]
          exact ht.setPhase rfl .inject (fun c => { c with pRamp := m.pe, u := 0, first := true, starve := none }))
        rfl (congrArg (fun k : Context => { k with pRamp := pe, u := 0, first := true, starve := none })
          (hclosed (q := .relief) nofun (if_neg fun h => nomatch h.1))) rfl rfl (room.mono (by decide))
    · obtain rfl : p = .relief := hp
      exact (hstart (.inl hcur)).keeps nofun (hend .relief)
        (z := { phase := .relief, latch := latch, ctx := Live.aimed { phase := .relief, ctx := x.counted r.dv, latch := latch } m })
        (more := []) (qs := [])
        (fun t ht => by
          rw [decayReports_nil (w := { phase := .relief, ctx := x.counted r.dv, latch := latch }) nofun] at ht
          refine ⟨_, stateTests_relief_stays (by rw [hpe, hcap]; exact hlt), ?_⟩
          rw [List.append_nil]
          exact ht)
        rfl (hclosed nofun (if_neg fun h => nomatch h.1)) rfl rfl (room.mono (by decide))
    · obtain rfl : p = .starved := hp
      exact (hstart (.inl hcur)).keeps nofun (hend .starved)
        (z := { phase := .starved, latch := latch, ctx := Live.aimed { phase := .starved, ctx := x.counted r.dv, latch := latch } m })
        (more := []) (qs := [])
        (fun t ht => by
          rw [decayReports_nil (w := { phase := .starved, ctx := x.counted r.dv, latch := latch }) nofun] at ht
          refine ⟨_, rfl, ?_⟩
          rw [List.append_nil]
          exact ht)
        rfl (hclosed nofun (if_neg fun h => nomatch h.1)) rfl rfl (room.mono (by decide))
    · obtain rfl : p = .hold := hp
      have hundec : x.decayed pe = false := Bool.eq_false_iff.2 hdec
      exact (hstart (.inr rfl)).keeps nofun (hend .hold)
        (z := { phase := .hold, latch := latch, ctx := Live.aimed { phase := .hold, ctx := x.counted r.dv, latch := latch } m })
        (more := []) (qs := [])
        (fun t ht => by
          rw [decayReports_undecayed (w := { phase := .hold, ctx := x.counted r.dv, latch := latch }) (by rw [hpe]; exact hundec)] at ht
          refine ⟨_, stateTests_hold_stays (ctx_of_live (ht.live.trans rfl)) ?_ m, ?_⟩
          · rw [aimed_hold, hpe, if_neg (fun h => hdec h.2)]; exact hne
          · rw [List.append_nil]
            exact ht)
        rfl (hclosed nofun (if_neg fun h => hdec h.2)) rfl rfl (room.mono (by decide))
    · obtain rfl : p = .hold := hp
      exact (hstart (.inr rfl)).keeps nofun (hend .hold)
        (z := { phase := .hold, latch := latch, ctx := Live.aimed { phase := .hold, ctx := x.counted r.dv, latch := latch } m })
        (more := []) (qs := [lineChange s l .hold .hold (some .site) left.hold c.starve (some .decay)])
        (fun t ht => by
          rw [hpe, hbefore, if_pos ⟨rfl, hdec, hne⟩] at ht
          refine ⟨_, stateTests_hold_stays (ctx_of_live (ht.live.trans rfl)) ?_ m, ?_⟩
          · rw [aimed_hold, hpe, if_pos ⟨rfl, hdec⟩]; exact hne
          · rw [List.append_nil]
            exact ht)
        rfl (hclosed nofun (if_pos ⟨rfl, hdec⟩)) rfl rfl room
    · obtain rfl : p = .hold := hp
      obtain ⟨a, ha⟩ : ∃ a, Live.aimed { phase := .hold, ctx := x.counted r.dv, latch := latch } m = a := ⟨_, rfl⟩
      have hleft : a.closeWith m = left := ha ▸ hclosed nofun (if_pos ⟨rfl, hdec⟩)
      have hentry : ((s.entry a pe).1, (s.entry a pe).2.closeWith m) = e := by rw [← entry_closeWith, hleft]
      obtain ⟨ramp', d, f, starve, pending, hkeeps⟩ := entry_keeps s a pe
      have hlimits : (s.entry a pe).2.limits = a.limits := by rw [hkeeps]
      have htake : (s.entry a pe).2.take = a.take := by rw [hkeeps]
      have hnone' : a.hold.isEmpty = true := by rw [← hleft] at hnone; exact hnone
      have hkept := (hstart (.inr rfl)).keeps nofun (hend .hold)
        (z := { phase := (s.entry a pe).1, latch := latch, ctx := (s.entry a pe).2 }) (more := raised l a (s.entry a pe).2)
        (qs := [lineChange s l .hold (s.entry a pe).1 (some .site) (s.entry a pe).2.hold (s.entry a pe).2.starve (some .decay)])
        (fun t ht => by
          rw [ha, hpe, hbefore, if_neg (fun h => Bool.false_ne_true (h.2.2.symm.trans hnone))] at ht
          refine ⟨_, stateTests_hold_leaves (ctx_of_live (ht.live.trans rfl)) hnone' m, ?_⟩
          have hstep := ht.leaveHold rfl (pe := pe) rfl (some .site) .decay
          rw [hpe]
          exact hstep)
        rfl rfl ((congrArg Limits.gin hlimits).trans (by rw [← ha]; rfl)) (htake.trans (by rw [← ha]; rfl)) room
      rw [← hentry, ← hleft]
      exact hkept

end

end Sys2Proof.Machine
end

section
/-! PROOFS. A sample in DRAIN (chapter 6). -/

namespace Sys2Proof.Machine

section
variable {s u : State} {l : LineId} {x : Line} {hs : List Instr} {rs : List Report} {v w : Live} {current : Nat}

/-- The next free value is taken (log entry 4). -/
def State.freed (s : State) : State := { s with freeCount := s.freeCount + 1 }

theorem LineStep.freed (h : LineStep s u l x hs rs) : LineStep s.freed u.freed l x hs rs where
  state := by rw [State.freed, h.state]; rfl
  link := h.link
  queued := h.queued
  bounded := h.bounded
  grows := h.grows

theorem LineStep.holeClosed (h : LineStep s u l x hs rs) (hole : Nat) : u.holeClosed hole = s.holeClosed hole := by
  rw [h.state]; rfl

/-- The context of a line whose drain a sample has measured (R110). -/
def Context.drainRead (c : Context) (r : Reading) : Context :=
  { c with vol := c.vol + r.dv, lastPg := r.pg, lastQ := r.q }

/-- The end latch of a line whose drain has gone on for this long (R110). -/
def EndLatch.drainedFor (e : EndLatch) (ms : Nat) : EndLatch := { e with drainTime := ms }

/-- The state of a drain with this sample's values, before its end test (R110). -/
def drainRead (s : State) (l : LineId) (v : Live) (current : Nat) (e : EndLatch) : State :=
  let r := s.read l current v.ctx.lastPg
  (countVolume l r.dv (afterReading l (!loopInRange current) s)).freed.setLive l
    { v with ctx := v.ctx.drainRead r, latch := some e }

theorem drainRead_step (hv : s.live l = some v) (e : EndLatch) :
    let r := s.read l current v.ctx.lastPg
    LineStep s.freed (drainRead s l v current e) l
      (s.lineSampled l current { v with ctx := v.ctx.drainRead r, latch := some e }) (drawOf v.ctx r.dv) [] :=
  (counted_step hv).freed.setLive _

theorem drainSample_eq (hv : s.live l = some v) {e : EndLatch} {ms : Nat} {r : Reading} (hr : s.read l current v.ctx.lastPg = r)
    (hms : e.drainTime + (s.lineCfg l).interval = ms) :
    drainSample l r e s =
      (drainEnd r.pg ms).elim
        (traceSample l (Config.drainPint s.freeCount) (storeUpdate l r.dv (drainRead s l v current (e.drainedFor ms))))
        (fun timeout => finishDrain l r (e.drainedFor ms) timeout (Config.drainPint s.freeCount)
          (drainRead s l v current (e.drainedFor ms))) := by
  have hcounted := counted_step (current := current) hv
  have hlive := hcounted.live
  have hfree := congrArg State.freeCount hcounted.state
  have hcfg := hcounted.lineCfg l
  subst hr hms
  unfold drainSample drainRead
  dsimp only at hcounted hlive hfree hcfg ⊢
  rw [show (s.read l current v.ctx.lastPg).fault = !loopInRange current from rfl] at *
  generalize countVolume l (s.read l current v.ctx.lastPg).dv (afterReading l (!loopInRange current) s) = u at *
  have hlive' : State.live { u with freeCount := u.freeCount + 1 } l = some { v with ctx := v.ctx.counted (s.read l current v.ctx.lastPg).dv } :=
    hlive
  have hpint : Config.drainPint u.freeCount = Config.drainPint s.freeCount := congrArg _ hfree
  rw [hlive', hcfg, hpint]
  dsimp only
  cases drainEnd (s.read l current v.ctx.lastPg).pg (e.drainTime + (s.lineCfg l).interval) <;> rfl

theorem stageEndReport_eq {c : Context} {r : OutcomeRecord} {st : Stage} (h : s.stageRec c.hole c.stage = some st) :
    stageEndReport l c r s = s.report (.stageEnd
      { uptime := s.uptime, line := l, hole := c.hole, stage := c.stage, pass := c.pass, record := r, status := st.status
        passVol := st.passVol, cumVol := st.cumVol, holeClosed := s.holeClosed c.hole }) := by
  unfold stageEndReport; rw [h]

/-- A drain that goes on (R110, R9, R97). -/
theorem drainSample_runs (hv : s.live l = some v) {e : EndLatch} {ms : Nat} {r : Reading}
    (hr : s.read l current v.ctx.lastPg = r) (hms : e.drainTime + (s.lineCfg l).interval = ms)
    (hend : drainEnd r.pg ms = none) :
    let y : Live := { v with ctx := v.ctx.drainRead r, latch := some (e.drainedFor ms) }
    ∃ t pint, (t.supply = s.supply ∧ t.line l = s.lineSampled l current y) ∧
      LineStep (s.freed.stageSampled v.phase y.ctx r.dv) (drainSample l r e s) l
        { s.lineSampled l current y with traceCounter := s.nextTrace l } (drawOf v.ctx r.dv)
        (traceReports s t l v.phase y.ctx pint) := by
  intro y
  subst hr
  have hstored := (drainRead_step (current := current) hv (e.drainedFor ms)).storeUpdate rfl
    (s.read l current v.ctx.lastPg).dv
  refine ⟨_, Config.drainPint s.freeCount, ⟨by rw [hstored.state]; rfl, hstored.line⟩, ?_⟩
  rw [drainSample_eq hv rfl hms, hend]
  exact hstored.traceSample rfl rfl (Config.drainPint s.freeCount)

/-- A drain that ends (R111, R112, R115). -/
theorem drainSample_ends (hv : s.live l = some v) {e : EndLatch} {ms : Nat} {r : Reading} {st : Stage} {timeout : Bool}
    {record : OutcomeRecord}
    (hr : s.read l current v.ctx.lastPg = r) (hms : e.drainTime + (s.lineCfg l).interval = ms)
    (hend : drainEnd r.pg ms = some timeout) (hst : s.stageRec v.ctx.hole v.ctx.stage = some st)
    (hrecord : e.record (secondsSince s.uptime (v.ctx.startUptime.getD s.uptime)) timeout = record) :
    let y : Live := { phase := .ended, ctx := v.ctx.drainRead r, latch := some (e.drainedFor ms) }
    let base := s.freed.modStage v.ctx.hole v.ctx.stage (fun st => st.finish r.dv record)
    ∃ t pint, (t.supply = s.supply ∧ t.line l = s.lineSampled l current y) ∧
      LineStep base (drainSample l r e s) l
        { s.lineSampled l current y with traceCounter := s.nextTrace l } (drawOf v.ctx r.dv)
        (traceReports s t l .ended y.ctx pint ++ [.stageEnd
          { uptime := s.uptime, line := l, hole := v.ctx.hole, stage := v.ctx.stage, pass := v.ctx.pass, record := record
            status := record.outcome.status, passVol := st.passVol + r.dv, cumVol := st.cumVol + r.dv
            holeClosed := base.holeClosed v.ctx.hole }]) := by
  intro y base
  subst hr
  have hended := ((drainRead_step (current := current) hv (e.drainedFor ms)).modStage v.ctx.hole v.ctx.stage
    (fun st => st.finish (s.read l current v.ctx.lastPg).dv record)).setPhase rfl .ended id
  refine ⟨_, Config.drainPint s.freeCount, ⟨by rw [hended.state]; rfl, hended.line⟩, ?_⟩
  have htraced := hended.traceSample rfl rfl (Config.drainPint s.freeCount)
  have hfound : State.stageRec (traceSample l (Config.drainPint s.freeCount) (setPhase l .ended id
      ((drainRead s l v current (e.drainedFor ms)).modStage v.ctx.hole v.ctx.stage
        (fun st => st.finish (s.read l current v.ctx.lastPg).dv record)))) v.ctx.hole v.ctx.stage =
      some (st.finish (s.read l current v.ctx.lastPg).dv record) := by
    rw [htraced.state]
    refine (State.tfind_modStage s.freed v.ctx.hole v.ctx.stage _ _).trans ?_
    rw [if_pos rfl]
    exact congrArg (Option.map _) hst
  have hreport := htraced.report (.stageEnd
    { uptime := s.uptime, line := l, hole := v.ctx.hole, stage := v.ctx.stage, pass := v.ctx.pass, record := record
      status := record.outcome.status, passVol := st.passVol + (s.read l current v.ctx.lastPg).dv
      cumVol := st.cumVol + (s.read l current v.ctx.lastPg).dv, holeClosed := base.holeClosed v.ctx.hole })
  have hread := drainRead_step (current := current) hv (e.drainedFor ms)
  rw [drainSample_eq hv rfl hms, hend]
  dsimp only [Option.elim]
  unfold finishDrain
  rw [ctx_of_live hread.live]
  dsimp only
  rw [hread.uptime]
  have hrec : (e.drainedFor ms).record (secondsSince s.freed.uptime
      ((v.ctx.drainRead (s.read l current v.ctx.lastPg)).startUptime.getD s.freed.uptime)) timeout = record := hrecord
  rw [hrec]
  have hend := stageEndReport_eq (l := l) (r := record) (c := v.ctx.drainRead (s.read l current v.ctx.lastPg)) hfound
  have hnow : State.uptime _ = s.uptime := htraced.uptime
  have hclosed : State.holeClosed _ (v.ctx.drainRead (s.read l current v.ctx.lastPg)).hole = base.holeClosed v.ctx.hole :=
    htraced.holeClosed v.ctx.hole
  refine (congrArg (fun u => LineStep base u l _ _ _) (hend.trans ?_)).mpr hreport
  rw [hnow, hclosed]
  rfl

/-- A TRACE report reads nothing that the trace counter's advance writes (R97). -/
theorem traceReports_after {t t' : State} {y : Live} {n : Nat} (ht : t.supply = s.supply)
    (hline : t.line l = s.lineSampled l current y) (ht' : t'.supply = s.supply)
    (hline' : t'.line l = { s.lineSampled l current y with traceCounter := n }) (p : Phase) (c : Context) (pint : BitVec 32) :
    traceReports s t l p c pint = traceReports s t' l p c pint := by
  refine traceReports_congr (permit_congr (ht.trans ht'.symm) ?_ ?_) ?_ ?_ p c pint
  · unfold State.phase State.live; rw [hline, hline']
  all_goals rw [hline, hline']

theorem drainEnd_eq (pg ms : Nat) :
    drainEnd pg ms = if pg ≤ 50 ∨ 120000 ≤ ms then some (decide (50 < pg)) else none := by
  unfold drainEnd
  rw [show Config.drainPressure = 50 from rfl, show Config.drainTimeout = 120000 from rfl]
  by_cases h1 : pg ≤ 50
  · rw [if_pos h1, if_pos (.inl h1), decide_eq_false (Nat.not_lt.2 h1)]
  · by_cases h2 : 120000 ≤ ms
    · rw [if_neg h1, if_pos h2, if_pos (.inr h2), decide_eq_true (Nat.not_le.1 h1)]
    · rw [if_neg h1, if_neg h2, if_neg (fun h => h.elim h1 h2)]

theorem status_eq (o : PassOutcome) :
    o.status = if o = .refusal ∨ o = .intensity ∨ o = .volume then .complete else .opened := by
  cases o <;> rfl

theorem evSample_drain (hv : s.live l = some v) (hp : v.phase = .drain) {e : EndLatch} (he : v.latch = some e) (current : Nat) :
    evSample l current s = drainSample l (s.read l current v.ctx.lastPg) e s := by
  unfold evSample Live.endLatch
  rw [hv]
  dsimp only
  rw [hp, he]

/-- Settles O39: a drain that a sample ends, by pressure or time, and one that goes on. -/
theorem drainEndsByPressureOrTime : Obligations.DrainEndsByPressureOrTime := by
  rintro s l ⟨p, x, latch⟩ e st current good hv hp he hst room
  obtain rfl : p = .drain := hp
  obtain rfl : latch = some e := he
  intro c r drained ends record status phase c'
  have hev := evSample_drain hv rfl rfl current
  by_cases hends : ends
  · have hend : drainEnd r.pg drained = some (decide (50 < r.pg)) := (drainEnd_eq ..).trans (if_pos hends)
    have hphase : phase = .ended := if_pos hends
    obtain ⟨t₀, pint, ⟨hsupply, hline₀⟩, hstep⟩ := drainSample_ends (record := record) hv rfl rfl hend hst rfl
    rw [← hev] at hstep
    obtain ⟨k, hexec, hkept, hans, hrep⟩ := takeEvent_kept (f := evSample l current) (s := s) good hstep.link
    have hfind (n : Nat) : tfind (evSample l current s).store.stages n =
        if n = stageKey x.hole x.stage then (tfind s.store.stages n).map (fun st => st.finish r.dv record)
        else tfind s.store.stages n := by
      rw [hstep.state]; exact State.tfind_modStage ..
    have hlive : ({ evSample l current s with link := k } : State).live l = some _ := hstep.live
    refine ⟨_, st.finish r.dv record, pint, hexec, ?_, fun n hn => (hfind n).trans (if_neg hn), rfl, rfl, rfl, rfl, ?_,
      fun h => absurd hends h, fun _ => ⟨?_, ?_⟩⟩
    · exact ((hfind _).trans (if_pos rfl)).trans (congrArg (Option.map _) hst)
    · rw [hphase]
      show ({ evSample l current s with link := k } : State) = _
      rw [hstep.state]
      rfl
    · exact congrArg (fun y => { st with
        passVol := st.passVol + r.dv, cumVol := st.cumVol + r.dv, status := y, outcome := some record, image := none })
        (status_eq e.outcome)
    · have hq := hrep _ (hstep.queued (room.takes (by
        rw [List.length_append, List.length_singleton]
        exact Nat.succ_le_succ (traceReports_length ..))))
      rw [traceReports_after hsupply hline₀ (by rw [hstep.state]; rfl) hstep.line, status_eq, ← hstep.holeClosed] at hq
      rw [hphase]
      exact hq
  · have hend : drainEnd r.pg drained = none := (drainEnd_eq ..).trans (if_neg hends)
    have hphase : phase = .drain := if_neg hends
    obtain ⟨t₀, pint, ⟨hsupply, hline₀⟩, hstep⟩ := drainSample_runs hv rfl rfl hend
    rw [← hev] at hstep
    obtain ⟨k, hexec, hkept, hans, hrep⟩ := takeEvent_kept (f := evSample l current) (s := s) good hstep.link
    have hfind (n : Nat) : tfind (evSample l current s).store.stages n = _ :=
      (congrArg (fun u : State => tfind u.store.stages n) hstep.state).trans (stageSampled_tfind s.freed .drain c' r.dv n)
    refine ⟨_, st.update r.dv (s.imageOf .drain c'), pint, hexec,
      ((hfind _).trans (congrArg (Option.map _) hst)).trans (congrArg some (if_pos rfl)), fun n hn => ?_, rfl, rfl, rfl, rfl, ?_,
      fun _ => ⟨?_, hfind⟩, fun h => absurd h hends⟩
    · show tfind (evSample l current s).store.stages n = _
      rw [hfind, funext fun st : Stage => if_neg hn]
      exact Option.map_id'
    · rw [hphase]
      show ({ evSample l current s with link := k } : State) = _
      rw [hstep.state]
      rfl
    · have hq := hrep _ (hstep.queued (room.takes ((traceReports_length ..).trans (by decide))))
      rw [traceReports_after hsupply hline₀ (by rw [hstep.state]; rfl) hstep.line] at hq
      rw [hphase]
      exact hq

end

end Sys2Proof.Machine
end

section
/-! PROOFS. What is kept by every step: an event is taken whole, so what each event's effect keeps, every step keeps. -/

namespace Sys2Proof.Machine

/-- A property of the part that of the link reads its state and the bounds of its queues alone, and none of the waiting commands, and
that the clock, the supervision, every request and every event keep. -/
structure StepKept (P : State → Prop) : Prop where
  link : ∀ s k, k.state = s.link.state → (s.bounded → State.bounded { s with link := k }) → P s → P { s with link := k }
  pending : ∀ s p, P s → P { s with pending := p }
  tick : ∀ s, P s → P (tick s)
  supervise : ∀ s, P s → P (superviseFrame s)
  handle : ∀ i s, s.link.state = .ok → P s → P (handle i s).1
  sample : ∀ l current s, P s → P (evSample l current s)
  holdTimer : ∀ l s, P s → P (evHoldTimer l s)
  localKey : ∀ l on s, P s → P (evLocalKey l on s)
  pulse : ∀ l s, P s → P (evPulse l s)
  tankDraw : ∀ k volume s, P s → P (evTankDraw k volume s)
  mixRequest : ∀ k l m s, P s → P (evMixRequest k l m s)
  adopt : ∀ k l m s, P s → P (evAdopt k l m s)
  headExamination : ∀ k s, P s → P (evHeadExamination k s)
  tankNotice : ∀ l s, P s → P (evTankNotice l s)
  gaugeConversion : ∀ n s, P s → P (evGaugeConversion n s)
  t1Expiry : ∀ s, P s → P (evT1Expiry s)
  t2Expiry : ∀ s, P s → P (evT2Expiry s)
  loseSupply : ∀ s, P s → P (loseSupply s)
  powerOn : ∀ low lost opened keys s, P s → P (evPowerOn low lost opened keys s)
  battery : ∀ low s, P s → P (evBattery low s)
  loopOpen : ∀ s, P s → P (evLoopOpen s)
  loopClosed : ∀ s, P s → P (evLoopClosed s)

namespace StepKept

variable {P : State → Prop} {s t : State}

theorem startFrame_bounded (s : State) (hs : s.bounded) : (Sys2Proof.Machine.startFrame s).bounded := by
  obtain ⟨ha, hr⟩ := hs
  unfold Sys2Proof.Machine.startFrame
  split
  · exact ⟨ha, hr⟩
  · split
    · next hrest => rw [hrest] at ha; exact ⟨(Nat.le_succ _).trans ha, hr⟩
    · split
      · next hrest => rw [hrest] at hr; exact ⟨ha, (Nat.le_succ _).trans hr⟩
      · exact ⟨ha, hr⟩

theorem startFrame (h : StepKept P) (hs : P s) : P (startFrame s) := by
  have hbounded := startFrame_bounded s
  rw [startFrame_only_link] at hbounded ⊢
  exact h.link s _ (by rw [startFrame_eq]) hbounded hs

theorem takeEvent (h : StepKept P) {f : State → State} (hf : P s → P (f s)) (hstep : takeEvent f s = .next t) (hs : P s) :
    P t := by
  cases good : s.supply.failed with
  | true =>
    rw [takeEvent_failed f s good] at hstep
    cases hstep
    exact hs
  | false =>
    rw [takeEvent_good f s good] at hstep
    cases hstep
    exact h.startFrame (hf hs)

theorem restoreLink_state (acts : List (LineId × LineAction)) (s : State) : (restoreLink acts s).link.state = .ok := by
  unfold restoreLink linkReport
  rw [(report_frame _ _).link]
  rfl

theorem superviseFrame_state (s : State) : (superviseFrame s).link.state = .ok := by
  unfold superviseFrame
  split
  · next hok => exact hok
  · have hframe : LineFrame (restoreLink (s.linkHeld.map (fun l => (l, .linkReleased))) s) (s.linkHeld.foldl
        (fun s l => releaseCauses l (fun h => h.drop .link) (some .link) .linkRestore s) _) :=
      .foldl (fun _ _ => releaseCauses_frame ..) ..
    rw [hframe.link]
    exact restoreLink_state ..
  · exact restoreLink_state ..

theorem dispatch (h : StepKept P) {kind tag : Byte} {f : State → State × Reply}
    (hf : ∀ s, s.link.state = .ok → P s → P (f s).1) (hans : ∀ s, (f s).1.link.answers = s.link.answers)
    (hok : s.link.state = .ok) (hs : P s) : P (dispatch kind tag f s) := by
  unfold Sys2Proof.Machine.dispatch
  split
  · next hroom =>
    refine h.link (f s).1 { (f s).1.link with answers := _ } rfl (fun hb => ⟨?_, hb.2⟩) (hf s hok hs)
    rw [hans s]
    simpa using hroom
  · exact hs

theorem takeRequest (h : StepKept P) {kind tag : Byte} {f : State → State × Reply}
    (hf : ∀ s, s.link.state = .ok → P s → P (f s).1) (hans : ∀ s, (f s).1.link.answers = s.link.answers) (hs : P s) :
    P (takeRequest kind tag f s) :=
  h.dispatch hf hans (superviseFrame_state s) (h.supervise s hs)

theorem handle_answers (i : Instr) (s : State) : (Sys2Proof.Machine.handle i s).1.link.answers = s.link.answers := by
  obtain ⟨-, -, hlink, -⟩ := handle_link i s
  rw [hlink]

theorem handleFound_answers (found : Found) (s : State) :
    (Sys2Proof.Machine.handleFound found s).1.link.answers = s.link.answers := by
  cases found with
  | unknown => rfl
  | malformed => rfl
  | request i => exact handle_answers i s

theorem handleFound (h : StepKept P) (found : Found) (s : State) (hok : s.link.state = .ok) (hs : P s) :
    P (handleFound found s).1 := by
  cases found with
  | unknown => exact hs
  | malformed => exact hs
  | request i => exact h.handle i s hok hs

theorem takeFrame (h : StepKept P) (kind tag : Byte) (body : List Byte) (hs : P s) : P (takeFrame kind tag body s) := by
  unfold Sys2Proof.Machine.takeFrame
  split
  · exact h.takeRequest (h.handleFound _) (handleFound_answers _) hs
  · exact h.supervise s hs

theorem framing (h : StepKept P) (f : Framer) (hs : P s) : P (framing f s) :=
  h.link s { s.link with framer := f, gap := some Config.gapTime } rfl id hs

theorem hunting (h : StepKept P) (hs : P s) : P (hunting s) :=
  h.link s { s.link with framer := .hunt, gap := none } rfl id hs

theorem byte (h : StepKept P) (b : Byte) (stopError : Bool) (hs : P s) : P (evByte b stopError s) := by
  unfold evByte takeByte
  split
  · exact h.hunting hs
  · split
    · split
      · exact h.framing _ hs
      · exact hs
    · split
      · exact h.framing _ hs
      · exact h.hunting hs
    · unfold collect
      split
      · exact h.framing _ hs
      · exact h.framing _ hs
    · exact h.framing _ hs
    · unfold judgeFrame
      split
      · split
        · exact h.takeFrame _ _ _ (h.hunting hs)
        · exact h.hunting hs
      · exact h.hunting hs

theorem exec (h : StepKept P) (i : Instr) (hstep : exec i s = .next t) (hs : P s) : P t := by
  cases hk : requestKind i with
  | some k =>
    rw [exec_request hk] at hstep
    exact h.takeEvent (h.takeRequest (h.handle i) (handle_answers i)) hstep hs
  | none =>
    cases i
    case byteArrival b e => exact h.takeEvent (h.byte b e) hstep hs
    case gapTimerExpiry => exact h.takeEvent h.hunting hstep hs
    case frameSent => exact h.takeEvent (h.link s { s.link with tx := none } rfl id) hstep hs
    case t1Expiry => exact h.takeEvent (h.t1Expiry s) hstep hs
    case t2Expiry => exact h.takeEvent (h.t2Expiry s) hstep hs
    case sample l current => exact h.takeEvent (h.sample l current s) hstep hs
    case holdTimerExpiry l => exact h.takeEvent (h.holdTimer l s) hstep hs
    case localKeyChange l on => exact h.takeEvent (h.localKey l on s) hstep hs
    case flowmeterPulse l => exact h.takeEvent (h.pulse l s) hstep hs
    case tankDraw k volume => exact h.takeEvent (h.tankDraw k volume s) hstep hs
    case mixRequest k l m => exact h.takeEvent (h.mixRequest k l m s) hstep hs
    case adopt k l m => exact h.takeEvent (h.adopt k l m s) hstep hs
    case headExamination k => exact h.takeEvent (h.headExamination k s) hstep hs
    case tankNotice l => exact h.takeEvent (h.tankNotice l s) hstep hs
    case gaugeConversion n => exact h.takeEvent (h.gaugeConversion n s) hstep hs
    case supplyFailure => exact h.takeEvent (h.loseSupply s) hstep hs
    case powerOn low lost opened keys =>
      cases hstep
      exact h.startFrame (h.powerOn low lost opened keys s hs)
    case batteryChange low => exact h.takeEvent (h.battery low s) hstep hs
    case loopOpen => exact h.takeEvent (h.loopOpen s) hstep hs
    case loopClosed => exact h.takeEvent (h.loopClosed s) hstep hs
    all_goals cases hk

/-- What every event keeps, every step keeps. -/
theorem step (h : StepKept P) (hstep : step s = .next t) (hs : P s) : P t := by
  unfold Sys2Proof.Machine.step at hstep
  split at hstep
  · exact h.exec _ hstep (h.pending s _ hs)
  · split at hstep
    · exact h.exec _ hstep hs
    · cases hstep
      exact h.tick s hs

end StepKept

end Sys2Proof.Machine
end

section
/-! PROOFS. What an action on a line does to the invariants of the part: a relation between the states before and after that actions
one after another keep, and that gives each invariant. -/

namespace Sys2Proof.Machine

/-! ### One line -/

/-- The demand of a line lies in its range, and is positive only in INJECT (R57). -/
def Live.demandKept (v : Live) : Prop := -1000 ≤ v.ctx.u ∧ v.ctx.u ≤ 1000 ∧ (v.phase ≠ .inject → v.ctx.u ≤ 0)

/-- A line is in HOLD exactly where it holds a cause (R68). -/
def Live.holdMatches (v : Live) : Prop := v.phase = .hold ↔ v.ctx.hold.isEmpty = false

/-- The HEAVE cause of a set names the zone (R68). -/
def HoldSet.names (h : HoldSet) (z : ZoneId) : Prop := ∃ zs, h.heave = some zs ∧ hasZone zs z = true

/-- A line that a zone in TRIP with routing HOLD leaves as it is (R149). -/
def Live.guardedBy (v : Live) (z : ZoneId) : Prop :=
  v.phase.started = false ∨ v.phase = .localPanel ∨ (v.phase = .hold ∧ v.ctx.hold.names z)

/-- A line that held `v` holds `w`: it is bound as it was, its demand and its causes are kept, it is not started, where its zones
satisfy `B`, and the zones that satisfy `Z` guard it as they did. -/
structure Live.Moves (B : ZoneSet → Prop) (Z : ZoneId → Prop) (v w : Live) : Prop where
  hole : w.ctx.hole = v.ctx.hole
  stage : w.ctx.stage = v.ctx.stage
  tank : w.ctx.tank = v.ctx.tank
  zones : w.ctx.zones = v.ctx.zones
  demand : v.demandKept → w.demandKept
  hold : v.holdMatches → w.holdMatches
  starts : B v.ctx.zones → w.phase.started = true → v.phase.started = true
  guard : ∀ z, Z z → hasZone v.ctx.zones z = true → v.guardedBy z → w.guardedBy z

section
variable {B : ZoneSet → Prop} {Z : ZoneId → Prop} {v w x : Live}

theorem Live.Moves.refl (v : Live) : v.Moves B Z v := ⟨rfl, rfl, rfl, rfl, id, id, fun _ h => h, fun _ _ _ h => h⟩

theorem Live.Moves.trans (h : v.Moves B Z w) (h' : w.Moves B Z x) : v.Moves B Z x where
  hole := h'.hole.trans h.hole
  stage := h'.stage.trans h.stage
  tank := h'.tank.trans h.tank
  zones := h'.zones.trans h.zones
  demand := h'.demand ∘ h.demand
  hold := h'.hold ∘ h.hold
  starts hb hx := h.starts hb (h'.starts (by rw [h.zones]; exact hb) hx)
  guard z hz hv hg := h'.guard z hz (by rw [h.zones]; exact hv) (h.guard z hz hv hg)

theorem Live.Moves.mono {B' : ZoneSet → Prop} {Z' : ZoneId → Prop} (h : v.Moves B Z w) (hB : ∀ zs, B' zs → B zs)
    (hZ : ∀ z, Z' z → Z z) : v.Moves B' Z' w :=
  ⟨h.hole, h.stage, h.tank, h.zones, h.demand, h.hold, fun hb => h.starts (hB _ hb), fun z hz => h.guard z (hZ z hz)⟩

theorem Live.demandKept_zero (h : v.ctx.u = 0) : v.demandKept := by
  unfold demandKept; rw [h]; exact ⟨by decide, by decide, fun _ => le_refl _⟩

/-- A change of what no invariant reads. -/
theorem Live.Moves.of_eq (hphase : w.phase = v.phase := by rfl) (hu : w.ctx.u = v.ctx.u := by rfl)
    (hhold : w.ctx.hold = v.ctx.hold := by rfl) (hhole : w.ctx.hole = v.ctx.hole := by rfl)
    (hstage : w.ctx.stage = v.ctx.stage := by rfl) (htank : w.ctx.tank = v.ctx.tank := by rfl)
    (hzones : w.ctx.zones = v.ctx.zones := by rfl) : v.Moves B Z w where
  hole := hhole
  stage := hstage
  tank := htank
  zones := hzones
  demand h := by unfold demandKept; rw [hphase, hu]; exact h
  hold h := by unfold holdMatches; rw [hphase, hhold]; exact h
  starts _ h := by rw [← hphase]; exact h
  guard z _ _ h := by unfold guardedBy; rw [hphase, hhold]; exact h

/-- A line that leaves the started states: it holds no cause, and its demand is not positive (R77). -/
theorem Live.Moves.stops (hphase : w.phase.started = false) (hu : w.ctx.u = -1000) (hhold : w.ctx.hold = HoldSet.none)
    (hhole : w.ctx.hole = v.ctx.hole := by rfl)
    (hstage : w.ctx.stage = v.ctx.stage := by rfl) (htank : w.ctx.tank = v.ctx.tank := by rfl)
    (hzones : w.ctx.zones = v.ctx.zones := by rfl) : v.Moves B Z w where
  hole := hhole
  stage := hstage
  tank := htank
  zones := hzones
  demand _ := by unfold demandKept; rw [hu]; exact ⟨by decide, by decide, fun _ => by decide⟩
  hold _ := by
    unfold holdMatches; rw [hhold]
    exact ⟨fun h => absurd (h ▸ hphase) nofun, nofun⟩
  starts _ h := by rw [hphase] at h; cases h
  guard z _ _ _ := .inl hphase

/-- A line that enters a started state without a cause, with demand 0 or less (R65, R66, R79, R90). -/
theorem Live.Moves.runs (hv : v.phase.started = true) (hphase : w.phase ≠ .hold) (hu : w.ctx.u ≤ 0) (hu' : -1000 ≤ w.ctx.u)
    (hhold : w.ctx.hold.isEmpty = true)
    (hg : ∀ z, Z z → hasZone v.ctx.zones z = true → v.guardedBy z → w.guardedBy z)
    (hhole : w.ctx.hole = v.ctx.hole := by rfl)
    (hstage : w.ctx.stage = v.ctx.stage := by rfl) (htank : w.ctx.tank = v.ctx.tank := by rfl)
    (hzones : w.ctx.zones = v.ctx.zones := by rfl) : v.Moves B Z w where
  hole := hhole
  stage := hstage
  tank := htank
  zones := hzones
  demand _ := ⟨hu', hu.trans (by decide), fun _ => hu⟩
  hold _ := ⟨fun h => absurd h hphase, fun h => absurd (hhold.symm.trans h) nofun⟩
  starts _ _ := hv
  guard := hg

/-- A line in HOLD with a cause and demand 0 or less, which the zones guard as they did (R68, R69). -/
theorem Live.Moves.holds (hv : v.phase.started = true) (hphase : w.phase = .hold) (hu : v.demandKept → w.demandKept)
    (hhold : w.ctx.hold.isEmpty = false) (hg : ∀ z, Z z → hasZone v.ctx.zones z = true → v.guardedBy z → w.guardedBy z)
    (hhole : w.ctx.hole = v.ctx.hole := by rfl)
    (hstage : w.ctx.stage = v.ctx.stage := by rfl) (htank : w.ctx.tank = v.ctx.tank := by rfl)
    (hzones : w.ctx.zones = v.ctx.zones := by rfl) : v.Moves B Z w where
  hole := hhole
  stage := hstage
  tank := htank
  zones := hzones
  demand := hu
  hold _ := ⟨fun _ => hhold, fun _ => hphase⟩
  starts _ _ := hv
  guard := hg

/-- A line that a zone does not guard: it runs, and does not hold the zone. -/
theorem Live.guardedBy_runs (hv : v.phase.started = true) (hl : v.phase ≠ .localPanel) (hh : v.phase ≠ .hold) (z : ZoneId) :
    ¬v.guardedBy z := by
  rintro (h | h | ⟨h, -⟩)
  · rw [h] at hv; cases hv
  · exact hl h
  · exact hh h

/-- A line that runs goes on under a demand of 0 or less, with the causes it holds (R66, R67). -/
theorem Live.Moves.switches (hv : v.phase = .inject ∨ v.phase = .relief ∨ v.phase = .starved) (hphase : w.phase ≠ .hold)
    (hu : w.ctx.u ≤ 0) (hu' : -1000 ≤ w.ctx.u) (hhold : w.ctx.hold = v.ctx.hold) (hhole : w.ctx.hole = v.ctx.hole := by rfl)
    (hstage : w.ctx.stage = v.ctx.stage := by rfl) (htank : w.ctx.tank = v.ctx.tank := by rfl)
    (hzones : w.ctx.zones = v.ctx.zones := by rfl) : v.Moves B Z w := by
  have hruns : v.phase.started = true ∧ v.phase ≠ .localPanel ∧ v.phase ≠ .hold := by
    rcases hv with hv | hv | hv <;> rw [hv] <;> exact ⟨rfl, nofun, nofun⟩
  obtain ⟨hstarted, hl, hh⟩ := hruns
  exact
    { hole := hhole
      stage := hstage
      tank := htank
      zones := hzones
      demand := fun _ => ⟨hu', hu.trans (by decide), fun _ => hu⟩
      hold := fun h => by
        refine ⟨fun hp => absurd hp hphase, fun hne => ?_⟩
        rw [hhold] at hne
        exact absurd (h.2 hne) hh
      starts := fun _ _ => hstarted
      guard := fun z _ _ hg => absurd hg (Live.guardedBy_runs hstarted hl hh z) }

end

/-! ### The part -/

/-- What the accounts of a tank read (R119, R122). -/
def Tank.account (k : Tank) : Option Nat × Nat × Nat × Nat × Nat := (k.mix, k.delivered, k.drawn, k.waste, k.contents)

/-- A line has its place in a tank's queue: it is bound to the tank and not in DRAIN or ENDED (R128). -/
def State.hasPlace (s : State) (k : TankId) (l : LineId) : Prop :=
  ∃ v, s.live l = some v ∧ v.ctx.tank = k ∧ v.phase ≠ .drain ∧ v.phase ≠ .ended

def State.queuesOwned (s : State) : Prop := ∀ k : TankId, ∀ q ∈ (s.tank k).queue, s.hasPlace k q.1

def State.queuesOnce (s : State) : Prop := ∀ k : TankId, ((s.tank k).queue.map (fun q => q.1)).Nodup

/-- A planned stage stays planned, with the history it has (R7). -/
def StagesKept (p q : Table Stage) : Prop :=
  ∀ n st, tfind p n = some st → ∃ st', tfind q n = some st' ∧ (st.status ≠ .planned → st'.status ≠ .planned)

/-- From `s` to `t` the lines have acted: each line moved, or was put to IDLE; of the tanks only the queues have changed, and of the
store only stage records. -/
structure Acted (B : ZoneSet → Prop) (Z : ZoneId → Prop) (s t : State) : Prop where
  lines : ∀ l w, t.live l = some w → ∃ v, s.live l = some v ∧ v.Moves B Z w
  supply : t.supply = s.supply
  linkState : t.link.state = s.link.state
  store : t.store = { s.store with stages := t.store.stages }
  keys : t.store.stages.map (·.1) = s.store.stages.map (·.1)
  stages : StagesKept s.store.stages t.store.stages
  accounts : ∀ k, (t.tank k).account = (s.tank k).account
  owned : s.queuesOwned → t.queuesOwned
  once : s.queuesOnce → t.queuesOnce
  bounded : s.bounded → t.bounded

section
variable {B : ZoneSet → Prop} {Z : ZoneId → Prop} {s t u : State} {l : LineId} {x : Line} {hs : List Instr} {rs : List Report}
  {v w : Live}

theorem StagesKept.refl (p : Table Stage) : StagesKept p p := fun _ st h => ⟨st, h, id⟩

theorem StagesKept.trans {p q r : Table Stage} (h : StagesKept p q) (h' : StagesKept q r) : StagesKept p r := fun n st hst => by
  obtain ⟨st', hst', hs⟩ := h n st hst
  obtain ⟨st'', hst'', hs'⟩ := h' n st' hst'
  exact ⟨st'', hst'', hs' ∘ hs⟩

theorem StagesKept.tmod (p : Table Stage) (n : Nat) (f : Stage → Stage)
    (hf : ∀ st, st.status ≠ .planned → (f st).status ≠ .planned) : StagesKept p (tmod p n f) := fun m st hst => by
  rw [tfind_tmod, hst]
  split
  · exact ⟨f st, rfl, hf st⟩
  · exact ⟨st, rfl, id⟩

namespace Acted

theorem refl (s : State) : Acted B Z s s where
  lines _ w hw := ⟨w, hw, .refl w⟩
  supply := rfl
  linkState := rfl
  store := rfl
  keys := rfl
  stages := .refl _
  accounts _ := rfl
  owned := id
  once := id
  bounded := id

theorem trans (h : Acted B Z s t) (h' : Acted B Z t u) : Acted B Z s u where
  lines l w hw := by
    obtain ⟨y, hy, hyw⟩ := h'.lines l w hw
    obtain ⟨v, hv, hvy⟩ := h.lines l y hy
    exact ⟨v, hv, hvy.trans hyw⟩
  supply := h'.supply.trans h.supply
  linkState := h'.linkState.trans h.linkState
  store := by rw [h'.store, h.store]
  keys := h'.keys.trans h.keys
  stages := h.stages.trans h'.stages
  accounts k := (h'.accounts k).trans (h.accounts k)
  owned := h'.owned ∘ h.owned
  once := h'.once ∘ h.once
  bounded := h'.bounded ∘ h.bounded

theorem foldl {α : Type} {f : State → α → State} (h : ∀ s a, Acted B Z s (f s a)) (as : List α) (s : State) :
    Acted B Z s (as.foldl f s) := by
  induction as generalizing s with
  | nil => exact .refl s
  | cons a rest ih => exact (h s a).trans (ih (f s a))

theorem mono {B' : ZoneSet → Prop} {Z' : ZoneId → Prop} (h : Acted B Z s t) (hB : ∀ zs, B' zs → B zs) (hZ : ∀ z, Z' z → Z z) :
    Acted B' Z' s t where
  lines l w hw := by
    obtain ⟨v, hv, hvw⟩ := h.lines l w hw
    exact ⟨v, hv, hvw.mono hB hZ⟩
  supply := h.supply
  linkState := h.linkState
  store := h.store
  keys := h.keys
  stages := h.stages
  accounts := h.accounts
  owned := h.owned
  once := h.once
  bounded := h.bounded

/-- A change of what no invariant of the lines, the tanks and the store reads. -/
theorem of_eq (hl : ∀ l, t.live l = s.live l := by intro; rfl) (hsupply : t.supply = s.supply := by rfl)
    (hstate : t.link.state = s.link.state := by rfl) (hstore : t.store = s.store := by rfl)
    (htanks : t.tanks = s.tanks := by rfl) (hbounded : s.bounded → t.bounded := by exact id) : Acted B Z s t where
  lines l w hw := ⟨w, (hl l).symm.trans hw, .refl w⟩
  supply := hsupply
  linkState := hstate
  store := by rw [hstore]
  keys := by rw [hstore]
  stages := by rw [hstore]; exact .refl _
  accounts k := by unfold State.tank; rw [htanks]
  owned h k q hq := by
    unfold State.tank at hq
    rw [htanks] at hq
    obtain ⟨v, hv, hrest⟩ := h k q hq
    exact ⟨v, (hl q.1).trans hv, hrest⟩
  once h k := by
    have hk := h k
    unfold State.tank at hk ⊢
    rw [htanks]
    exact hk
  bounded := hbounded

theorem report (s : State) (r : Report) : Acted B Z s (s.report r) := by
  refine .of_eq (fun _ => ?_) ?_ ?_ ?_ ?_ fun h => h.report r <;> rw [State.report_eq]
  rfl

/-- A write of stage records that keeps the history of the stage (R7). -/
theorem modStage (s : State) (hole stage : Nat) (f : Stage → Stage)
    (hf : ∀ st, st.status ≠ .planned → (f st).status ≠ .planned) : Acted B Z s (s.modStage hole stage f) where
  lines _ w hw := ⟨w, hw, .refl w⟩
  supply := rfl
  linkState := rfl
  store := rfl
  keys := by
    show (tmod s.store.stages _ f).map _ = _
    rw [tmod, List.map_map]
    exact List.map_congr_left fun p _ => by dsimp only [Function.comp]; split <;> rfl
  stages := .tmod _ _ f hf
  accounts _ := rfl
  owned := id
  once := id
  bounded := id

/-- The entries of a line leave its tank's queue (R129). -/
theorem without (s : State) (k : TankId) (l : LineId) : Acted B Z s (s.setTank k ((s.tank k).without l)) where
  lines _ w hw := ⟨w, hw, .refl w⟩
  supply := rfl
  linkState := rfl
  store := rfl
  keys := rfl
  stages := .refl _
  accounts j := by
    by_cases hj : j = k
    · subst hj; rw [State.tank_setTank_self]; rfl
    · rw [State.tank_setTank_ne _ _ (Ne.symm hj)]
  owned h j q hq := by
    by_cases hj : j = k
    · subst hj
      rw [State.tank_setTank_self] at hq
      exact h j q (List.mem_filter.1 hq).1
    · rw [State.tank_setTank_ne _ _ (Ne.symm hj)] at hq
      exact h j q hq
  once h j := by
    by_cases hj : j = k
    · subst hj
      rw [State.tank_setTank_self]
      exact (h j).sublist (List.filter_sublist.map _)
    · rw [State.tank_setTank_ne _ _ (Ne.symm hj)]
      exact h j
  bounded := id

end Acted

/-- A step of one line: how it moves, and that it keeps its place where its tank's queue holds it. -/
theorem LineStep.acted (h : LineStep s u l x hs rs) (hx : ∀ w, x.live = some w → ∃ v, s.live l = some v ∧ v.Moves B Z w)
    (hplace : ∀ v, s.live l = some v → v.phase ≠ .drain → v.phase ≠ .ended → (∃ q ∈ (s.tank v.ctx.tank).queue, q.1 = l) →
      ∃ w, x.live = some w ∧ w.ctx.tank = v.ctx.tank ∧ w.phase ≠ .drain ∧ w.phase ≠ .ended) : Acted B Z s u where
  lines j w hw := by
    by_cases hj : j = l
    · subst hj; exact hx w (h.live.symm.trans hw)
    · have hother : u.live j = s.live j := congrArg Line.live (by rw [h.state]; exact getElem_set_other s.lines x hj)
      exact ⟨w, hother.symm.trans hw, .refl w⟩
  supply := by rw [h.state]
  linkState := by rw [h.link]
  store := by rw [h.state]
  keys := by rw [h.state]
  stages := by rw [h.state]; exact .refl _
  accounts k := by rw [h.state]; rfl
  owned hs k q hq := by
    have hq' : q ∈ (s.tank k).queue := by rw [h.state] at hq; exact hq
    obtain ⟨v, hv, htank, hd, he⟩ := hs k q hq'
    by_cases hj : q.1 = l
    · subst hj
      subst htank
      obtain ⟨w, hw, hrest⟩ := hplace v hv hd he ⟨q, hq', rfl⟩
      exact ⟨w, h.live.trans hw, hrest⟩
    · have hother : u.live q.1 = s.live q.1 := congrArg Line.live (by rw [h.state]; exact getElem_set_other s.lines x hj)
      exact ⟨v, hother.trans hv, htank, hd, he⟩
  once hs k := by
    have hk : u.tank k = s.tank k := by rw [h.state]; rfl
    rw [hk]; exact hs k
  bounded := h.bounded

/-- A step of a line that stays out of DRAIN and ENDED. -/
theorem LineStep.acted_live (h : LineStep s u l x hs rs) (hv : s.live l = some v) (hx : x.live = some w) (hm : v.Moves B Z w)
    (hp : w.phase = .drain ∨ w.phase = .ended → v.phase = .drain ∨ v.phase = .ended) : Acted B Z s u :=
  h.acted (fun w' hw' => ⟨v, hv, by obtain rfl := Option.some.inj (hx.symm.trans hw'); exact hm⟩)
    (fun v' hv' hd he _ => by
      obtain rfl := Option.some.inj (hv.symm.trans hv')
      exact ⟨w, hx, hm.tank, fun h => (hp (.inl h)).elim hd he, fun h => (hp (.inr h)).elim hd he⟩)

/-! ### The operations of a line -/

theorem HoldSet.names_nonempty {h : HoldSet} {z : ZoneId} (hn : h.names z) : h.isEmpty = false := by
  obtain ⟨zs, hzs, -⟩ := hn
  unfold HoldSet.isEmpty
  rw [hzs]
  simp

/-- What a line enters on leaving BOUND, HOLD or STARVED (R65 to R67, R70). -/
theorem entry_enters (s : State) (c : Context) (pe : Nat) :
    ((s.entry c pe).1 = .inject ∨ (s.entry c pe).1 = .starved) ∧ (s.entry c pe).2.u = 0 ∧ (s.entry c pe).2.hold = c.hold ∧
      (s.entry c pe).2.hole = c.hole ∧ (s.entry c pe).2.stage = c.stage ∧ (s.entry c pe).2.tank = c.tank ∧
      (s.entry c pe).2.zones = c.zones := by
  unfold State.entry
  split
  · exact ⟨.inr rfl, rfl, rfl, rfl, rfl, rfl, rfl⟩
  · split_ifs
    · exact ⟨.inr rfl, rfl, rfl, rfl, rfl, rfl, rfl⟩
    · exact ⟨.inl rfl, rfl, rfl, rfl, rfl, rfl, rfl⟩
    · exact ⟨.inr rfl, rfl, rfl, rfl, rfl, rfl, rfl⟩

/-- The entry of a started line that holds no cause. -/
theorem Moves_entry {c : Context} {pe : Nat} {e : Phase × Context} {latch : Option EndLatch} (hv : v.phase.started = true)
    (hentry : s.entry c pe = e) (hempty : c.hold.isEmpty = true) (hhole : c.hole = v.ctx.hole) (hstage : c.stage = v.ctx.stage)
    (htank : c.tank = v.ctx.tank) (hzones : c.zones = v.ctx.zones)
    (hg : ∀ z, Z z → hasZone v.ctx.zones z = true → ¬v.guardedBy z) :
    v.Moves B Z { phase := e.1, ctx := e.2, latch := latch } := by
  obtain ⟨hp, hu, hhold, h1, h2, h3, h4⟩ := entry_enters s c pe
  rw [hentry] at hp hu hhold h1 h2 h3 h4
  refine .runs hv ?_ (le_of_eq hu) (by rw [hu]; decide) (by rw [hhold]; exact hempty) (fun z hz hzs h => absurd h (hg z hz hzs))
    (h1.trans hhole) (h2.trans hstage) (h3.trans htank) (h4.trans hzones)
  rcases hp with hp | hp <;> rw [hp] <;> nofun

theorem LineStep.acted_without {k : TankId} (h : LineStep (s.setTank k ((s.tank k).without l)) u l x hs rs)
    (hv : s.live l = some v) (hk : k = v.ctx.tank) (hx : ∀ w, x.live = some w → v.Moves B Z w) : Acted B Z s u := by
  subst hk
  refine (Acted.without s v.ctx.tank l).trans (h.acted (fun w hw => ⟨v, hv, hx w hw⟩) ?_)
  rintro v' hv' - - ⟨q, hq, rfl⟩
  obtain rfl := Option.some.inj (hv.symm.trans hv')
  rw [State.tank_setTank_self] at hq
  exact absurd (List.mem_filter.1 hq).2 (by simp)

/-- The drain of a started line (R77). -/
theorem drainLine_acted (l : LineId) (o : PassOutcome) (s : State) : Acted B Z s (drainLine l o s) := by
  cases hv : s.live l with
  | none => unfold drainLine; rw [hv]; exact .refl s
  | some v =>
    by_cases hp : v.phase.started = true
    · refine (drainLine_step hv hp o).acted_without hv rfl fun w hw => ?_
      obtain rfl := Option.some.inj hw
      exact .stops rfl rfl rfl
    · unfold drainLine
      rw [hv]
      dsimp only
      rw [if_neg hp]
      exact .refl s

theorem modCtx_acted (l : LineId) (f : Context → Context) (s : State)
    (hf : ∀ v, s.live l = some v → v.Moves B Z { v with ctx := f v.ctx }) : Acted B Z s (s.modCtx l f) := by
  cases hv : s.live l with
  | none =>
    have hsame : s.modCtx l f = s := by simp [State.modCtx, hv]
    rw [hsame]
    exact .refl s
  | some v =>
    exact ((LineStep.refl s l).modCtx hv f).acted_live hv rfl (hf v hv) id

/-- A hold cause from outside (R68, R69). -/
theorem imposeCause_acted (l : LineId) (cause : Cause) (add : HoldSet → HoldSet) (s : State)
    (hadd : ∀ h, (add h).isEmpty = false) (hnames : ∀ h z, h.names z → (add h).names z) :
    Acted B Z s (imposeCause l cause add s) := by
  cases hv : s.live l with
  | none => unfold imposeCause; rw [hv]; exact .refl s
  | some v =>
    have henter (hp : v.phase.started = true) (h1 : v.phase ≠ .localPanel) (h2 : v.phase ≠ .hold) :
        Acted B Z s (enterHold l v.phase cause add s) :=
      ((LineStep.refl s l).enterHold hv v.phase cause add).acted_live hv rfl
        (.holds hp rfl (fun _ => Live.demandKept_zero rfl) (hadd _)
          (fun z _ _ hg => absurd hg (Live.guardedBy_runs hp h1 h2 z))) nofun
    have hmove (hp : v.phase = .hold) : v.Moves B Z { v with ctx := { v.ctx with hold := add v.ctx.hold } } :=
      .holds (by rw [hp]; rfl) hp id (hadd _) (fun z _ _ hg => by
        rcases hg with hg | hg | ⟨-, hg⟩
        · exact .inl hg
        · exact .inr (.inl hg)
        · exact .inr (.inr ⟨hp, hnames _ z hg⟩))
    rw [imposeCause_eq hv]
    obtain ⟨p, c, latch⟩ := v
    cases p
    case inject | relief | starved => exact henter rfl nofun nofun
    case hold =>
      dsimp only
      split
      · exact ((LineStep.refl s l).setLive _).acted_live hv rfl (hmove rfl) id
      · exact ((LineStep.refl s l).addCause hv cause add).acted_live hv rfl (hmove rfl) id
    all_goals exact .refl s

/-- The release of causes of a line in HOLD (R70). -/
theorem releaseCauses_acted (hv : s.live l = some v) (hp : v.phase = .hold) (drop : HoldSet → HoldSet) (cause : Option Cause)
    (cond : Release)
    (hdrop : ∀ z, Z z → hasZone v.ctx.zones z = true → v.ctx.hold.names z → (drop v.ctx.hold).names z) :
    Acted B Z s (releaseCauses l drop cause cond s) := by
  have hstarted : v.phase.started = true := by rw [hp]; rfl
  have hguarded (z : ZoneId) (hz : Z z) (hzs : hasZone v.ctx.zones z = true) (hg : v.guardedBy z) :
      (drop v.ctx.hold).names z := by
    rcases hg with hg | hg | ⟨-, hg⟩
    · rw [hg] at hstarted; cases hstarted
    · rw [hp] at hg; cases hg
    · exact hdrop z hz hzs hg
  cases he : (drop v.ctx.hold).isEmpty with
  | true =>
    refine ((LineStep.refl s l).release_leaves hv drop cause cond rfl he rfl).acted_live hv rfl
      (Moves_entry hstarted rfl he rfl rfl rfl rfl fun z hz hzs hg => ?_) (fun h => ?_)
    · exact absurd ((HoldSet.names_nonempty (hguarded z hz hzs hg)).symm.trans he) nofun
    · obtain ⟨henter, -⟩ := entry_enters s { v.ctx with hold := drop v.ctx.hold } v.ctx.lastPe
      dsimp only at h
      rcases henter with henter | henter <;> rw [henter] at h <;> exact h.elim nofun nofun
  | false =>
    exact ((LineStep.refl s l).release_stays hv drop cause cond rfl he).acted_live hv rfl
      (.holds hstarted hp id he fun z hz hzs hg => .inr (.inr ⟨hp, hguarded z hz hzs hg⟩)) id

end

end Sys2Proof.Machine
end

section
/-! PROOFS. The events of the lines, of the link and of the supply as actions on the lines. -/

namespace Sys2Proof.Machine

section
variable {B : ZoneSet → Prop} {Z : ZoneId → Prop} {s t u : State} {l : LineId} {x : Line} {hs : List Instr} {rs : List Report}
  {v w : Live}

theorem LineStep.other (h : LineStep s u l x hs rs) {k : LineId} (hk : k ≠ l) : u.live k = s.live k := by
  have hline : u.line k = s.line k := by rw [h.state]; exact getElem_set_other s.lines x hk
  exact congrArg Line.live hline

/-- Actions on lines, each on a line that meets `C` as long as nothing acts on it. -/
theorem Acted.foldl_lines {C : Option Live → Prop} {f : State → LineId → State}
    (h : ∀ s l, C (s.live l) → Acted B Z s (f s l) ∧ ∀ k, k ≠ l → (f s l).live k = s.live k)
    (ls : List LineId) (hn : ls.Nodup) (s : State) (hs : ∀ l ∈ ls, C (s.live l)) : Acted B Z s (ls.foldl f s) := by
  induction ls generalizing s with
  | nil => exact .refl s
  | cons l rest ih =>
    obtain ⟨hl, hrest⟩ := List.nodup_cons.1 hn
    obtain ⟨hact, hother⟩ := h s l (hs l (List.mem_cons_self ..))
    refine hact.trans (ih hrest (f s l) fun k hk => ?_)
    rw [hother k fun e => hl (e ▸ hk)]
    exact hs k (List.mem_cons_of_mem _ hk)

/-- The release of a cause of every line that held it (R70). -/
theorem releaseAll_acted (cause : Cause) (cond : Release) (hheave : cause ≠ .heave) (ls : List LineId) (hn : ls.Nodup) (s : State)
    (hs : ∀ l ∈ ls, ∃ v, s.live l = some v ∧ v.phase = .hold) :
    Acted B Z s (ls.foldl (fun s l => releaseCauses l (fun h => h.drop cause) (some cause) cond s) s) := by
  refine Acted.foldl_lines (C := fun o => ∃ v, o = some v ∧ v.phase = .hold) (fun s l h => ?_) ls hn s hs
  obtain ⟨v, hv, hp⟩ := h
  refine ⟨releaseCauses_acted hv hp _ _ _ fun z _ _ hg => ?_, fun k hk => ?_⟩
  · obtain ⟨zs, hzs, hz⟩ := hg
    exact ⟨zs, by cases cause <;> first | exact hzs | exact absurd rfl hheave, hz⟩
  · cases he : (HoldSet.drop v.ctx.hold cause).isEmpty with
    | true => exact ((LineStep.refl s l).release_leaves hv _ (some cause) cond rfl he rfl).other hk
    | false => exact ((LineStep.refl s l).release_stays hv _ (some cause) cond rfl he).other hk

theorem holdsCause_hold {cause : Cause} (h : s.holdsCause l cause = true) : ∃ v, s.live l = some v ∧ v.phase = .hold := by
  unfold State.holdsCause at h
  cases hv : s.live l with
  | none => rw [hv] at h; cases h
  | some v =>
    rw [hv] at h
    exact ⟨v, rfl, by simpa using (Bool.and_eq_true_iff.1 h).1⟩

/-- The release of GAUGE, where the fault of a gauge has cleared (R151). -/
theorem releaseGauge_acted (s : State) : Acted B Z s (releaseGauge s.gaugeClear s) := by
  refine releaseAll_acted .gauge .gaugeClear nofun _ (allLines_nodup.filter _) s fun l hl => ?_
  exact holdsCause_hold (Bool.and_eq_true_iff.1 (List.mem_filter.1 hl).2).1

/-- A valid frame restores the link, and its lines act on that (R169, R172). -/
theorem superviseFrame_acted (s : State) :
    ∃ k : Link, k.state = .ok ∧ (s.bounded → State.bounded { s with link := k }) ∧
      Acted B Z { s with link := k } (superviseFrame s) := by
  have hrestore (acts : List (LineId × LineAction)) (hs : s.bounded) :
      State.bounded { s with link := (restoreLink acts s).link } := by
    have hreport : ((reloadT1 s).modLink (fun k => { k with state := .ok, t2 := none })).bounded := hs
    exact hreport.report _
  unfold superviseFrame
  split
  · next hok => exact ⟨(reloadT1 s).link, hok, id, .of_eq⟩
  · have hstate := StepKept.restoreLink_state (s.linkHeld.map (fun l => (l, .linkReleased))) s
    have hbounded := hrestore (s.linkHeld.map (fun l => (l, .linkReleased)))
    have honly : restoreLink (s.linkHeld.map (fun l => (l, .linkReleased))) s =
        { s with link := (restoreLink (s.linkHeld.map (fun l => (l, .linkReleased))) s).link } := by
      unfold restoreLink linkReport; rw [State.report_eq]; rfl
    refine ⟨_, hstate, hbounded, ?_⟩
    rw [honly]
    exact releaseAll_acted .link .linkRestore nofun _ (allLines_nodup.filter _) _ fun l hl =>
      holdsCause_hold (List.mem_filter.1 hl).2
  · have honly : restoreLink [] s = { s with link := (restoreLink [] s).link } := by
      unfold restoreLink linkReport; rw [State.report_eq]; rfl
    refine ⟨_, StepKept.restoreLink_state [] s, hrestore [], ?_⟩
    rw [← honly]
    exact .refl _

theorem linkReport_acted (e : LinkEvent) (before : LinkState) (acts : List (LineId × LineAction)) (s : State) :
    Acted B Z s (linkReport e before acts s) := .report ..

theorem imposeLink_acted (l : LineId) (s : State) :
    Acted B Z s (imposeCause l .link (fun h => { h with link := true }) s) := by
  refine imposeCause_acted l .link (fun h => { h with link := true }) s (fun h => ?_) fun h z hn => ?_
  · simp [HoldSet.isEmpty]
  · exact hn

/-- T1's expiry holds the lines with LINK (R170). -/
theorem evT1Expiry_acted (s : State) (h : s.link.state = .ok) :
    ∃ k : Link, k.state = .lost1 ∧ (s.bounded → State.bounded { s with link := k }) ∧ Acted B Z { s with link := k } (evT1Expiry s) := by
  unfold evT1Expiry
  rw [if_pos h]
  dsimp only
  generalize s.actions linkAction = acts
  have hact (u : State) : Acted B Z u (allLines.foldl (fun s l => imposeCause l .link (fun h => { h with link := true }) s)
      (linkReport .t1Expiry .ok acts u)) :=
    (linkReport_acted ..).trans (.foldl (fun s l => imposeLink_acted l s) _ _)
  exact ⟨{ s.link with state := .lost1, t1 := none, t2 := some (s.store.linkCfg.t2 * 1000) }, rfl, id, hact _⟩

/-- T2's expiry drains the started lines (R171). -/
theorem evT2Expiry_acted (s : State) (h : s.link.state = .lost1) :
    ∃ k : Link, k.state = .lost2 ∧ (s.bounded → State.bounded { s with link := k }) ∧ Acted B Z { s with link := k } (evT2Expiry s) := by
  unfold evT2Expiry
  rw [if_pos h]
  dsimp only
  generalize s.actions _ = acts
  have hact (u : State) : Acted B Z u (allLines.foldl (fun s l => drainLine l .link s) (linkReport .t2Expiry .lost1 acts u)) :=
    (linkReport_acted ..).trans (.foldl (fun s l => drainLine_acted l .link s) _ _)
  exact ⟨{ s.link with state := .lost2, t2 := none, safeLatch := true }, rfl, id, hact _⟩

/-- An opened loop drains the started lines (R158). -/
theorem evLoopOpen_acted (s : State) (h : s.supply.loopOpen = false) :
    Acted B Z { s with supply := { s.supply with loopOpen := true } } (evLoopOpen s) := by
  unfold evLoopOpen
  rw [if_neg (by rw [h]; nofun)]
  exact (Acted.report _ _).trans (.foldl (fun s l => drainLine_acted l .estop s) _ _)

/-! ### The hold timer and the LOCAL key (R71, R78 to R81) -/

theorem evHoldTimer_acted (l : LineId) (s : State) : Acted B Z s (evHoldTimer l s) := by
  unfold evHoldTimer
  split
  · exact .refl s
  · next n hn =>
    unfold State.holdTimer at hn
    cases hv : s.live l with
    | none => rw [hv] at hn; cases hn
    | some v =>
      rw [hv] at hn
      by_cases hp : v.phase = .hold
      · exact releaseCauses_acted hv hp _ _ _ fun z _ _ hg => hg
      · exact absurd ((if_neg hp).symm.trans hn) nofun

/-- The return set names the zones in TRIP with routing HOLD (R81). -/
theorem returnSet_names {zs : ZoneSet} {z : ZoneId} (h1 : hasZone zs z = true) (h2 : s.latched z = true)
    (h3 : (s.zoneCfg z).routing = .hold) : (s.returnSet zs).names z := by
  have hz := (holdTrips_iff s zs z).2 ⟨h1, h2, h3⟩
  refine ⟨s.holdTrips zs, if_neg fun h0 => ?_, hz⟩
  rw [zoneSet_eq_zero.1 h0 z] at hz
  cases hz

/-- The LOCAL key of a line (R78): what it enters by it, the zones in TRIP with routing HOLD guard. -/
theorem evLocalKey_acted (l : LineId) (on : Bool) (s : State) :
    Acted B (fun z => s.latched z = true ∧ (s.zoneCfg z).routing = .hold) s (evLocalKey l on s) := by
  have hkey := (LineStep.refl s l).setLine { s.line l with key := on }
  unfold evLocalKey
  dsimp only
  cases hv : s.live l with
  | none =>
    have hphase : (s.setLine l { s.line l with key := on }).phase l = none := by
      unfold State.phase; rw [hkey.live]; exact congrArg (Option.map Live.phase) hv
    rw [hphase]
    exact hkey.acted (fun w hw => by cases hv.symm.trans hw) (fun v hv' => by cases hv.symm.trans hv')
  | some v =>
    rw [hkey.phase (v := v) hv]
    have hsame : Acted B (fun z => s.latched z = true ∧ (s.zoneCfg z).routing = .hold) s
        (s.setLine l { s.line l with key := on }) := hkey.acted_live hv hv (.refl v) id
    dsimp only
    split
    · split
      · next hp =>
        have hstarted : v.phase.started = true := by
          cases h : v.phase <;> rw [h] at hp <;> first | rfl | cases hp
        exact (hkey.enterLocal hv v.phase).acted_live hv rfl
          (.runs hstarted nofun (le_refl _) (show (-1000 : Int) ≤ 0 by decide) rfl fun z _ _ _ => .inr (.inl rfl)) nofun
      · exact hsame
    · split
      · next hp =>
        refine (hkey.leaveLocal hv (by rw [hkey.state]; rfl)).acted_live hv rfl
          (.holds (by rw [hp]; rfl) rfl (fun _ => Live.demandKept_zero rfl) ?_ fun z hz hzs _ => .inr (.inr ⟨rfl, ?_⟩)) nofun
        · simp [State.returnSet, HoldSet.isEmpty]
        · exact returnSet_names hzs hz.1 hz.2
      · exact hsame

/-! ### The notice of a tank (R121) -/

theorem evTankNotice_acted (l : LineId) (s : State) : Acted B Z s (evTankNotice l s) := by
  have htaken : Acted B Z s (s.taken (.tankNotice l)) := .of_eq
  cases hv : s.live l with
  | none =>
    rw [evTankNotice_idle hv]
    exact htaken.trans ((noticeRead_step s l).acted (fun w hw => by cases hv.symm.trans hw)
      (fun v hv' => by cases hv.symm.trans hv'))
  | some v =>
    rw [evTankNotice_live hv]
    refine htaken.trans ?_
    generalize (s.line l).notices.head?.getD Notice.plain = n
    have hstep := (noticeRead_step s l).setLive (n.write v)
    have hwritten : v.Moves B Z (n.write v) := .of_eq
    have hv' : (s.taken (.tankNotice l)).live l = some v := hv
    have hstay : Acted B Z (s.taken (.tankNotice l)) ((s.noticeRead l).setLive l (n.write v)) :=
      hstep.acted_live hv' rfl hwritten id
    generalize (s.noticeRead l).setLive l (n.write v) = u at hstep hstay ⊢
    have hlive : u.live l = some (n.write v) := hstep.live
    have hphase : (n.write v).phase = v.phase := rfl
    generalize n.write v = w at hstep hlive hwritten hphase
    have hmove {w' : Live} (h : w.Moves B Z w') : v.Moves B Z w' := hwritten.trans h
    have hentered (h1 : w.phase = .inject ∨ w.phase = .relief ∨ w.phase = .starved) {e : Phase × Context}
        (hentry : (s.taken (.tankNotice l)).entry w.ctx w.ctx.lastPe = e) :
        w.Moves B Z { phase := e.1, ctx := e.2, latch := w.latch } := by
      obtain ⟨hp, hu, hhold, h2, h3, h4, h5⟩ := entry_enters (s.taken (.tankNotice l)) w.ctx w.ctx.lastPe
      rw [hentry] at hp hu hhold h2 h3 h4 h5
      exact .switches h1 (by rcases hp with hp | hp <;> simp [hp]) (le_of_eq hu) (by rw [hu]; decide) hhold h2 h3 h4 h5
    have hlast {w' : Live} (h : w'.phase = .drain ∨ w'.phase = .ended) (hp : w'.phase = .inject ∨ w'.phase = .starved) :
        v.phase = .drain ∨ v.phase = .ended := by
      rcases hp with hp | hp <;> rw [hp] at h <;> exact h.elim nofun nofun
    have hstarves (h1 : w.phase = .inject ∨ w.phase = .relief) :
        Acted B Z (s.taken (.tankNotice l)) (if u.supplies w.ctx then u else starve l w.phase u) := by
      split
      · exact hstay
      · next hno =>
        have hno' : (s.taken (.tankNotice l)).supplies w.ctx = false := by
          rw [← hstep.supplies]; exact Bool.eq_false_iff.2 hno
        have hst := (entry_starved_iff (s.taken (.tankNotice l)) w.ctx w.ctx.lastPe).2 hno'
        have hentry := hentered (h1.imp id .inl) rfl
        rw [hst] at hentry
        refine (hstep.starve rfl rfl hst rfl).acted_live hv' rfl (hmove (hentry.trans ?_)) nofun
        exact .of_eq
    have hasks : Acted B Z (s.taken (.tankNotice l)) (requestOwnMix l n u) := by
      unfold requestOwnMix
      split
      · exact hstay
      · split
        · exact hstay
        · split
          · exact (hstep.raiseRequest rfl _).acted_live hv' rfl (hmove .of_eq) (fun h => by rw [← hphase]; exact h)
          · exact hstay
    unfold actOnNotice
    rw [hlive]
    dsimp only
    split
    · next hp => exact hstarves (.inl hp)
    · next hp => exact hstarves (.inr hp)
    · next hp =>
      exact (hstep.reexamine rfl rfl).acted_live hv' rfl (hmove (hentered (.inr (.inr hp)) rfl))
        (fun h => hlast h (entry_enters _ _ _).1)
    · exact hasks
    · exact hasks
    · exact hasks
    · exact hstay
    · exact hstay

/-! ### The requests of a line -/

theorem pauseLine_acted (hv : s.live l = some v) (hp : v.phase.pausable = true) (site : SiteHold) :
    Acted B Z s (pauseLine l v site s) := by
  have hrun : v.phase ≠ .hold → v.phase = .inject ∨ v.phase = .relief ∨ v.phase = .starved := by
    intro hh
    cases h : v.phase <;> rw [h] at hp hh <;> first | (cases hp; done) | exact absurd rfl hh | simp
  have hstarted : v.phase.started = true := by
    cases h : v.phase <;> rw [h] at hp <;> first | rfl | cases hp
  have hset (h : HoldSet) : HoldSet.isEmpty { h with site := some site } = false := by simp [HoldSet.isEmpty]
  have hpaused : ∃ w, State.live (if v.phase = .hold then addCause l .site (fun h => { h with site := some site }) s
      else enterHold l v.phase .site (fun h => { h with site := some site }) s) l = some w ∧ w.phase = .hold ∧
        Acted B Z s (if v.phase = .hold then addCause l .site (fun h => { h with site := some site }) s
          else enterHold l v.phase .site (fun h => { h with site := some site }) s) := by
    split
    · next hh =>
      have hstep := (LineStep.refl s l).addCause hv .site (fun h => { h with site := some site })
      exact ⟨_, hstep.live, hh, hstep.acted_live hv rfl (.holds hstarted hh id (hset _)
        fun z _ _ hg => hg.imp id (Or.imp id (And.imp id id))) id⟩
    · next hh =>
      have hstep := (LineStep.refl s l).enterHold hv v.phase .site (fun h => { h with site := some site })
      refine ⟨_, hstep.live, rfl, hstep.acted_live hv rfl (.holds hstarted rfl (fun _ => Live.demandKept_zero rfl) (hset _)
        fun z _ _ hg => absurd hg (Live.guardedBy_runs hstarted ?_ hh z)) nofun⟩
      rcases hrun hh with h | h | h <;> rw [h] <;> nofun
  unfold pauseLine
  dsimp only
  obtain ⟨w, hw, hwp, hact⟩ := hpaused
  split
  · exact hact.trans (releaseCauses_acted hw hwp _ _ _ fun z _ _ hg => hg)
  · exact hact

/-- RESUME of a line in HOLD that no zone in TRIP holds (R74). -/
theorem resumeLine_acted (hv : s.live l = some v) (hp : v.phase = .hold) (hs : s.heaveStands v.ctx.hold = false) :
    Acted B (fun z => s.latched z = true) s (resumeLine l v.ctx.hold s) := by
  unfold resumeLine
  split
  · exact .refl s
  · refine releaseCauses_acted hv hp _ _ _ fun z hz _ hg => ?_
    obtain ⟨zs, hzs, hzone⟩ := hg
    exact absurd (hs.symm.trans ((heaveStands_iff ..).2 ⟨zs, z, hzs, hzone, hz⟩)) nofun

/-- A line without an entry in a queue returns to IDLE (R75, R76). -/
theorem unbound_acted (hx : x.live = none) (hs : List Instr)
    (hfree : ∀ v, s.live l = some v → v.phase ≠ .drain → v.phase ≠ .ended → ∀ q ∈ (s.tank v.ctx.tank).queue, q.1 ≠ l) :
    Acted B Z s { s.setLine l x with handoffs := hs } := by
  have hstep : Acted B Z s (s.setLine l x) :=
    ((LineStep.refl s l).setLine x).acted (fun w hw => by cases hx.symm.trans hw)
      (fun v hv hd he ⟨q, hq, hql⟩ => absurd hql (hfree v hv hd he q hq))
  have hhand : Acted B Z (s.setLine l x) { s.setLine l x with handoffs := hs } := .of_eq
  exact hstep.trans hhand

/-- ABORT of a line that is BOUND, its stage put back (R75). -/
theorem abortBound_acted (hv : s.live l = some v) :
    Acted B Z (s.modStage v.ctx.hole v.ctx.stage Stage.restored) (abortBound l v.ctx s) := by
  rw [abortBound_eq hv]
  refine Acted.trans ?_ (.foldl (fun s r => .report s r) _ _)
  have hwithout : Acted B Z (s.modStage v.ctx.hole v.ctx.stage Stage.restored) _ := .without _ v.ctx.tank l
  refine hwithout.trans (unbound_acted (x := (s.line l).unbound) rfl _ fun v' hv' _ _ q hq => ?_)
  obtain rfl := Option.some.inj (hv.symm.trans hv')
  rw [State.tank_setTank_self] at hq
  have hne := (List.mem_filter.1 hq).2
  simpa using hne

/-- RELEASE of a line in ENDED (R76). -/
theorem unbind_acted (hv : s.live l = some v) (hp : v.phase = .ended) : Acted B Z s (unbind l s) :=
  unbound_acted rfl _ fun v' hv' _ he => by
    obtain rfl := Option.some.inj (hv.symm.trans hv')
    exact absurd hp he

theorem startSettled_keeps (s : State) (l : LineId) (c : Context) :
    (s.startSettled l c).1.hold = c.hold ∧ (s.startSettled l c).1.hole = c.hole ∧ (s.startSettled l c).1.stage = c.stage ∧
      (s.startSettled l c).1.tank = c.tank ∧ (s.startSettled l c).1.zones = c.zones := by
  unfold State.startSettled
  split
  · exact ⟨rfl, rfl, rfl, rfl, rfl⟩
  · split
    · exact ⟨rfl, rfl, rfl, rfl, rfl⟩
    · split <;> exact ⟨rfl, rfl, rfl, rfl, rfl⟩

/-- START of a line that is BOUND: only lines with its zones start, and zones outside them guard as they did (R63, R64). -/
theorem startLine_acted (hv : s.live l = some v) (hp : v.phase = .bound) :
    Acted (fun zs => zs ≠ v.ctx.zones) (fun z => hasZone v.ctx.zones z = false) s (startLine l v.ctx s) := by
  have hstep := startLine_step hv
  dsimp only at hstep
  have hsettled := startSettled_keeps s l { v.ctx with startUptime := some s.uptime }
  obtain ⟨k0, k1, k2, k3, k4⟩ := hsettled
  obtain ⟨he, hu, hhold, h1, h2, h3, h4⟩ :=
    entry_enters s (s.startSettled l { v.ctx with startUptime := some s.uptime }).1 v.ctx.lastPe
  generalize s.entry (s.startSettled l { v.ctx with startUptime := some s.uptime }).1 v.ctx.lastPe = e at *
  have hstage : Acted (fun zs => zs ≠ v.ctx.zones) (fun z => hasZone v.ctx.zones z = false) s
      (s.modStage v.ctx.hole v.ctx.stage (fun st => { st with status := .active, prior := none })) :=
    .modStage _ _ _ _ fun _ _ => nofun
  refine hstage.trans (hstep.acted_live (v := v) hv rfl
    { hole := h1.trans k1
      stage := h2.trans k2
      tank := h3.trans k3
      zones := h4.trans k4
      demand := fun _ => Live.demandKept_zero hu
      hold := fun hm => ⟨fun h => ?_, fun h => ?_⟩
      starts := fun hne => absurd rfl hne
      guard := fun z hz hzs => absurd (hz.symm.trans hzs) nofun } fun h => ?_)
  · dsimp only at h
    rcases he with he | he <;> rw [he] at h <;> cases h
  · dsimp only at h
    rw [hhold, k0] at h
    exact absurd (hp.symm.trans (hm.2 h)) nofun
  · dsimp only at h
    rcases he with he | he <;> rw [he] at h <;> exact h.elim nofun nofun

end

end Sys2Proof.Machine
end

section
/-! PROOFS. A sample as an action on its line. -/

namespace Sys2Proof.Machine

section
variable {B : ZoneSet → Prop} {Z : ZoneId → Prop} {s t u : State} {l : LineId} {x : Line} {hs : List Instr} {rs : List Report}
  {v w z : Live} {current : Nat} {m : Sampled}

/-! ### The close of a sample -/

theorem storeUpdate_acted (l : LineId) (dv : Nat) (s : State) : Acted B Z s (storeUpdate l dv s) := by
  cases hv : s.live l with
  | none => unfold storeUpdate; rw [hv]; exact .refl s
  | some v => rw [storeUpdate_eq hv]; exact .modStage _ _ _ _ fun _ h => h

theorem traceSample_acted (l : LineId) (pint : BitVec 32) (s : State) : Acted B Z s (traceSample l pint s) := by
  have hline (n : Nat) : Acted B Z s (s.setLine l { s.line l with traceCounter := n }) := by
    have hstep := (LineStep.refl s l).setLine { s.line l with traceCounter := n }
    refine hstep.acted (fun w hw => ⟨w, hw, .refl w⟩) fun v hv hd he _ => ⟨v, hv, rfl, hd, he⟩
  unfold traceSample
  dsimp only
  split
  · exact .refl s
  · split
    · split
      · exact .refl s
      · exact (hline 0).trans (.report _ _)
    · exact hline _

theorem closeVerdict_acted (l : LineId) (m : Sampled) (c : Context) (broken : Bool) (s : State) :
    Acted B Z s (closeVerdict l m c broken s) := by
  have hclose : Acted B Z s (closeSample l m s) := by
    unfold closeSample
    exact ((modCtx_acted l _ s fun v _ => .of_eq).trans (storeUpdate_acted ..)).trans (traceSample_acted ..)
  unfold closeVerdict
  split
  · exact hclose.trans .of_eq
  · exact hclose

theorem fillLatch_acted (l : LineId) (o : PassOutcome) (p : Phase) (d : Int) (s : State) :
    Acted B Z s (fillLatch l o p d s) := by
  cases hv : s.live l with
  | none => unfold fillLatch; rw [hv]; exact .refl s
  | some v => exact ((LineStep.refl s l).fillLatch hv o p d).acted_live hv rfl .of_eq id

/-! ### The tests of a sample -/

/-- A line in INJECT that its sample regulates (R94). -/
theorem Live.Moves.regulates (hv : v.phase = .inject) (hp : w.phase = .inject) (hu : w.ctx.u ≤ 1000) (hu' : -1000 ≤ w.ctx.u)
    (hhold : w.ctx.hold = v.ctx.hold) (hhole : w.ctx.hole = v.ctx.hole := by rfl)
    (hstage : w.ctx.stage = v.ctx.stage := by rfl) (htank : w.ctx.tank = v.ctx.tank := by rfl)
    (hzones : w.ctx.zones = v.ctx.zones := by rfl) : v.Moves B Z w where
  hole := hhole
  stage := hstage
  tank := htank
  zones := hzones
  demand _ := ⟨hu', hu, fun hne => absurd hp hne⟩
  hold h := by unfold holdMatches; rw [hhold, hp, ← hv]; exact h
  starts _ _ := by rw [hv]; rfl
  guard z _ _ h := by unfold guardedBy; rw [hhold, hp, ← hv]; exact h

/-- A line that its sample has aimed, with the causes it keeps (R71, R85 to R88). -/
theorem aimed_moves (hp : w.phase ≠ .hold) : w.Moves B Z { w with ctx := w.aimed m } :=
  .of_eq rfl rfl (if_neg fun h => hp h.1)

theorem aimed_hold_eq (hp : w.phase ≠ .hold) : (w.aimed m).hold = w.ctx.hold := if_neg fun h => hp h.1

theorem aimed_names {y : ZoneId} (h : w.ctx.hold.names y) : (w.aimed m).hold.names y := by
  rw [aimed_hold]
  split <;> exact h

/-- The sample ends the pass (R89, R108). -/
theorem sample_ends_acted (hv : s.live l = some v) (hm : v.Moves B Z w) {c : Context}
    (hstep : LineStep s u l (s.lineSampled l current { w with ctx := c }) hs rs)
    (hc : c.hole = w.ctx.hole ∧ c.stage = w.ctx.stage ∧ c.tank = w.ctx.tank ∧ c.zones = w.ctx.zones) (p : Phase) :
    Acted B Z s (regulateSample l p m (enterDrain l u)) := by
  obtain ⟨h1, h2, h3, h4⟩ := hc
  have hdrain := hstep.enterDrain rfl
  rw [regulateSample_left (hdrain.phase rfl) nofun]
  refine hdrain.acted_without hv (h3.trans hm.tank) fun w' hw' => hm.trans ?_
  obtain rfl := Option.some.inj hw'
  exact .stops rfl rfl rfl h1 h2 h3 h4

theorem Live.started_place (h : v.phase.started = true) : v.phase ≠ .drain ∧ v.phase ≠ .ended := by
  constructor <;> intro hp <;> rw [hp] at h <;> cases h

section
variable (hv : s.live l = some v) (hm : v.Moves B Z w)
include hv hm

/-- The sample leaves the line in a started state. -/
theorem sample_keeps_acted (hz : w.Moves B Z z) (hstarted : z.phase.started = true) (d : Bool)
    (hstep : LineStep s u l { s.lineSampled l current z with permitDrop := d } hs rs) : Acted B Z s u := by
  obtain ⟨h1, h2⟩ := Live.started_place hstarted
  exact hstep.acted_live hv rfl (hm.trans hz) fun h => h.elim (absurd · h1) (absurd · h2)

variable (ht : LineStep s t l (s.lineSampled l current { w with ctx := w.aimed m }) hs rs)
include ht

/-- Tests (c), (d) and (e), and the regulation (R89 to R94, R102). -/
theorem injectTests_acted (hp : w.phase = .inject) : Acted B Z s (regulateSample l .inject m (injectTests l m t).s) := by
  have hlive : t.live l = some { w with ctx := w.aimed m } := ht.live
  have hc := ctx_of_live hlive
  have htimed : LineStep s (timed l (w.aimed m) m t) l (s.lineSampled l current
      { w with ctx := { w.aimed m with refusalTimer := refusalTimerAfter (w.aimed m) m } }) hs rs := ht.modCtx rfl _
  have hkeep {z : Live} {u : State} {hs : List Instr} {rs : List Report}
      (hu : LineStep s u l (s.lineSampled l current z) hs rs) (hz : w.Moves B Z z) (hstarted : z.phase.started = true) :
      Acted B Z s u :=
    sample_keeps_acted hv hm hz hstarted (s.line l).permitDrop hu
  have hhold : (w.aimed m).hold = w.ctx.hold := aimed_hold_eq (by rw [hp]; nofun)
  by_cases hq : qualifies (w.aimed m) m = true ∧ (w.aimed m).limits.refTime * 1000 ≤ refusalTimerAfter (w.aimed m) m
  · rw [injectTests_refusal hc hq]
    exact sample_ends_acted hv hm htimed ⟨rfl, rfl, rfl, rfl⟩ _
  cases ho : overLimit (w.aimed m) m with
  | true =>
    have hcounted := htimed.modCtx rfl (fun k => { k with reliefCount := k.reliefCount + 1 })
    have hctx := ctx_of_live htimed.live
    rw [injectTests_over hc hq ho]
    by_cases hlim : (w.aimed m).limits.reliefLimit < (w.aimed m).reliefCount + 1
    · rw [relieve_ends hctx hlim]
      exact sample_ends_acted hv hm hcounted ⟨rfl, rfl, rfl, rfl⟩ _
    · rw [relieve_enters hctx (Nat.le_of_not_lt hlim)]
      have hrelief := (hcounted.exitInject rfl hp).setPhase rfl .relief (fun k => { k with u := -1000 })
      rw [regulateSample_left (hrelief.phase rfl) nofun]
      exact hkeep hrelief (.switches (.inl hp) nofun (show (-1000 : Int) ≤ 0 by decide) (le_refl _) hhold) rfl
  | false =>
    cases hb : pressureBreak (w.aimed m) m with
    | true =>
      rw [injectTests_break hc hq ho hb]
      have hheld := htimed.enterHold rfl .inject .brk (fun h => { h with brk := true })
      rw [regulateSample_left (hheld.phase rfl) nofun]
      refine hkeep hheld (.holds (by rw [hp]; rfl) rfl (fun _ => Live.demandKept_zero rfl) rfl fun z _ _ hg => ?_) rfl
      exact absurd hg (Live.guardedBy_runs (by rw [hp]; rfl) (by rw [hp]; nofun) (by rw [hp]; nofun) z)
    | false =>
      rw [injectTests_runs hc hq ho hb]
      have hreg := htimed.regulateSample rfl hp (m := m) rfl
      have hrange (n : Int) : -1000 ≤ clampI (-1000) 1000 n ∧ clampI (-1000) 1000 n ≤ 1000 := by
        rw [clampI_eq_max_min n (by decide)]; omega
      exact hkeep hreg (.regulates hp hp (hrange _).2 (hrange _).1 hhold) (show w.phase.started = true by rw [hp]; rfl)

/-- What step 7 does in a state that (a) and (b) have not ended (R91, R98, R99). -/
theorem stateTests_acted (hstarted : w.phase.started = true) :
    Acted B Z s (regulateSample l w.phase m (stateTests l w.phase m t).s) := by
  have hlive : t.live l = some { w with ctx := w.aimed m } := ht.live
  have hkeep {z : Live} {u : State} {hs : List Instr} {rs : List Report}
      (hu : LineStep s u l (s.lineSampled l current z) hs rs) (hz : w.Moves B Z z) (hstarted : z.phase.started = true) :
      Acted B Z s u :=
    sample_keeps_acted hv hm hz hstarted (s.line l).permitDrop hu
  cases hp : w.phase with
  | inject => exact injectTests_acted hv hm ht hp
  | relief =>
    rw [regulateSample_not_inject (p := .relief) nofun]
    by_cases hle : m.pe ≤ m.cap
    · rw [stateTests_relief_returns hle]
      have hback := ht.setPhase rfl .inject (fun c => { c with pRamp := m.pe, u := 0, first := true, starve := none })
      exact hkeep hback (.switches (.inr (.inl hp)) nofun (le_refl 0) (show (-1000 : Int) ≤ 0 by decide)
        (aimed_hold_eq (by rw [hp]; nofun))) rfl
    · rw [stateTests_relief_stays (Nat.lt_of_not_le hle)]
      exact hkeep ht (aimed_moves (by rw [hp]; nofun)) hstarted
  | hold =>
    rw [regulateSample_not_inject (p := .hold) nofun]
    have hnames (y : ZoneId) (hg : w.guardedBy y) : (w.aimed m).hold.names y := by
      rcases hg with hg | hg | ⟨-, hg⟩
      · rw [hg] at hstarted; cases hstarted
      · rw [hp] at hg; cases hg
      · exact aimed_names hg
    cases he : (w.aimed m).hold.isEmpty with
    | true =>
      rw [stateTests_hold_leaves (ctx_of_live hlive) he]
      have hleft := ht.leaveHold (pe := m.pe) rfl rfl (some .site) .decay
      have hentered : w.Moves B Z
          { phase := (s.entry (w.aimed m) m.pe).1, ctx := (s.entry (w.aimed m) m.pe).2, latch := w.latch } :=
        Moves_entry hstarted rfl he rfl rfl rfl rfl fun y _ _ hg => by
          rw [HoldSet.names_nonempty (hnames y hg)] at he; cases he
      refine hkeep hleft hentered ?_
      rcases (entry_enters s (w.aimed m) m.pe).1 with h | h <;> dsimp only <;> rw [h] <;> rfl
    | false =>
      rw [stateTests_hold_stays (ctx_of_live hlive) he]
      exact hkeep ht (.holds hstarted hp id he fun y _ _ hg => .inr (.inr ⟨hp, hnames y hg⟩)) hstarted
  | localPanel =>
    rw [regulateSample_not_inject (p := .localPanel) nofun]
    have htests : (stateTests l .localPanel m t).s =
        t.setLine l { t.line l with permitDrop := permitDropAfter (w.aimed m) m (t.line l).permitDrop } := by
      unfold stateTests
      dsimp only
      rw [ctx_of_live hlive]
    rw [htests]
    exact sample_keeps_acted hv hm (aimed_moves (by rw [hp]; nofun)) hstarted _
      (ht.modLine (fun x => { x with permitDrop := permitDropAfter (w.aimed m) m (t.line l).permitDrop }))
  | starved =>
    rw [regulateSample_not_inject (p := .starved) nofun]
    exact hkeep ht (aimed_moves (by rw [hp]; nofun)) hstarted
  | _ => rw [hp] at hstarted; cases hstarted

/-- Step 7 of a started sample, and the regulation (R89). -/
theorem testSample_acted (hstarted : w.phase.started = true) :
    Acted B Z s (regulateSample l w.phase m (testSample l w.phase m t).s) := by
  have hlive : t.live l = some { w with ctx := w.aimed m } := ht.live
  cases hend : endTest (w.aimed m) m.pe with
  | none =>
    rw [testSample_passes hlive hend]
    exact stateTests_acted hv hm ht hstarted
  | some o =>
    rw [testSample_ends hlive hend]
    exact sample_ends_acted hv hm ht ⟨rfl, rfl, rfl, rfl⟩ _

end

/-- A sample in a started state (R85). -/
theorem startedSample_acted (hv : s.live l = some v) (hstarted : v.phase.started = true) (current : Nat) :
    Acted B Z s (startedSample l v.phase (s.read l current v.ctx.lastPg) s) := by
  have hgo {w : Live} {u : State} {hs : List Instr} {rs : List Report} (hm : v.Moves B Z w) (hw : w.phase.started = true)
      (h : LineStep s u l (s.lineSampled l current w) hs rs)
      (hsense : senseFault l v.phase (!loopInRange current) (countVolume l (s.read l current v.ctx.lastPg).dv
        (afterReading l (!loopInRange current) s)) = (w.phase, u)) :
      Acted B Z s (startedSample l v.phase (s.read l current v.ctx.lastPg) s) := by
    obtain ⟨t, ht, hsample⟩ := startedSample_tested (r := s.read l current v.ctx.lastPg) h rfl rfl hsense rfl
    rw [hsample]
    refine (testSample_acted hv hm ht hw).trans ?_
    cases (testSample l w.phase (s.sampledOf l (s.read l current v.ctx.lastPg) w.ctx) t).ended with
    | none => exact closeVerdict_acted ..
    | some o => exact (closeVerdict_acted ..).trans (fillLatch_acted ..)
  have hcounted : LineStep s (countVolume l (s.read l current v.ctx.lastPg).dv (afterReading l (!loopInRange current) s)) l
      (s.lineSampled l current { v with ctx := v.ctx.counted (s.read l current v.ctx.lastPg).dv }) _ _ := counted_step hv
  by_cases hf : loopInRange current = true ∨ v.phase.sensorHolds = false
  · exact hgo (w := { v with ctx := v.ctx.counted (s.read l current v.ctx.lastPg).dv })
      .of_eq hstarted hcounted (senseFault_healthy (hf.imp (fun hc => by rw [hc]; rfl) id))
  · have hcur : loopInRange current = false := Bool.eq_false_iff.2 fun h => hf (.inl h)
    have hsensor : v.phase.sensorHolds = true := by
      cases h : v.phase.sensorHolds with
      | true => rfl
      | false => exact absurd (.inr h) hf
    have hheld := hcounted.enterHold rfl v.phase .sensor (fun h => { h with sensor := true })
    have hmoves : v.Moves B Z (v.sensed (s.read l current v.ctx.lastPg).dv) := by
      refine .holds hstarted rfl (fun _ => Live.demandKept_zero rfl) rfl fun z _ _ hg => ?_
      refine absurd hg (Live.guardedBy_runs hstarted ?_ ?_ z) <;> intro hp <;> rw [hp] at hsensor <;> cases hsensor
    have hfault : (!loopInRange current) = true := by rw [hcur]; rfl
    exact hgo hmoves rfl hheld ((congrArg (fun b => senseFault l v.phase b _) hfault).trans (senseFault_faulted hsensor))

/-! ### The sample of a drain (R110 to R112) -/

theorem stageEndReport_acted (l : LineId) (c : Context) (r : OutcomeRecord) (s : State) :
    Acted B Z s (stageEndReport l c r s) := by
  unfold stageEndReport
  split
  · exact .refl s
  · exact .report _ _

theorem drainSample_acted (hv : s.live l = some v) (hp : v.phase = .drain) (current : Nat) (e : EndLatch) :
    Acted B Z s (drainSample l (s.read l current v.ctx.lastPg) e s) := by
  have hread : Acted B Z s (drainRead s l v current (e.drainedFor (e.drainTime + (s.lineCfg l).interval))) := by
    have hfreed : Acted B Z s s.freed := .of_eq
    exact hfreed.trans ((drainRead_step hv _).acted_live (v := v) hv rfl .of_eq id)
  have hlive := (drainRead_step hv (current := current) (e.drainedFor (e.drainTime + (s.lineCfg l).interval))).live
  rw [drainSample_eq hv rfl rfl]
  generalize drainRead s l v current (e.drainedFor (e.drainTime + (s.lineCfg l).interval)) = u at hread hlive ⊢
  refine hread.trans ?_
  cases hend : drainEnd (s.read l current v.ctx.lastPg).pg (e.drainTime + (s.lineCfg l).interval) with
  | none => exact (storeUpdate_acted ..).trans (traceSample_acted ..)
  | some timeout =>
    dsimp only [Option.elim]
    unfold finishDrain
    rw [ctx_of_live hlive]
    dsimp only
    have hfinish (st : Stage) (r : Reading) (o : OutcomeRecord) : (st.finish r.dv o).status ≠ .planned := by
      show PassOutcome.status _ ≠ .planned
      unfold PassOutcome.status
      split <;> nofun
    generalize EndLatch.record _ _ _ = o
    have hwrite : Acted B Z u (u.modStage v.ctx.hole v.ctx.stage (fun st => st.finish (s.read l current v.ctx.lastPg).dv o)) :=
      .modStage _ _ _ _ fun st _ => hfinish st _ o
    refine hwrite.trans (.trans ?_ ((traceSample_acted ..).trans (stageEndReport_acted ..)))
    refine ((LineStep.refl (u.modStage _ _ _) l).setPhase hlive .ended id).acted_live hlive rfl ?_ fun _ => .inl hp
    exact
      { hole := rfl, stage := rfl, tank := rfl, zones := rfl
        demand := fun h => ⟨h.1, h.2.1, fun _ => h.2.2 (by show v.phase ≠ .inject; rw [hp]; nofun)⟩
        hold := fun h => ⟨nofun, fun hne => absurd (hp.symm.trans (h.2 hne)) nofun⟩
        starts := fun _ h => absurd h nofun
        guard := fun _ _ _ _ => .inl rfl }

theorem evSample_acted (l : LineId) (current : Nat) (s : State) : Acted B Z s (evSample l current s) := by
  cases hv : s.live l with
  | none => unfold evSample; rw [hv]; exact .refl s
  | some v =>
    have hdisplay : Acted B Z s (displaySample l (s.read l current v.ctx.lastPg) s) :=
      (displaySample_step hv).acted_live hv rfl .of_eq id
    by_cases hp : v.phase.started = true
    · rw [evSample_started hv hp]
      exact startedSample_acted hv hp current
    · unfold evSample
      rw [hv]
      dsimp only
      cases hq : v.phase with
      | bound => exact hdisplay
      | ended => exact hdisplay
      | drain => exact drainSample_acted hv hq current _
      | _ => rw [hq] at hp; exact absurd rfl hp

end

end Sys2Proof.Machine
end

section
/-! PROOFS. What an event keeps of the invariants of the part, and that the actions of the lines keep it. -/

namespace Sys2Proof.Machine

/-- The guard of one zone on its lines (R149). -/
def State.guardsAt (s : State) (z : ZoneId) : Prop :=
  ∀ l v, s.live l = some v → hasZone v.ctx.zones z = true → s.latched z = true →
    ((s.zoneCfg z).routing = .stop → v.phase.started = false) ∧ ((s.zoneCfg z).routing = .hold → v.guardedBy z)

theorem State.guarded_iff {s : State} : s.guarded ↔ ∀ z, s.guardsAt z :=
  ⟨fun h z l v => h l v z, fun h l v z => h z l v⟩

/-- The accounts of the tanks (R119, R120, R122). -/
def State.accounted (s : State) : Prop := s.balanced ∧ s.unsetEmpty

/-- The laws of the plan on the bound lines (R7, R31, R61). -/
def State.planKept (s : State) : Prop := s.boundPlanned ∧ s.bindingLaws

/-- From `s` to `t` every invariant of the part is kept. -/
structure Kept (s t : State) : Prop where
  bounded : s.bounded → t.bounded
  accounted : s.accounted → t.accounted
  requests : s.requestsKept → t.requestsKept
  demands : s.demandsKept → t.demandsKept
  holds : s.holdsMatch → t.holdsMatch
  stopped : s.stopped → t.stopped
  guarded : s.guarded → t.guarded
  canonical : s.store.canonical → t.store.canonical
  config : s.store.configValid → t.store.configValid
  plan : s.store.canonical → s.planKept → t.planKept

section
variable {B : ZoneSet → Prop} {Z : ZoneId → Prop} {s t u : State} {l : LineId} {v : Live}

namespace Kept

theorem refl (s : State) : Kept s s := ⟨id, id, id, id, id, id, id, id, id, fun _ => id⟩

theorem trans (h : Kept s t) (h' : Kept t u) : Kept s u where
  bounded := h'.bounded ∘ h.bounded
  accounted := h'.accounted ∘ h.accounted
  requests := h'.requests ∘ h.requests
  demands := h'.demands ∘ h.demands
  holds := h'.holds ∘ h.holds
  stopped := h'.stopped ∘ h.stopped
  guarded := h'.guarded ∘ h.guarded
  canonical := h'.canonical ∘ h.canonical
  config := h'.config ∘ h.config
  plan hc hp := h'.plan (h.canonical hc) (h.plan hc hp)

theorem foldl {α : Type} {f : State → α → State} (h : ∀ s a, Kept s (f s a)) (as : List α) (s : State) :
    Kept s (as.foldl f s) := by
  induction as generalizing s with
  | nil => exact .refl s
  | cons a rest ih => exact (h s a).trans (ih (f s a))

end Kept

/-! ### The lines as they move -/

theorem State.live_of_ctx {c : Context} (h : s.ctx l = some c) : ∃ v, s.live l = some v ∧ v.ctx = c :=
  Option.map_eq_some_iff.1 h

theorem State.started_false_iff : s.started l = false ↔ ∀ v, s.live l = some v → v.phase.started = false := by
  unfold State.started State.phase
  cases s.live l <;> simp

/-- Where every line has moved as it may, the demands and the causes are kept (R57, R68). -/
theorem demandsKept_of_moves (h : ∀ l w, t.live l = some w → ∃ v, s.live l = some v ∧ v.Moves B Z w) (hs : s.demandsKept) :
    t.demandsKept := fun l w hw => by
  obtain ⟨v, hv, hm⟩ := h l w hw
  exact hm.demand (hs l v hv)

theorem holdsMatch_of_moves (h : ∀ l w, t.live l = some w → ∃ v, s.live l = some v ∧ v.Moves B Z w) (hs : s.holdsMatch) :
    t.holdsMatch := fun l w hw => by
  obtain ⟨v, hv, hm⟩ := h l w hw
  exact hm.hold (hs l v hv)

/-- A zone guards its lines as it did, where lines move as it allows (R149). -/
theorem guardsAt_of_moves {z : ZoneId} (h : ∀ l w, t.live l = some w → ∃ v, s.live l = some v ∧ v.Moves B Z w)
    (hlatch : t.latched z = true → s.latched z = true) (hroute : (t.zoneCfg z).routing = (s.zoneCfg z).routing)
    (hB : s.latched z = true → (s.zoneCfg z).routing = .stop → ∀ zs, hasZone zs z = true → B zs)
    (hZ : s.latched z = true → (s.zoneCfg z).routing = .hold → Z z) (hs : s.guardsAt z) : t.guardsAt z := by
  intro l w hw hz hl
  obtain ⟨v, hv, hm⟩ := h l w hw
  rw [hm.zones] at hz
  rw [hroute]
  obtain ⟨hstop, hhold⟩ := hs l v hv hz (hlatch hl)
  refine ⟨fun hr => ?_, fun hr => hm.guard z (hZ (hlatch hl) hr) hz (hhold hr)⟩
  cases hw : w.phase.started with
  | false => rfl
  | true => exact ((hm.starts (hB (hlatch hl) hr _ hz) hw).symm.trans (hstop hr)).symm ▸ rfl

/-- The bound lines stay within the plan, where the holes and the history of the stages are kept (R7, R31, R61). -/
theorem planKept_of_lines (h : ∀ l w, t.live l = some w → ∃ v, s.live l = some v ∧ w.ctx.hole = v.ctx.hole ∧ w.ctx.stage = v.ctx.stage)
    (hholes : t.store.holes = s.store.holes) (hstages : StagesKept s.store.stages t.store.stages) (hs : s.planKept) :
    t.planKept := by
  have hctx {l : LineId} {c : Context} (hc : t.ctx l = some c) :
      ∃ d, s.ctx l = some d ∧ c.hole = d.hole ∧ c.stage = d.stage := by
    obtain ⟨w, hw, rfl⟩ := State.live_of_ctx hc
    obtain ⟨v, hv, hhole, hstage⟩ := h l w hw
    exact ⟨v.ctx, ctx_of_live hv, hhole, hstage⟩
  refine ⟨fun l c hc => ?_, fun l k c d hne hc hd => ?_⟩
  · obtain ⟨e, he, hhole, hstage⟩ := hctx hc
    obtain ⟨h1, h2, h3, st, hst, hplanned⟩ := hs.1 l e he
    obtain ⟨st', hst', hkept⟩ := hstages _ st hst
    rw [hhole, hstage, hholes]
    exact ⟨h1, h2, h3, st', hst', hkept hplanned⟩
  · obtain ⟨e, he, hhole, -⟩ := hctx hc
    obtain ⟨f, hf, hhole', -⟩ := hctx hd
    have hlaw := hs.2 l k e f hne he hf
    rw [hhole, hhole']
    unfold State.neighbours at hlaw ⊢
    rw [hholes]
    exact hlaw

theorem accounted_of_eq (h : ∀ k, (t.tank k).account = (s.tank k).account) (hs : s.accounted) : t.accounted := by
  have heq (k : TankId) : (t.tank k).mix = (s.tank k).mix ∧ (t.tank k).delivered = (s.tank k).delivered ∧
      (t.tank k).drawn = (s.tank k).drawn ∧ (t.tank k).waste = (s.tank k).waste ∧
      (t.tank k).contents = (s.tank k).contents := by
    have hk := h k
    simp only [Tank.account, Prod.mk.injEq] at hk
    exact hk
  refine ⟨fun k => ?_, fun k hk => ?_⟩
  · obtain ⟨-, h1, h2, h3, h4⟩ := heq k
    have hb := hs.1 k
    unfold Tank.balanced at hb ⊢
    rw [h1, h2, h3, h4]
    exact hb
  · obtain ⟨h0, -, -, -, h4⟩ := heq k
    rw [h4]
    exact hs.2 k (h0.symm.trans hk)

/-- The stage table keeps its keys. -/
theorem canonical_of_stages {p q : Store} (hq : q = { p with stages := q.stages })
    (hkeys : q.stages.map (·.1) = p.stages.map (·.1)) (hp : p.canonical) : q.canonical := by
  obtain ⟨h1, h2, ⟨hsorted, hlen, hrange⟩, h4, h5, h6⟩ := hp
  have hstages : tsorted q.stages = true ∧ q.stages.length ≤ Config.maxStages ∧
      ∀ r ∈ q.stages, 1 ≤ r.1 / 32 ∧ r.1 / 32 ≤ 9999 ∧ 1 ≤ r.1 % 32 ∧ r.1 % 32 ≤ 24 := by
    refine ⟨?_, ?_, fun r hr => ?_⟩
    · rw [tsorted_iff, ← List.pairwise_map (f := fun r : Nat × Stage => r.1) (R := (· < ·))] at hsorted ⊢
      exact hkeys ▸ hsorted
    · have hlength := congrArg List.length hkeys
      rw [List.length_map, List.length_map] at hlength
      exact hlength ▸ hlen
    · obtain ⟨r', hr', he⟩ := List.mem_map.1 (hkeys ▸ List.mem_map_of_mem (f := fun q : Nat × Stage => q.1) hr)
      rw [← he]
      exact hrange r' hr'
  rw [hq]
  exact ⟨h1, h2, hstages, h4, h5, h6⟩

/-- Actions of the lines keep every invariant, where no line starts that an open loop, a lost link or a zone stops, and the zones that
hold their lines guard them (R149, R158, R171). -/
theorem Acted.kept (h : Acted B Z s t) (hstop : s.supply.loopOpen = true ∨ s.link.state = .lost2 → ∀ zs, B zs)
    (hB : ∀ z, s.latched z = true → (s.zoneCfg z).routing = .stop → ∀ zs, hasZone zs z = true → B zs)
    (hZ : ∀ z, s.latched z = true → (s.zoneCfg z).routing = .hold → Z z) : Kept s t where
  bounded := h.bounded
  accounted := accounted_of_eq h.accounts
  requests hs := by
    refine ⟨fun l c hc => ?_, h.once hs.once, h.owned hs.owned⟩
    obtain ⟨w, hw, rfl⟩ := State.live_of_ctx hc
    obtain ⟨v, hv, hm⟩ := h.lines l w hw
    rw [hm.tank, hs.attached l v.ctx (ctx_of_live hv)]
    unfold State.lineCfg
    rw [h.store]
  demands := demandsKept_of_moves h.lines
  holds := holdsMatch_of_moves h.lines
  stopped hs hopen l := by
    rw [h.supply, h.linkState] at hopen
    refine State.started_false_iff.2 fun w hw => ?_
    obtain ⟨v, hv, hm⟩ := h.lines l w hw
    cases hp : w.phase.started with
    | false => rfl
    | true =>
      exact (hm.starts (hstop hopen _) hp).symm.trans (State.started_false_iff.1 (hs hopen l) v hv)
  guarded hs := by
    rw [State.guarded_iff] at hs ⊢
    refine fun z => guardsAt_of_moves h.lines (fun hl => ?_) ?_ (hB z) (hZ z) (hs z)
    · unfold State.latched at hl ⊢; rw [h.store] at hl; exact hl
    · unfold State.zoneCfg; rw [h.store]
  canonical := canonical_of_stages h.store h.keys
  config hc := by
    obtain ⟨h1, h2, h3, h4, h5⟩ := hc
    rw [h.store]
    exact ⟨h1, h2, h3, h4, h5⟩
  plan _ := planKept_of_lines (fun l w hw => by
    obtain ⟨v, hv, hm⟩ := h.lines l w hw
    exact ⟨v, hv, hm.hole, hm.stage⟩) (by rw [h.store]) h.stages

/-- Actions of the lines that start no line. -/
theorem Acted.kept_all (h : Acted (fun _ => True) (fun _ => True) s t) : Kept s t :=
  h.kept (fun _ _ => trivial) (fun _ _ _ _ _ => trivial) (fun _ _ _ => trivial)

/-! ### Events that leave the lines as they are -/

/-- An event that leaves every line as it is keeps what it keeps of the rest. -/
theorem Kept.of_lives (hl : ∀ l, t.live l = s.live l) (hloop : t.supply.loopOpen = true → s.supply.loopOpen = true)
    (hstate : t.link.state = .lost2 → s.link.state = .lost2) (hbounded : s.bounded → t.bounded)
    (haccounted : s.accounted → t.accounted) (hqueues : s.queuesOwned → s.queuesOnce → t.queuesOwned ∧ t.queuesOnce)
    (htank : ∀ l v, s.live l = some v → (t.lineCfg l).tank = (s.lineCfg l).tank)
    (hguards : ∀ z, s.guardsAt z → t.guardsAt z)
    (hcanonical : s.store.canonical → t.store.canonical) (hconfig : s.store.configValid → t.store.configValid)
    (hplan : s.store.canonical → s.planKept → t.planKept) : Kept s t where
  bounded := hbounded
  accounted := haccounted
  requests hs := by
    obtain ⟨howned, honce⟩ := hqueues hs.owned hs.once
    refine ⟨fun l c hc => ?_, honce, howned⟩
    obtain ⟨v, hv, rfl⟩ := State.live_of_ctx hc
    rw [hl] at hv
    rw [htank l v hv]
    exact hs.attached l v.ctx (ctx_of_live hv)
  demands hs l v hv := hs l v ((hl l).symm.trans hv)
  holds hs l v hv := hs l v ((hl l).symm.trans hv)
  stopped hs hopen l := by
    have hsame : t.started l = s.started l := by unfold State.started State.phase; rw [hl]
    rw [hsame]
    exact hs (hopen.imp hloop hstate) l
  guarded hs := State.guarded_iff.2 fun z => hguards z (State.guarded_iff.1 hs z)
  canonical := hcanonical
  config := hconfig
  plan := hplan

/-- A zone guards its lines as it did, where the lines, its latch and its routing are as they were. -/
theorem guardsAt_of_eq {z : ZoneId} (hl : ∀ l, t.live l = s.live l) (hlatch : t.latched z = true → s.latched z = true)
    (hroute : (t.zoneCfg z).routing = (s.zoneCfg z).routing) (hs : s.guardsAt z) : t.guardsAt z := by
  intro l v hv hz hz'
  rw [hroute]
  exact hs l v ((hl l).symm.trans hv) hz (hlatch hz')

/-- A write of the link that leaves it in service. -/
theorem Kept.link (s : State) (k : Link) (hstate : k.state = .lost2 → s.link.state = .lost2)
    (hbounded : s.bounded → State.bounded { s with link := k }) : Kept s { s with link := k } :=
  .of_lives (fun _ => rfl) id hstate hbounded id (fun h h' => ⟨h, h'⟩) (fun _ _ _ => rfl) (fun _ => id) id id fun _ => id

/-- A write of the store that leaves the lines, the latches and the routings as they are. -/
theorem Kept.modStore (s : State) (f : Store → Store) (hlines : (f s.store).lineCfg = s.store.lineCfg := by rfl)
    (hlatch : (f s.store).tripLatch = s.store.tripLatch := by rfl)
    (hzone : (f s.store).zoneCfg = s.store.zoneCfg := by rfl)
    (hcanonical : s.store.canonical → (f s.store).canonical) (hconfig : s.store.configValid → (f s.store).configValid)
    (hplan : s.store.canonical → s.planKept → (s.modStore f).planKept) : Kept s (s.modStore f) :=
  .of_lives (fun _ => rfl) id id id id (fun h h' => ⟨h, h'⟩)
    (fun l _ _ => congrArg (fun cfg : Vector LineCfg 6 => cfg[l].tank) hlines)
    (fun z => guardsAt_of_eq (fun _ => rfl) (fun h => (congrArg (fun latches : Vector Bool 4 => latches[z]) hlatch).symm.trans h)
      (congrArg (fun cfg : Vector ZoneCfg 4 => cfg[z].routing) hzone)) hcanonical hconfig hplan

/-- A change of what no invariant reads. -/
theorem Kept.of_eq (hl : ∀ l, t.live l = s.live l := by intro; rfl) (hloop : t.supply.loopOpen = s.supply.loopOpen := by rfl)
    (hlink : t.link = s.link := by rfl) (hstore : t.store = s.store := by rfl) (htanks : t.tanks = s.tanks := by rfl) :
    Kept s t := by
  have htank (k : TankId) : t.tank k = s.tank k := by unfold State.tank; rw [htanks]
  refine .of_lives hl (fun h => hloop.symm.trans h) (fun h => by rw [← hlink]; exact h) (fun h => ?_)
    (accounted_of_eq fun k => by rw [htank]) (fun h h' => ⟨fun k q hq => ?_, fun k => ?_⟩) (fun l _ _ => ?_) (fun z => ?_)
    (fun h => by rw [hstore]; exact h) (fun h => by rw [hstore]; exact h) fun _ => ?_
  · unfold State.bounded at h ⊢; rw [hlink]; exact h
  · rw [htank] at hq
    obtain ⟨v, hv, hrest⟩ := h k q hq
    exact ⟨v, (hl q.1).trans hv, hrest⟩
  · rw [htank]; exact h' k
  · unfold State.lineCfg; rw [hstore]
  · exact guardsAt_of_eq hl (fun h => by unfold State.latched at h ⊢; rw [hstore] at h; exact h)
      (by unfold State.zoneCfg; rw [hstore])
  · exact planKept_of_lines (fun l w hw => ⟨w, (hl l).symm.trans hw, rfl, rfl⟩) (by rw [hstore]) (by rw [hstore]; exact .refl _)

theorem Kept.report (s : State) (r : Report) : Kept s (s.report r) := (Acted.report s r).kept_all

end

end Sys2Proof.Machine
end

section
/-! PROOFS. The events of the lines, the link, the supply and the clock keep every invariant. -/

namespace Sys2Proof.Machine

section
variable {B : ZoneSet → Prop} {Z : ZoneId → Prop} {s t u : State} {l : LineId} {v : Live}

/-! ### The events of a line -/

theorem evSample_kept (l : LineId) (current : Nat) (s : State) : Kept s (evSample l current s) := (evSample_acted l current s).kept_all

theorem evHoldTimer_kept (l : LineId) (s : State) : Kept s (evHoldTimer l s) := (evHoldTimer_acted l s).kept_all

theorem evTankNotice_kept (l : LineId) (s : State) : Kept s (evTankNotice l s) := (evTankNotice_acted l s).kept_all

theorem evLocalKey_kept (l : LineId) (on : Bool) (s : State) : Kept s (evLocalKey l on s) :=
  (evLocalKey_acted (B := fun _ => True) l on s).kept (fun _ _ => trivial) (fun _ _ _ _ _ => trivial) fun _ h h' => ⟨h, h'⟩

theorem evPulse_kept (l : LineId) (s : State) : Kept s (evPulse l s) := by
  have hstep := (LineStep.refl s l).setLine { s.line l with fe := (s.line l).fe.pulse s.supply.now }
  exact (hstep.acted (fun w hw => ⟨w, hw, .refl w⟩) fun v hv hd he _ => ⟨v, hv, rfl, hd, he⟩).kept_all

/-! ### The link -/

theorem superviseFrame_kept (s : State) : Kept s (superviseFrame s) := by
  obtain ⟨k, hk, hbounded, hact⟩ := superviseFrame_acted s
  exact (Kept.link s k (fun h => nomatch hk.symm.trans h) hbounded).trans hact.kept_all

theorem evT1Expiry_kept (s : State) : Kept s (evT1Expiry s) := by
  by_cases h : s.link.state = .ok
  · obtain ⟨k, hk, hbounded, hact⟩ := evT1Expiry_acted s h
    exact (Kept.link s k (fun h => nomatch hk.symm.trans h) hbounded).trans hact.kept_all
  · unfold evT1Expiry
    rw [if_neg h]
    exact .refl s

/-- Actions that leave no line started keep every invariant, however the loop and the link stand. -/
theorem Acted.kept_stopped {sup : Supply} {k : Link} (h : Acted (fun _ => True) (fun _ => True) { s with supply := sup, link := k } t)
    (hbounded : s.bounded → State.bounded { s with supply := sup, link := k }) (hstopped : ∀ l, t.started l = false) : Kept s t :=
  have hk := h.kept_all
  { bounded := fun hs => hk.bounded (hbounded hs)
    accounted := fun hs => hk.accounted hs
    requests := fun hs => hk.requests ⟨hs.attached, hs.once, hs.owned⟩
    demands := fun hs => hk.demands hs
    holds := fun hs => hk.holds hs
    stopped := fun _ _ => hstopped
    guarded := fun hs => hk.guarded hs
    canonical := fun hs => hk.canonical hs
    config := fun hs => hk.config hs
    plan := fun hc hs => hk.plan hc hs }

theorem Acted.started (h : Acted (fun _ => True) Z s t) (hs : s.started l = false) : t.started l = false :=
  State.started_false_iff.2 fun w hw => by
    obtain ⟨v, hv, hm⟩ := h.lines l w hw
    cases hp : w.phase.started with
    | false => rfl
    | true => exact (hm.starts trivial hp).symm.trans (State.started_false_iff.1 hs v hv)

theorem drainLine_started (l : LineId) (o : PassOutcome) (s : State) : (drainLine l o s).started l = false := by
  refine State.started_false_iff.2 fun w hw => ?_
  cases hv : s.live l with
  | none =>
    unfold drainLine at hw
    rw [hv] at hw
    exact absurd (hv.symm.trans hw) nofun
  | some v =>
    by_cases hp : v.phase.started = true
    · obtain rfl := Option.some.inj ((drainLine_step hv hp o).live.symm.trans hw)
      rfl
    · unfold drainLine at hw
      rw [hv] at hw
      dsimp only at hw
      rw [if_neg hp] at hw
      obtain rfl := Option.some.inj (hv.symm.trans hw)
      exact Bool.eq_false_iff.2 hp

theorem drainLines_started (o : PassOutcome) (ls : List LineId) (s : State) (hl : l ∈ ls) :
    (ls.foldl (fun s l => drainLine l o s) s).started l = false := by
  induction ls generalizing s with
  | nil => cases hl
  | cons k rest ih =>
    rcases List.mem_cons.1 hl with rfl | hl
    · exact (Acted.foldl (Z := fun _ => True) (fun s l => drainLine_acted l o s) rest _).started (drainLine_started l o s)
    · exact ih _ hl

theorem evT2Expiry_kept (s : State) : Kept s (evT2Expiry s) := by
  by_cases h : s.link.state = .lost1
  · obtain ⟨k, hk, hbounded, hact⟩ := evT2Expiry_acted s h
    refine hact.kept_stopped hbounded fun l => ?_
    unfold evT2Expiry
    rw [if_pos h]
    exact drainLines_started .link allLines _ (mem_allLines l)
  · unfold evT2Expiry
    rw [if_neg h]
    exact .refl s

/-! ### The supply (R155 to R159) -/

theorem evLoopOpen_kept (s : State) : Kept s (evLoopOpen s) := by
  cases h : s.supply.loopOpen with
  | true => unfold evLoopOpen; rw [h]; exact .refl s
  | false =>
    refine (evLoopOpen_acted s h).kept_stopped id fun l => ?_
    unfold evLoopOpen
    rw [if_neg (by rw [h]; nofun)]
    exact drainLines_started .estop allLines _ (mem_allLines l)

theorem evBattery_kept (low : Bool) (s : State) : Kept s (evBattery low s) := by
  unfold evBattery supplyReport
  split
  · exact .refl s
  · have hset : Kept s { s with supply := { s.supply with batteryLow := low } } := .of_eq
    exact hset.trans (.report ..)

theorem evLoopClosed_kept (s : State) : Kept s (evLoopClosed s) := by
  unfold evLoopClosed supplyReport
  split
  · have hset : Kept s { s with supply := { s.supply with loopOpen := false } } :=
      .of_lives (fun _ => rfl) nofun id id id (fun h h' => ⟨h, h'⟩) (fun _ _ _ => rfl) (fun _ => id) id id fun _ => id
    exact hset.trans (.report ..)
  · exact .refl s

/-- A part without lines, with empty tanks and no waiting message, over this store. -/
theorem Kept.of_idle (hlive : ∀ l, t.live l = none) (htank : ∀ k, t.tank k = Tank.fresh) (hbounded : t.bounded)
    (hcanonical : s.store.canonical → t.store.canonical) (hconfig : s.store.configValid → t.store.configValid) : Kept s t := by
  have idle {l : LineId} {v : Live} : t.live l ≠ some v := fun h => nomatch (hlive l).symm.trans h
  have noCtx {l : LineId} {c : Context} : t.ctx l ≠ some c := fun h => by
    obtain ⟨v, hv, -⟩ := State.live_of_ctx h
    exact idle hv
  exact
    { bounded := fun _ => hbounded
      accounted := fun _ =>
        ⟨fun k => by rw [htank]; exact ⟨rfl, Nat.zero_le _⟩, fun k _ => by rw [htank]; rfl⟩
      requests := fun _ =>
        ⟨fun l c h => absurd h noCtx, fun k => by rw [htank]; exact List.nodup_nil,
          fun k q h => by rw [htank] at h; cases h⟩
      demands := fun _ l v h => absurd h idle
      holds := fun _ l v h => absurd h idle
      stopped := fun _ _ l => State.started_false_iff.2 fun v h => absurd h idle
      guarded := fun _ l v z h => absurd h idle
      canonical := hcanonical
      config := hconfig
      plan := fun _ _ => ⟨fun l c h => absurd h noCtx, fun l k c d _ h => absurd h noCtx⟩ }

theorem loseSupply_kept (s : State) : Kept s (loseSupply s) :=
  .of_idle (fun l => by simp [State.live, State.line, loseSupply, Line.fresh]) (fun k => by simp [State.tank, loseSupply])
    ⟨Nat.zero_le _, Nat.zero_le _⟩ id id

theorem dflt_canonical (latches : Vector Bool 4) : (Store.dflt latches).canonical := by
  obtain ⟨h1, h2, h3, h4, h5, h6⟩ := resetStore_canonical
  exact ⟨h1, h2, h3, h4, h5, h6⟩

theorem dflt_configValid (latches : Vector Bool 4) : (Store.dflt latches).configValid := by
  obtain ⟨h1, h2, h3, h4, h5⟩ := resetStore_configValid
  exact ⟨h1, h2, h3, h4, h5⟩

theorem powered_canonical (p : Store) (lost : Bool) (count : Nat) (h : p.canonical) : (p.powered lost count).canonical := by
  unfold Store.powered
  split
  · exact dflt_canonical _
  · refine canonical_of_stages rfl ?_ h
    rw [List.map_map]
    rfl

theorem powered_configValid (p : Store) (lost : Bool) (count : Nat) (h : p.configValid) : (p.powered lost count).configValid := by
  unfold Store.powered
  split
  · exact dflt_configValid _
  · obtain ⟨h1, h2, h3, h4, h5⟩ := h
    exact ⟨h1, h2, h3, h4, h5⟩

theorem evPowerOn_kept (low lost opened : Bool) (keys : LineSet) (s : State) : Kept s (evPowerOn low lost opened keys s) := by
  unfold evPowerOn supplyReport
  refine .trans (t := powerState (s.store.powered lost s.freeCount) low lost opened keys (s.freeCount + 1) s.pending) ?_ (.report ..)
  refine .of_idle (fun l => ?_) (fun k => by simp [State.tank, powerState]) ⟨Nat.zero_le _, Nat.zero_le _⟩
    (powered_canonical _ _ _) (powered_configValid _ _ _)
  simp [State.live, State.line, powerState, Line.fresh]

/-! ### The clock (R71, R154) -/

theorem HoldSet.countDown_isEmpty (h : HoldSet) : h.countDown.isEmpty = h.isEmpty := by
  unfold HoldSet.countDown HoldSet.isEmpty
  cases h.site <;> rfl

/-- A line under the clock moves its timers alone. -/
theorem Live.Moves.countDown (v : Live) : v.Moves B Z { v with ctx := { v.ctx with hold := v.ctx.hold.countDown } } where
  hole := rfl
  stage := rfl
  tank := rfl
  zones := rfl
  demand := id
  hold h := by
    unfold holdMatches
    dsimp only
    rw [HoldSet.countDown_isEmpty]
    exact h
  starts _ := id
  guard _ _ _ := id

theorem tick_live (hs : s.supply.failed = false) (l : LineId) :
    (tick s).live l = (s.live l).map fun v => { v with ctx := { v.ctx with hold := v.ctx.hold.countDown } } := by
  unfold tick
  rw [hs]
  simp [State.live, State.line, Line.countDown]

theorem tick_kept (s : State) : Kept s (tick s) := by
  cases hs : s.supply.failed with
  | true => unfold tick; rw [hs]; exact .refl s
  | false =>
    have htick : tick s = { s with
        lines := s.lines.map Line.countDown, scan := (tick s).scan, link := (tick s).link, supply := (tick s).supply } := by
      unfold tick; rw [hs]; rfl
    have hlink : (tick s).link.state = s.link.state ∧ (tick s).link.answers = s.link.answers ∧
        (tick s).link.reports = s.link.reports ∧ (tick s).supply.loopOpen = s.supply.loopOpen := by
      unfold tick; rw [hs]; exact ⟨rfl, rfl, rfl, rfl⟩
    have hlive := tick_live hs
    obtain ⟨hstate, hanswers, hreports, hloop⟩ := hlink
    generalize tick s = t at htick hstate hanswers hreports hloop hlive
    have hset : Kept s { s with scan := t.scan, link := t.link, supply := t.supply } :=
      .of_lives (fun _ => rfl) (fun h => hloop.symm.trans h) (fun h => hstate.symm.trans h)
        (fun h => ⟨by rw [hanswers]; exact h.1, by rw [hreports]; exact h.2⟩) id (fun h h' => ⟨h, h'⟩) (fun _ _ _ => rfl)
        (fun _ => id) id id fun _ => id
    have hact : Acted (fun _ => True) (fun _ => True) { s with scan := t.scan, link := t.link, supply := t.supply } t :=
      { lines := fun l w hw => by
          rw [hlive] at hw
          obtain ⟨v, hv, rfl⟩ := Option.map_eq_some_iff.1 hw
          exact ⟨v, hv, .countDown v⟩
        supply := rfl
        linkState := rfl
        store := by rw [htick]
        keys := by rw [htick]
        stages := by rw [htick]; exact .refl _
        accounts := fun k => by rw [htick]; rfl
        owned := fun h k q hq => by
          have hq' : q ∈ (s.tank k).queue := by rw [htick] at hq; exact hq
          obtain ⟨v, hv, hrest⟩ := h k q hq'
          exact ⟨_, (hlive q.1).trans (congrArg (Option.map _) hv), hrest⟩
        once := fun h k => by rw [htick]; exact h k
        bounded := id }
    exact hset.trans hact.kept_all

end

end Sys2Proof.Machine
end

section
/-! PROOFS. The requests of the plan store keep every invariant (R1 to R20). -/

namespace Sys2Proof.Machine

/-- What a request leaves keeps every invariant. -/
def KeptBy (s : State) (p : State × Reply) : Prop := Kept s p.1

section
variable {s t : State} {r : Result} {body : List Byte}

theorem KeptBy.deny : KeptBy s (deny s r) := .refl s

theorem KeptBy.answer {a : Reply} : KeptBy s (s, a) := .refl s

theorem KeptBy.accept (h : Kept s t) : KeptBy s (accept t body) := h

theorem KeptBy.adjusted {b : Bool} (h : Kept s t) : KeptBy s (acceptAdjusted t b body) := h

theorem KeptBy.ite {c : Prop} [Decidable c] {p q : State × Reply} (hp : c → KeptBy s p) (hq : ¬c → KeptBy s q) :
    KeptBy s (if c then p else q) := by
  split
  · next h => exact hp h
  · next h => exact hq h

end

/-! ### Tables -/

section
variable {α : Type} {p : Table α} {lo hi k : Nat}

theorem keysIn_tput (h : keysIn lo hi p) (hk : lo ≤ k ∧ k ≤ hi) (x : α) : keysIn lo hi (tput p k x) := fun q hq => by
  rcases tput_keys p k x q hq with rfl | hq
  · exact hk
  · exact h q hq

theorem tmod_keys (p : Table α) (k : Nat) (f : α → α) : (tmod p k f).map (·.1) = p.map (·.1) := by
  rw [tmod, List.map_map]
  exact List.map_congr_left fun q _ => by dsimp only [Function.comp]; split <;> rfl

theorem keysIn_tmod (h : keysIn lo hi p) (k : Nat) (f : α → α) : keysIn lo hi (tmod p k f) := fun q hq => by
  obtain ⟨q', hq', he⟩ := List.mem_map.1 (tmod_keys p k f ▸ List.mem_map_of_mem (f := fun r : Nat × α => r.1) hq)
  rw [← he]
  exact h q' hq'

theorem keysIn_filter (h : keysIn lo hi p) (f : Nat × α → Bool) : keysIn lo hi (p.filter f) := fun q hq =>
  h q (List.mem_filter.1 hq).1

/-- A write under a key that a sorted table holds replaces its record. -/
theorem tput_length_found (h : tsorted p = true) (hk : (tfind p k).isSome = true) (x : α) : (tput p k x).length = p.length := by
  rw [tsorted_iff] at h
  induction p with
  | nil => cases hk
  | cons q rest ih =>
    obtain ⟨j, y⟩ := q
    obtain ⟨hlow, hrest⟩ := List.pairwise_cons.1 h
    unfold tput
    split_ifs with h1 h2
    · obtain ⟨z, hz⟩ := Option.isSome_iff_exists.1 hk
      have hmem := tfind_mem _ _ _ hz
      rcases List.mem_cons.1 hmem with he | hmem
      · cases he; exact absurd h1 (lt_irrefl _)
      · exact absurd (hlow _ hmem) (Nat.not_lt.2 h1.le)
    · rfl
    · have hfound : (tfind rest k).isSome = true := by
        rw [tfind, if_neg fun e => h2 e.symm] at hk; exact hk
      rw [List.length_cons, ih hrest hfound, List.length_cons]

theorem tput_length_new (hk : tfind p k = none) (x : α) : (tput p k x).length = p.length + 1 := by
  have h := tput_length p k x
  rw [hk] at h
  exact h

end

/-! ### The plan of the bound lines -/

section
variable {s t : State}

/-- The bound lines stay within the plan, where their holes keep their neighbours and their stages keep their history. -/
theorem planKept_of_bound (hctx : ∀ l, t.ctx l = s.ctx l)
    (hholes : ∀ l c h, s.ctx l = some c → tfind s.store.holes c.hole = some h →
      ∃ h', tfind t.store.holes c.hole = some h' ∧ h'.neighbours = h.neighbours)
    (hstages : ∀ l c st, s.ctx l = some c → s.stageRec c.hole c.stage = some st → st.status ≠ .planned →
      ∃ st', t.stageRec c.hole c.stage = some st' ∧ st'.status ≠ .planned) (hs : s.planKept) : t.planKept := by
  have hfound (l : LineId) (c : Context) (hc : s.ctx l = some c) : ∃ h h', tfind s.store.holes c.hole = some h ∧
      tfind t.store.holes c.hole = some h' ∧ h'.neighbours = h.neighbours := by
    obtain ⟨h, hh⟩ := Option.isSome_iff_exists.1 (hs.1 l c hc).1
    obtain ⟨h', hh', hn⟩ := hholes l c h hc hh
    exact ⟨h, h', hh, hh', hn⟩
  refine ⟨fun l c hc => ?_, fun l k c d hne hc hd => ?_⟩
  · rw [hctx] at hc
    obtain ⟨-, h2, h3, st, hst, hplanned⟩ := hs.1 l c hc
    obtain ⟨h, h', -, hh', -⟩ := hfound l c hc
    exact ⟨by rw [hh']; rfl, h2, h3, hstages l c st hc hst hplanned⟩
  · rw [hctx] at hc hd
    obtain ⟨hne', hnot⟩ := hs.2 l k c d hne hc hd
    obtain ⟨h, h', hh, hh', hn⟩ := hfound l c hc
    obtain ⟨g, g', hg, hg', hn'⟩ := hfound k d hd
    refine ⟨hne', ?_⟩
    unfold State.neighbours at hnot ⊢
    rw [hh, hg] at hnot
    rw [hh', hg']
    dsimp only at hnot ⊢
    rw [hn, hn']
    exact hnot

/-- A write of tables that hold neither holes nor stages. -/
theorem Kept.modTables (s : State) (f : Store → Store) (hcanonical : s.store.canonical → (f s.store).canonical)
    (hconfig : s.store.configValid → (f s.store).configValid) (hholes : (f s.store).holes = s.store.holes := by rfl)
    (hstages : (f s.store).stages = s.store.stages := by rfl)
    (hlines : (f s.store).lineCfg = s.store.lineCfg := by rfl) (hlatch : (f s.store).tripLatch = s.store.tripLatch := by rfl)
    (hzone : (f s.store).zoneCfg = s.store.zoneCfg := by rfl) : Kept s (s.modStore f) :=
  .modStore s f hlines hlatch hzone hcanonical hconfig fun _ =>
    planKept_of_bound (fun _ => rfl) (fun _ c h _ hh => ⟨h, (congrArg (tfind · c.hole) hholes).trans hh, rfl⟩)
      (fun _ c st _ hst hp => ⟨st, (congrArg (tfind · (stageKey c.hole c.stage)) hstages).trans hst, hp⟩)

/-! ### Sections and holes -/

theorem reqDefsec_kept (sec : Nat) : KeptBy s (reqDefsec sec s) := by
  refine .ite (fun _ => .deny) fun hr => .ite (fun _ => .accept (.refl s)) fun _ => .accept (.modTables s _ (fun h => ?_) ?_)
  · have hkey := inRange_iff.1 (by simpa using hr)
    exact { h with secs := ⟨tput_sorted _ _ _ h.secs.1, keysIn_tput h.secs.2 hkey _⟩ }
  · exact fun ⟨h1, h2, h3, h4, h5⟩ => ⟨h1, h2, h3, h4, h5⟩

theorem boundOn_isSome {l : LineId} {c : Context} (h : s.ctx l = some c) : (s.boundOn c.hole).isSome = true := by
  cases hb : s.boundOn c.hole with
  | some k => rfl
  | none => exact absurd rfl (boundOn_none_iff.1 hb l c h)

/-- A record of a hole that is not bound is written (R5). -/
theorem Kept.writeHole (s : State) (hole : Nat) (h : Hole) (hfree : ∀ l c, s.ctx l = some c →
      (tfind s.store.holes c.hole).isSome = true → c.hole ≠ hole) (hkey : 1 ≤ hole ∧ hole ≤ 9999)
    (hroom : tsorted s.store.holes = true → s.store.holes.length ≤ Config.maxHoles →
      (tput s.store.holes hole h).length ≤ Config.maxHoles) :
    Kept s (s.modStore (fun p => { p with holes := tput p.holes hole h })) := by
  refine .modStore s _ (hcanonical := fun hc => ?_) (hconfig := fun ⟨h1, h2, h3, h4, h5⟩ => ⟨h1, h2, h3, h4, h5⟩)
    (hplan := fun _ => planKept_of_bound (fun _ => rfl) (fun l c g hc hg => ?_) fun _ _ st _ hst hp => ⟨st, hst, hp⟩)
  · obtain ⟨hsorted, hkeys, hlen⟩ := hc.holes
    exact { hc with holes := ⟨tput_sorted _ _ _ hsorted, keysIn_tput hkeys hkey _, hroom hsorted hlen⟩ }
  · refine ⟨g, ?_, rfl⟩
    show tfind (tput s.store.holes hole h) c.hole = some g
    rw [tfind_tput, if_neg (hfree l c hc (by rw [hg]; rfl))]
    exact hg

theorem storeHole_kept (hole : Nat) (h : Hole) (hkey : 1 ≤ hole ∧ hole ≤ 9999) : KeptBy s (storeHole hole h s) := by
  unfold storeHole
  refine .ite (fun _ => .deny) fun _ => ?_
  split
  · next old hold =>
    refine .ite (fun _ => .deny) fun hfree => .ite (fun _ => .deny) fun _ => .accept (.writeHole s hole h ?_ hkey fun hs hlen => ?_)
    · rintro l c hc - rfl
      exact hfree (boundOn_isSome hc)
    · rw [tput_length_found hs (by rw [hold]; rfl)]
      exact hlen
  · next hnew =>
    refine .ite (fun _ => .deny) fun hroom => .accept (.writeHole s hole h ?_ hkey fun _ _ => ?_)
    · rintro l c - hfound rfl
      rw [hnew] at hfound
      cases hfound
    · rw [tput_length_new hnew]
      exact Nat.lt_of_not_le hroom

theorem reqDefhole_kept (hole sec order : Nat) (collar : Int) (neighbours : List Nat) (dfltSet zoneMask : Nat)
    (groundwater : Option Nat) (locked : Nat) :
    KeptBy s (reqDefhole hole sec order collar neighbours dfltSet zoneMask groundwater locked s) := by
  unfold reqDefhole
  split
  · next hr _ =>
    refine storeHole_kept hole _ (inRange_iff.1 ?_)
    simp only [holeInRange, Bool.and_eq_true] at hr
    simp only [hr]
  · exact .deny

/-! ### Stages -/

theorem reqDefstage_kept (hole stage top bottom length set : Nat) : KeptBy s (reqDefstage hole stage top bottom length set s) := by
  unfold reqDefstage
  refine .ite (fun _ => .deny) fun hr => .ite (fun _ => .deny) fun _ => .ite (fun _ => .deny) fun hfree => ?_
  have hkey : (1 ≤ hole ∧ hole ≤ 9999) ∧ 1 ≤ stage ∧ stage ≤ 24 := by
    simp only [Bool.not_eq_true, Bool.not_eq_false', stageInRange, Bool.and_eq_true, inRange_iff] at hr
    exact ⟨hr.1.1.1.1.1.1, hr.1.1.1.1.1.2⟩
  split
  · next old hold =>
    refine .ite (fun _ => .deny) fun _ => .ite (fun _ => .deny) fun _ => .accept (Acted.kept_all ?_)
    exact .modStage s hole stage _ fun _ h => h
  · next hnew =>
    refine .ite (fun _ => .deny) fun _ => .ite (fun _ => .deny) fun hroom => .accept (.modStore s _ (hcanonical := fun hc => ?_)
      (hconfig := fun ⟨h1, h2, h3, h4, h5⟩ => ⟨h1, h2, h3, h4, h5⟩)
      (hplan := fun _ => planKept_of_bound (fun _ => rfl) (fun _ _ g _ hg => ⟨g, hg, rfl⟩) fun l c st hc hst hp => ?_))
    · obtain ⟨hsorted, -, hkeys⟩ := hc.stages
      refine { hc with stages := ⟨tput_sorted _ _ _ hsorted, ?_, fun q hq => ?_⟩ }
      · rw [tput_length_new hnew]
        exact Nat.lt_of_not_le hroom
      · rcases tput_keys _ _ _ q hq with rfl | hq
        · show 1 ≤ stageKey hole stage / 32 ∧ _
          unfold stageKey
          omega
        · exact hkeys q hq
    · refine ⟨st, ?_, hp⟩
      show tfind (tput s.store.stages (stageKey hole stage) _) (stageKey c.hole c.stage) = some st
      rw [tfind_tput, if_neg]
      · exact hst
      · intro he
        have hst' : tfind s.store.stages (stageKey c.hole c.stage) = some st := hst
        rw [he] at hst'
        exact absurd (hnew.symm.trans hst') nofun

/-! ### Limit sets, bands and mixes -/

theorem pushLimits_kept (set : Nat) (old new : Limits) (s : State) : Kept s (pushLimits set old new s) := by
  refine Acted.kept_all (.foldl (fun s l => modCtx_acted l _ s fun v _ => ?_) _ _)
  split
  · exact .of_eq
  · exact .refl v

theorem pushBands_kept (s : State) : Kept s (pushBands s) := by
  refine Acted.kept_all (.foldl (fun s l => modCtx_acted l _ s fun v _ => ?_) _ _)
  split
  · exact .of_eq
  · exact .refl v

theorem Kept.writeSet (s : State) (set : Nat) (x : LimitSet) (hkey : 1 ≤ set ∧ set ≤ 24) :
    Kept s (s.modStore (fun p => { p with sets := tput p.sets set x })) :=
  .modTables s _ (fun h => { h with sets := ⟨tput_sorted _ _ _ h.sets.1, keysIn_tput h.sets.2 hkey _⟩ })
    fun ⟨h1, h2, h3, h4, h5⟩ => ⟨h1, h2, h3, h4, h5⟩

theorem storeLimits_kept (set : Nat) (new : Limits) (ladder : List LadderStep) (hkey : 1 ≤ set ∧ set ≤ 24) :
    KeptBy s (storeLimits set new ladder s) := by
  unfold storeLimits
  refine .ite (fun _ => .deny) fun _ => ?_
  split
  · exact .accept (.writeSet s set _ hkey)
  · refine .ite (fun _ => .deny) fun _ => ?_
    dsimp only
    exact .ite (fun _ => .accept ((Kept.writeSet s set _ hkey).trans (pushLimits_kept ..)))
      fun _ => .accept (.writeSet s set _ hkey)

theorem reqDefband_kept (band : Nat) (upper lower : Int) (mask cap : Nat) : KeptBy s (reqDefband band upper lower mask cap s) := by
  refine .ite (fun _ => .deny) fun hr => .accept (.trans (.modTables s _ (fun h => ?_) ?_) (pushBands_kept _))
  · have hkey : 1 ≤ band ∧ band ≤ 4 := by
      simp only [Bool.not_eq_true, Bool.not_eq_false', bandInRange, Bool.and_eq_true, inRange_iff] at hr
      simp only [hr, and_self]
    refine { h with bands := ?_ }
    dsimp only
    split
    · exact ⟨filter_sorted _ _ h.bands.1, keysIn_filter h.bands.2 _⟩
    · exact ⟨tput_sorted _ _ _ h.bands.1, keysIn_tput h.bands.2 hkey _⟩
  · exact fun ⟨h1, h2, h3, h4, h5⟩ => ⟨h1, h2, h3, h4, h5⟩

theorem reqDefmix_kept (mix ratio density : Nat) : KeptBy s (reqDefmix mix ratio density s) := by
  refine .ite (fun _ => .deny) fun hr => .ite (fun _ => .deny) fun _ => .accept (.modTables s _ (fun h => ?_) ?_)
  · have hkey : 1 ≤ mix ∧ mix ≤ 8 := by
      simp only [Bool.not_eq_true, Bool.not_eq_false', Bool.and_eq_true, inRange_iff] at hr
      exact hr.1.1
    exact { h with mixes := ⟨tput_sorted _ _ _ h.mixes.1, keysIn_tput h.mixes.2 hkey _⟩ }
  · exact fun ⟨h1, h2, h3, h4, h5⟩ => ⟨h1, h2, h3, h4, h5⟩

/-! ### Locks and removal -/

theorem setLock_kept (kind number : Nat) (lk : Bool) : KeptBy s (setLock kind number lk s) := by
  unfold setLock
  split
  · refine .ite (fun _ => .deny) fun hr => .ite (fun _ => .deny) fun _ => .accept (.modTables s _ (fun h => ?_) ?_)
    · have hkey := inRange_iff.1 (by simpa using hr)
      exact { h with secs := ⟨tput_sorted _ _ _ h.secs.1, keysIn_tput h.secs.2 hkey _⟩ }
    · exact fun ⟨h1, h2, h3, h4, h5⟩ => ⟨h1, h2, h3, h4, h5⟩
  · refine .ite (fun _ => .deny) fun hr => .ite (fun _ => .deny) fun _ => .accept (.modStore s _ (hcanonical := fun h => ?_)
      (hconfig := fun ⟨h1, h2, h3, h4, h5⟩ => ⟨h1, h2, h3, h4, h5⟩)
      (hplan := fun _ => planKept_of_bound (fun _ => rfl) (fun _ c g _ hg => ?_) fun _ _ st _ hst hp => ⟨st, hst, hp⟩))
    · obtain ⟨hsorted, hkeys, hlen⟩ := h.holes
      refine { h with holes := ⟨tmod_sorted _ number (fun h => { h with locked := lk }) hsorted,
        keysIn_tmod hkeys number (fun h => { h with locked := lk }), ?_⟩ }
      rw [tmod_length]
      exact hlen
    · show ∃ h', tfind (tmod s.store.holes number (fun h => { h with locked := lk })) c.hole = some h' ∧ h'.neighbours = g.neighbours
      rw [tfind_tmod, hg]
      split <;> exact ⟨_, rfl, rfl⟩
  · exact .deny

theorem hasHistory_of_stage {hole stage : Nat} {st : Stage} (hr : 1 ≤ stage ∧ stage ≤ 24)
    (hst : s.stageRec hole stage = some st) (hp : st.status ≠ .planned) : s.hasHistory hole = true := by
  have hmem := tfind_mem _ _ _ (show tfind s.store.stages (stageKey hole stage) = some st from hst)
  have hkey : stageKey hole stage / 32 = hole := by unfold stageKey; omega
  simp only [State.hasHistory, State.stagesOf, List.any_map, List.any_filter, List.any_eq_true]
  refine ⟨_, hmem, ?_⟩
  simp [hkey, hp]

theorem reqPurge_kept (sec : Nat) : KeptBy s (reqPurge sec s) := by
  refine .ite (fun _ => .deny) fun _ => .ite (fun _ => .deny) fun _ => .accept (.modStore s _ (hcanonical := fun h => ?_)
    (hconfig := fun ⟨h1, h2, h3, h4, h5⟩ => ⟨h1, h2, h3, h4, h5⟩) (hplan := fun hcanonical hs => ?_))
  · obtain ⟨hsorted, hkeys, hlen⟩ := h.holes
    obtain ⟨hsorted', hlen', hkeys'⟩ := h.stages
    refine { h with
      holes := ⟨filter_sorted _ _ hsorted, keysIn_filter hkeys _, (List.length_filter_le ..).trans hlen⟩
      stages := ⟨filter_sorted _ _ hsorted', (List.length_filter_le ..).trans hlen', fun q hq => hkeys' q (List.mem_filter.1 hq).1⟩
      secs := ?_ }
    dsimp only
    split
    · exact ⟨filter_sorted _ _ h.secs.1, keysIn_filter h.secs.2 _⟩
    · exact h.secs
  · have hstays (l : LineId) (c : Context) (hc : s.ctx l = some c) : (s.purged sec).contains c.hole = false := by
      obtain ⟨-, h2, h3, st, hst, hp⟩ := hs.1 l c hc
      rw [Bool.eq_false_iff]
      intro hgone
      obtain ⟨-, -, -, hnone⟩ := (mem_purged hcanonical.holes.1 _).1 (List.contains_iff_mem.1 hgone)
      exact absurd ((hasHistory_of_stage ⟨h2, h3⟩ hst hp).symm.trans hnone) nofun
    refine planKept_of_bound (s := s) (fun _ => rfl) (fun l c g hc hg => ⟨g, ?_, rfl⟩) (fun l c st hc hst hp => ⟨st, ?_, hp⟩) hs
    · show tfind (s.store.holes.filter (fun p => !(s.purged sec).contains p.1)) c.hole = some g
      rw [tfind_filter s.store.holes (fun n => !(s.purged sec).contains n), hstays l c hc]
      exact hg
    · show tfind (s.store.stages.filter (fun p => !(s.purged sec).contains (p.1 / 32))) (stageKey c.hole c.stage) = some st
      obtain ⟨-, h2, h3, -⟩ := hs.1 l c hc
      have hkey : stageKey c.hole c.stage / 32 = c.hole := by unfold stageKey; omega
      rw [tfind_filter s.store.stages (fun n => !(s.purged sec).contains (n / 32)), hkey, hstays l c hc]
      exact hst

theorem query_kept {α : Type} (ok : Bool) (found : Option α) (body : α → List Byte) : KeptBy s (query ok found body s) := by
  unfold query
  refine .ite (fun _ => .deny) fun _ => ?_
  split
  · exact .deny
  · exact .accept (.refl s)

end

end Sys2Proof.Machine
end

section
/-! PROOFS. The requests of a line and of the link, and WIPE, keep every invariant. -/

namespace Sys2Proof.Machine

section
variable {s t : State} {l : LineId} {v : Live}

/-! ### LINECFG (R59) -/

theorem clampN_mem {lo hi : Nat} (h : lo ≤ hi) (n : Nat) : lo ≤ clampN lo hi n ∧ clampN lo hi n ≤ hi := by
  rw [clampN_eq h]; omega

theorem LineCfg.clamped_valid (tank : TankId) (interval kp ki factor span trace : Nat) :
    (LineCfg.clamped tank interval kp ki factor span trace).valid := by
  exact ⟨nearestInterval_mem interval, (clampN_mem (Nat.zero_le 255) kp).2, (clampN_mem (Nat.zero_le 255) ki).2,
    clampN_mem (by decide) factor, clampN_mem (by decide) span, (clampN_mem (Nat.zero_le 255) trace).2⟩

theorem reqLinecfg_kept (line tank interval kp ki factor span trace : Nat) :
    KeptBy s (reqLinecfg line tank interval kp ki factor span trace s) := by
  unfold reqLinecfg
  split
  · next l k _ _ =>
    refine .ite (fun _ => .deny) fun hidle => .adjusted (.of_lives (fun _ => rfl) id id id id (fun h h' => ⟨h, h'⟩)
      (fun j v hv => ?_) (fun _ => id) (fun ⟨h1, h2, h3, h4, h5, h6⟩ => ⟨h1, h2, h3, h4, h5, h6⟩) (fun h => ?_) fun _ => id)
    · have hne : l ≠ j := fun he => hidle (by rw [he, hv]; rfl)
      have hval : l.val ≠ j.val := fun he => hne (Fin.ext he)
      simp [State.lineCfg, State.modStore, hval]
    · refine { h with lines := fun j => ?_ }
      by_cases hj : l = j
      · subst hj
        simpa using LineCfg.clamped_valid k interval kp ki factor span trace
      · have hval : l.val ≠ j.val := fun he => hj (Fin.ext he)
        simpa [hval] using h.lines j
  · exact .deny

/-! ### BIND (R60, R62) -/

theorem State.neighbours_comm (s : State) (x y : Nat) : s.neighbours x y = s.neighbours y x := by
  unfold State.neighbours
  cases tfind s.store.holes x <;> cases tfind s.store.holes y <;> simp [Bool.or_comm]

/-- A context of a part in which a line has been bound is the new one or an old one. -/
theorem bindLine_ctx {hole stage : Nat} {redo : Bool} {r : Resolution} {k : LineId} {c : Context}
    (hc : (bindLine l hole stage redo r s).ctx k = some c) :
    (k = l ∧ c = r.context hole stage) ∨ (k ≠ l ∧ s.ctx k = some c) := by
  by_cases hk : k = l
  · subst hk
    left
    refine ⟨rfl, ?_⟩
    have hline : (bindLine k hole stage redo r s).live k = some { phase := .bound, ctx := r.context hole stage, latch := none } := by
      unfold State.live bindLine
      dsimp only
      rw [State.line_setLine_self]
      rfl
    exact (Option.some.inj ((ctx_of_live hline).symm.trans hc)).symm
  · right
    refine ⟨hk, ?_⟩
    rw [← hc]
    unfold State.ctx
    rw [show (bindLine l hole stage redo r s).live k = s.live k from
      congrArg Line.live (getElem_set_other s.lines _ hk)]

theorem bindLine_live (hole stage : Nat) (redo : Bool) (r : Resolution) {k : LineId} {w : Live}
    (hw : (bindLine l hole stage redo r s).live k = some w) :
    w = { phase := .bound, ctx := r.context hole stage, latch := none } ∨ s.live k = some w := by
  by_cases hk : k = l
  · subst hk
    left
    unfold State.live bindLine at hw
    dsimp only at hw
    rw [State.line_setLine_self] at hw
    exact (Option.some.inj hw).symm
  · right
    rw [← hw]
    exact (congrArg Line.live (getElem_set_other s.lines _ hk)).symm

theorem bindLine_planKept {hole stage : Nat} {redo : Bool} {h : Hole} {st : Stage} {r : Resolution}
    (had : Admitted s l hole stage redo h st r) (hs : s.planKept) : (bindLine l hole stage redo r s).planKept := by
  obtain ⟨h1, h2, h3, h4⟩ := had.named
  have hfree (k : LineId) (c : Context) (hc : s.ctx k = some c) : c.hole ≠ hole ∧ s.neighbours hole c.hole = false :=
    ⟨boundOn_none_iff.1 had.free k c hc, boundNeighbour_none_iff.1 had.apart k c hc⟩
  refine ⟨fun k c hc => ?_, fun j k c d hne hc hd => ?_⟩
  · have hstage (n : Nat) (x : Stage) (hx : tfind s.store.stages n = some x) (hp : x.status ≠ .planned ∨ n = stageKey hole stage) :
        ∃ st', tfind (bindLine l hole stage redo r s).store.stages n = some st' ∧ st'.status ≠ .planned := by
      rw [bindLine_stages, tfind_tmod, hx]
      split
      · exact ⟨x.bound redo, rfl, by rw [Stage.bound_eq]; nofun⟩
      · next hn => exact ⟨x, rfl, hp.resolve_right hn⟩
    rcases bindLine_ctx hc with ⟨-, rfl⟩ | ⟨-, hc⟩
    · exact ⟨by show (tfind s.store.holes hole).isSome = true; rw [had.hole_found]; rfl, h3, h4,
        hstage _ st had.stage_found (.inr rfl)⟩
    · obtain ⟨g1, g2, g3, x, hx, hp⟩ := hs.1 k c hc
      exact ⟨g1, g2, g3, hstage _ x hx (.inl hp)⟩
  · show _ ∧ s.neighbours c.hole d.hole = false
    rcases bindLine_ctx hc with ⟨rfl, rfl⟩ | ⟨-, hold⟩
    · rcases bindLine_ctx hd with ⟨rfl, -⟩ | ⟨-, hd⟩
      · exact absurd rfl hne
      · obtain ⟨g1, g2⟩ := hfree k d hd
        exact ⟨Ne.symm g1, g2⟩
    · rcases bindLine_ctx hd with ⟨rfl, rfl⟩ | ⟨-, hd⟩
      · obtain ⟨g1, g2⟩ := hfree j c hold
        exact ⟨g1, (State.neighbours_comm s _ _).trans g2⟩
      · exact hs.2 j k c d hne hold hd

/-- BIND of an idle line keeps every invariant (R61, R62). -/
theorem bindLine_kept {hole stage : Nat} {redo : Bool} {h : Hole} {st : Stage} {r : Resolution}
    (had : Admitted s l hole stage redo h st r) : Kept s (bindLine l hole stage redo r s) where
  bounded := id
  accounted := id
  requests hs := by
    refine ⟨fun k c hc => ?_, hs.once, fun k q hq => ?_⟩
    · rcases bindLine_ctx hc with ⟨rfl, rfl⟩ | ⟨-, hc⟩
      · obtain ⟨_, _, -, hr⟩ := resolve_some had.resolved
        show r.tank = _
        rw [hr]
        rfl
      · exact hs.attached k c hc
    · obtain ⟨v, hv, hrest⟩ := hs.owned k q hq
      have hne : q.1 ≠ l := by
        rintro rfl
        exact absurd (had.idle.symm.trans hv) nofun
      exact ⟨v, (congrArg Line.live (getElem_set_other s.lines _ hne)).trans hv, hrest⟩
  demands hs k w hw := by
    rcases bindLine_live hole stage redo r hw with rfl | hw
    · exact Live.demandKept_zero rfl
    · exact hs k w hw
  holds hs k w hw := by
    rcases bindLine_live hole stage redo r hw with rfl | hw
    · exact ⟨nofun, nofun⟩
    · exact hs k w hw
  stopped hs hopen k := State.started_false_iff.2 fun w hw => by
    rcases bindLine_live hole stage redo r hw with rfl | hw
    · rfl
    · exact State.started_false_iff.1 (hs hopen k) w hw
  guarded hs k w z hw hz hl := by
    rcases bindLine_live hole stage redo r hw with rfl | hw
    · exact ⟨fun _ => rfl, fun _ => .inl rfl⟩
    · exact hs k w z hw hz hl
  canonical hs := by
    obtain ⟨g1, g2, ⟨k1, k2, k3⟩, g4, g5, g6⟩ := hs
    have hkeys := tmod_keys s.store.stages (stageKey hole stage) (fun st => st.bound redo)
    have hstages : Store.canonical { s.store with stages := (bindLine l hole stage redo r s).store.stages } :=
      canonical_of_stages rfl hkeys ⟨g1, g2, ⟨k1, k2, k3⟩, g4, g5, g6⟩
    have hsets := bindLine_sets l hole stage redo r s
    exact ⟨g1, g2, hstages.stages, by rw [hsets]; exact ⟨tmod_sorted _ _ _ g4.1, keysIn_tmod g4.2 _ _⟩, g5, g6⟩
  config := fun ⟨g1, g2, g3, g4, g5⟩ => ⟨g1, g2, g3, g4, g5⟩
  plan _ := bindLine_planKept had

theorem reqBind_kept (line hole stage : Nat) (redo : Bool) : KeptBy s (reqBind line hole stage redo s) := by
  unfold reqBind
  split
  · exact .deny
  · next l r hok =>
    obtain ⟨-, h, st, had⟩ := admission_ok hok
    exact .accept (bindLine_kept had)

/-! ### START (R63, R64) -/

/-- What a START that is not refused has found (R63). -/
theorem startDenial_none (h : startDenial s l = none) :
    ∃ v, s.live l = some v ∧ v.phase = .bound ∧ s.supply.loopOpen = false ∧ s.startBarred v.ctx.zones = false := by
  unfold startDenial at h
  split at h
  · cases h
  · split at h
    · cases h
    · next v hv =>
      split_ifs at h with h1 h2 h3
      exact ⟨v, hv, not_not.1 h1, Bool.eq_false_iff.2 h2, Bool.eq_false_iff.2 h3⟩

theorem reqStart_kept (line : Nat) (hok : s.link.state = .ok) : KeptBy s (reqStart line s) := by
  unfold reqStart
  split
  · exact .deny
  · next l _ =>
    split
    · exact .deny
    · next hnone =>
      obtain ⟨v, hv, hp, hloop, hbar⟩ := startDenial_none hnone
      have hunbarred (z : ZoneId) (hl : s.latched z = true) (hr : (s.zoneCfg z).routing ≠ .report) :
          hasZone v.ctx.zones z = false := by
        rw [Bool.eq_false_iff]
        intro hz
        exact absurd (hbar.symm.trans ((startBarred_iff ..).2 ⟨z, hz, .inl ⟨hl, hr⟩⟩)) nofun
      rw [ctx_of_live hv]
      refine .accept ((startLine_acted hv hp).kept (fun hopen => ?_) (fun z hl hr zs hz => ?_) fun z hl hr => ?_)
      · rcases hopen with hopen | hlost
        · exact absurd (hloop.symm.trans hopen) nofun
        · exact absurd (hok.symm.trans hlost) nofun
      · rintro rfl
        exact absurd ((hunbarred z hl (by rw [hr]; nofun)).symm.trans hz) nofun
      · exact hunbarred z hl (by rw [hr]; nofun)

/-! ### PAUSE, RESUME, ABORT and RELEASE -/

theorem reqPause_kept (line : Nat) (holdTime decay : Option Nat) : KeptBy s (reqPause line holdTime decay s) := by
  unfold reqPause
  split
  · split
    · exact .deny
    · next v hv =>
      refine .ite (fun _ => .deny) fun _ => .ite (fun _ => .deny) fun hp => .accept (pauseLine_acted hv ?_ _).kept_all
      simpa using hp
  · exact .deny

theorem reqResume_kept (line : Nat) : KeptBy s (reqResume line s) := by
  unfold reqResume
  split
  · exact .deny
  · split
    · exact .deny
    · next v hv =>
      refine .ite (fun _ => .deny) fun _ => .ite (fun _ => .deny) fun hp => .ite (fun _ => .answer) fun hheave =>
        .ite (fun _ => .answer) fun _ => .accept ?_
      exact (resumeLine_acted (B := fun _ => True) hv (not_not.1 hp) (Bool.eq_false_iff.2 hheave)).kept (fun _ _ => trivial)
        (fun _ _ _ _ _ => trivial) fun _ h _ => h

theorem stageKey_inj {hole hole' stage stage' : Nat} (h : 1 ≤ stage ∧ stage ≤ 24) (h' : 1 ≤ stage' ∧ stage' ≤ 24)
    (he : stageKey hole stage = stageKey hole' stage') : hole = hole' := by
  unfold stageKey at he; omega

/-- ABORT of a line that is BOUND keeps every invariant: its stage may return to PLANNED, and no line is bound to it (R75). -/
theorem abortBound_kept (hv : s.live l = some v) : Kept s (abortBound l v.ctx s) := by
  have hact : Acted (fun _ => True) (fun _ => True) (s.modStage v.ctx.hole v.ctx.stage Stage.restored) (abortBound l v.ctx s) :=
    abortBound_acted hv
  have hk := hact.kept_all
  have hgone : (abortBound l v.ctx s).live l = none := by
    rw [abortBound_eq hv]
    have hsame (rs : List Report) (u : State) : (u.reportAll rs).live l = u.live l := by
      induction rs generalizing u with
      | nil => rfl
      | cons r rest ih => exact (ih _).trans (by rw [State.report_eq]; rfl)
    refine (hsame _ _).trans ?_
    exact congrArg Line.live (State.line_setLine_self _ _ _)
  have hother {k : LineId} {c : Context} (hc : (abortBound l v.ctx s).ctx k = some c) :
      k ≠ l ∧ ∃ d, s.ctx k = some d ∧ c.hole = d.hole ∧ c.stage = d.stage := by
    obtain ⟨w, hw, rfl⟩ := State.live_of_ctx hc
    obtain ⟨x, hx, hm⟩ := hact.lines k w hw
    refine ⟨?_, x.ctx, ctx_of_live hx, hm.hole, hm.stage⟩
    rintro rfl
    exact absurd (hgone.symm.trans hw) nofun
  have hholes : (abortBound l v.ctx s).store.holes = s.store.holes := by rw [hact.store]; rfl
  refine { hk with
    requests := fun hs => hk.requests ⟨hs.attached, hs.once, hs.owned⟩
    canonical := fun hs => hk.canonical (canonical_of_stages rfl (tmod_keys ..) hs)
    config := fun ⟨g1, g2, g3, g4, g5⟩ => hk.config ⟨g1, g2, g3, g4, g5⟩
    plan := fun _ hs => ⟨fun k c hc => ?_, fun j k c d hne hc hd => ?_⟩ }
  · obtain ⟨hne, d, hd, hhole, hstage⟩ := hother hc
    obtain ⟨g1, g2, g3, st, hst, hp⟩ := hs.1 k d hd
    obtain ⟨-, e2, e3, -⟩ := hs.1 l v.ctx (ctx_of_live hv)
    have hkey : stageKey d.hole d.stage ≠ stageKey v.ctx.hole v.ctx.stage := fun he =>
      (hs.2 k l d v.ctx hne hd (ctx_of_live hv)).1 (stageKey_inj ⟨g2, g3⟩ ⟨e2, e3⟩ he)
    obtain ⟨st', hst', hp'⟩ := hact.stages (stageKey d.hole d.stage) st (by
      show tfind (tmod s.store.stages (stageKey v.ctx.hole v.ctx.stage) Stage.restored) _ = _
      rw [tfind_tmod, if_neg hkey]
      exact hst)
    rw [hhole, hstage, hholes]
    exact ⟨g1, g2, g3, st', hst', hp' hp⟩
  · obtain ⟨-, c', hc', hhole, -⟩ := hother hc
    obtain ⟨-, d', hd', hhole', -⟩ := hother hd
    have hlaw := hs.2 j k c' d' hne hc' hd'
    rw [hhole, hhole']
    unfold State.neighbours at hlaw ⊢
    rw [hholes]
    exact hlaw

theorem reqAbort_kept (line : Nat) : KeptBy s (reqAbort line s) := by
  unfold reqAbort
  split
  · exact .deny
  · split
    · exact .deny
    · next v hv =>
      exact .ite (fun _ => .accept (drainLine_acted ..).kept_all) fun _ => .ite (fun _ => .accept (abortBound_kept hv)) fun _ => .deny

theorem reqRelease_kept (line : Nat) : KeptBy s (reqRelease line s) := by
  unfold reqRelease
  split
  · exact .deny
  · next l _ =>
    split
    · exact .deny
    · next hp =>
      obtain ⟨v, hv, hended⟩ := Option.map_eq_some_iff.1 hp
      exact .ite (fun _ => .deny) fun _ => .accept (unbind_acted hv hended).kept_all
    · exact .deny

/-! ### The requests of the link (R173 to R175) -/

theorem reqLinkcfg_kept (t1 t2 safe : Nat) : KeptBy s (reqLinkcfg t1 t2 safe s) :=
  .adjusted (.modTables s _ (fun ⟨h1, h2, h3, h4, h5, h6⟩ => ⟨h1, h2, h3, h4, h5, h6⟩)
    fun h => { h with link := ⟨clampN_mem (by decide) t1, clampN_mem (by decide) t2, clampN_mem (by decide) safe⟩ })

theorem reqClearsafe_kept : KeptBy s (reqClearsafe s) :=
  .ite (fun _ => .accept ((Kept.link s { s.link with safeLatch := false } id id).trans (.report ..))) fun _ => .accept (.refl s)

theorem reqStatus_kept : KeptBy s (reqStatus s) := .accept (.link s { s.link with missed := false } id id)

/-! ### Judging and reporting -/

theorem judgeWarn_kept (z : ZoneId) (s : State) : Kept s (judgeWarn z s) := by rw [judgeWarn_eq]; exact .of_eq

theorem zoneReport_kept (z : ZoneId) (e : HeaveEvent) (before : State) (acts : List (LineId × LineAction)) (s : State) :
    Kept s (zoneReport z e before acts s) := by
  unfold zoneReport
  split
  · exact .refl s
  · exact .report ..

theorem gaugeReport_kept (g : GaugeId) (e : HeaveEvent) (zone : ZoneId) (before : State) (acts : List (LineId × LineAction))
    (s : State) : Kept s (gaugeReport g e zone before acts s) := by
  unfold gaugeReport
  split
  · exact .refl s
  · exact .report ..

theorem reportIfChanged_kept (k : TankId) (e : TankEvent) (before s : State) : Kept s (reportIfChanged k e before s) := by
  unfold reportIfChanged tankReport
  split
  · exact .refl s
  · exact .report ..

/-! ### WIPE (R20) -/

theorem wipeAll_kept (hidle : ∀ l, s.live l = none) : Kept s (wipeAll s) := by
  unfold wipeAll wipeTankReports wipeZoneReports wipeGaugeReports wipeZones
  have noCtx {l : LineId} {c : Context} : s.ctx l ≠ some c := fun h => by
    obtain ⟨v, hv, -⟩ := State.live_of_ctx h
    exact nomatch (hidle l).symm.trans hv
  have hstore : Kept s { s with store := Store.dflt s.store.tripLatch, gauges := Vector.replicate 16 Gauge.fresh, scan := none } :=
    .of_lives (fun _ => rfl) id id id id (fun h h' => ⟨h, h'⟩) (fun l v hv => nomatch (hidle l).symm.trans hv)
      (fun _ _ l v hv => nomatch (hidle l).symm.trans hv) (fun _ => dflt_canonical _) (fun _ => dflt_configValid _)
      fun _ _ => ⟨fun l c h => absurd h noCtx, fun l k c d _ h => absurd h noCtx⟩
  dsimp only
  refine Kept.trans ?_ (.foldl (fun _ _ => reportIfChanged_kept ..) ..)
  refine Kept.trans ?_ (.foldl (fun _ _ => zoneReport_kept ..) ..)
  refine Kept.trans ?_ (.foldl (fun _ _ => gaugeReport_kept ..) ..)
  exact hstore.trans (.foldl (fun _ _ => judgeWarn_kept ..) ..)

theorem reqWipe_kept : KeptBy s (reqWipe s) := by
  refine .ite (fun _ => .deny) fun hbusy => .accept (wipeAll_kept fun l => ?_)
  cases hv : s.live l with
  | none => rfl
  | some v => exact absurd (List.any_eq_true.2 ⟨l, mem_allLines l, by rw [hv]; rfl⟩) hbusy

end

end Sys2Proof.Machine
end

section
/-! PROOFS. The events and requests of the tanks keep every invariant (R119 to R134). -/

namespace Sys2Proof.Machine

/-- The account of one tank balances, within the capacity, and is empty while the tank is UNSET (R119, R120, R122). -/
def Tank.sound (x : Tank) : Prop := x.balanced ∧ (x.mix = none → x.contents = 0)

/-- From `s` to `t` the work of tank `k` keeps its account sound and its queue without a line twice; the lines in it were in it or
have their place. -/
structure TankKept (k : TankId) (s t : State) : Prop where
  frame : TankFrame k s t
  bounded : s.bounded → t.bounded
  sound : (s.tank k).sound → (t.tank k).sound
  once : ((s.tank k).queue.map (fun q => q.1)).Nodup → ((t.tank k).queue.map (fun q => q.1)).Nodup
  owned : ∀ l ∈ (t.tank k).queue.map (fun q => q.1), l ∈ (s.tank k).queue.map (fun q => q.1) ∨ s.hasPlace k l

section
variable {k : TankId} {s t u : State} {w : TankWork} {l : LineId} {m : Nat}

namespace TankKept

theorem refl (k : TankId) (s : State) : TankKept k s s := ⟨.refl k s, id, id, id, fun _ => .inl⟩

theorem trans (h : TankKept k s t) (h' : TankKept k t u) : TankKept k s u where
  frame := h.frame.trans h'.frame
  bounded := h'.bounded ∘ h.bounded
  sound := h'.sound ∘ h.sound
  once := h'.once ∘ h.once
  owned l hl := by
    rcases h'.owned l hl with hl | ⟨v, hv, hrest⟩
    · exact h.owned l hl
    · exact .inr ⟨v, (h.frame.live l).symm.trans hv, hrest⟩

theorem setTank {x : Tank} (hsound : (s.tank k).sound → x.sound)
    (honce : ((s.tank k).queue.map (fun q => q.1)).Nodup → (x.queue.map (fun q => q.1)).Nodup)
    (howned : ∀ l ∈ x.queue.map (fun q => q.1), l ∈ (s.tank k).queue.map (fun q => q.1) ∨ s.hasPlace k l) :
    TankKept k s (s.setTank k x) where
  frame := setTank_tankFrame ..
  bounded := id
  sound h := by rw [State.tank_setTank_self]; exact hsound h
  once h := by rw [State.tank_setTank_self]; exact honce h
  owned l hl := by rw [State.tank_setTank_self] at hl; exact howned l hl

/-- A write of the tank that leaves its queue. -/
theorem setAccount {x : Tank} (hsound : (s.tank k).sound → x.sound) (hqueue : x.queue = (s.tank k).queue := by rfl) :
    TankKept k s (s.setTank k x) :=
  .setTank hsound (fun h => by rw [hqueue]; exact h) fun l hl => .inl (by rw [hqueue] at hl; exact hl)

/-- Entries leave the queue. -/
theorem shorten {q : List (LineId × Nat)} (h : q.Sublist (s.tank k).queue) :
    TankKept k s (s.setTank k { s.tank k with queue := q }) :=
  .setTank id (fun hn => hn.sublist (h.map _)) fun _ hl => .inl ((h.map _).subset hl)

theorem report (k : TankId) (s : State) (r : Report) : TankKept k s (s.report r) := by
  have htank : (s.report r).tank k = s.tank k := by rw [State.report_eq]; rfl
  exact ⟨report_tankFrame .., fun h => h.report r, fun h => by rw [htank]; exact h, fun h => by rw [htank]; exact h,
    fun l hl => .inl (by rw [htank] at hl; exact hl)⟩

theorem reportIfChanged (k : TankId) (e : TankEvent) (before s : State) : TankKept k s (reportIfChanged k e before s) := by
  unfold Sys2Proof.Machine.reportIfChanged tankReport
  split
  · exact .refl k s
  · exact .report ..

end TankKept

/-! ### The settling of the lines (R130) -/

/-- What the removal of entries from the queue keeps, the settling of the lines keeps. -/
theorem settle_keeps {P : State → Prop}
    (filters : ∀ s l, P s → P (s.setTank k { s.tank k with queue := (s.tank k).queue.filter (fun e => e.1 != l) }))
    (m : Nat) (granted : Option LineId) (h : P w.s) : P (settle k m granted w).w.s := by
  unfold settle
  generalize w.s.boundLines k = ls
  have ha : P ({ w := w, followers := [], mismatched := 0 } : Settled).w.s := h
  revert ha
  generalize ({ w := w, followers := [], mismatched := 0 } : Settled) = a
  induction ls generalizing a with
  | nil => exact id
  | cons l rest ih =>
    refine fun ha => ih _ ?_
    unfold settleLine
    split
    · exact ha
    · split
      · exact filters a.w.s l ha
      · exact ha

theorem settle_tankKept (m : Nat) (granted : Option LineId) (h : TankKept k s w.s) : TankKept k s (settle k m granted w).w.s :=
  settle_keeps (P := TankKept k s) (fun _ _ hs => hs.trans (.shorten List.filter_sublist)) m granted h

theorem settle_mix (m : Nat) (granted : Option LineId) : ((settle k m granted w).w.s.tank k).mix = (w.s.tank k).mix :=
  settle_keeps (P := fun u => (u.tank k).mix = (w.s.tank k).mix) (fun u l hu => by rw [State.tank_setTank_self]; exact hu) m granted rfl

theorem Tank.sound_of_mix {x : Tank} (h : x.balanced) (hm : x.mix ≠ none) : x.sound := ⟨h, fun hn => absurd hn hm⟩

/-- The charge of a tank goes to waste, and the tank stays balanced (R126, R134). -/
theorem Tank.balanced.dumped {x y : Tank} (h : x.balanced) (hdelivered : y.delivered = x.delivered := by rfl)
    (hdrawn : y.drawn = x.drawn := by rfl) (hwaste : y.waste = x.waste + x.contents := by rfl)
    (hcontents : y.contents = 0 := by rfl) : y.balanced := by
  obtain ⟨hsum, -⟩ := h
  unfold Tank.balanced
  rw [hdelivered, hdrawn, hwaste, hcontents]
  exact ⟨by omega, Nat.zero_le _⟩

theorem adoptMix_tankKept (m : Nat) (granted : Option LineId) (h : TankKept k s w.s) :
    TankKept k s (adoptMix k m granted w).w.s :=
  settle_tankKept m granted (h.trans (.setAccount fun hs => Tank.sound_of_mix hs.1 nofun))

theorem changeMix_tankKept (m : Nat) (granted : Option LineId) (h : TankKept k s w.s) :
    TankKept k s (changeMix k m granted w).w.s :=
  settle_tankKept m granted (h.trans (.setAccount fun hs => Tank.sound_of_mix hs.1.dumped nofun))

theorem dropHead_tankKept (l : LineId) (m : Nat) (h : TankKept k s w.s) : TankKept k s (dropHead k l m w).s :=
  h.trans (.shorten List.erase_sublist)

theorem satisfy_tankKept (l : LineId) (m : Nat) (h : TankKept k s w.s) : TankKept k s (satisfy k l m w).s := by
  rw [satisfy_s]; exact h

/-! ### The head of the queue (R131) -/

theorem examineHead_tankKept (h : TankKept k s w.s) : TankKept k s (examineHead k w).s :=
  examine_keeps (P := fun w => TankKept k s w.s)
    (fun _ l m _ hw _ _ => dropHead_tankKept l m ((adoptMix_tankKept m (some l) hw).trans (.report ..)))
    (fun _ l m _ hw _ => satisfy_tankKept l m (dropHead_tankKept l m hw))
    (fun _ l m _ _ hw _ _ => dropHead_tankKept l m ((changeMix_tankKept m (some l) hw).trans (.report ..))) _ w h

theorem enqueue_tankKept (l : LineId) (m step : Nat) (h : TankKept k s w.s) (hl : s.hasPlace k l) :
    TankKept k s (enqueue k l m step w).s := by
  have hplace : w.s.hasPlace k l := by
    obtain ⟨v, hv, hrest⟩ := hl
    exact ⟨v, (h.frame.live l).trans hv, hrest⟩
  unfold enqueue
  dsimp only
  split
  · have hsame : ((w.s.tank k).queue.map (fun e => if e.1 = l then (l, m) else e)).map (fun q => q.1) =
        (w.s.tank k).queue.map (fun q => q.1) := by
      rw [List.map_map]
      refine List.map_congr_left fun e _ => ?_
      dsimp only [Function.comp]
      split
      · next he => exact he.symm
      · rfl
    refine h.trans (.setTank id (fun hn => ?_) fun j hj => .inl ?_)
    · show (((w.s.tank k).queue.map _).map _).Nodup
      rw [hsame]
      exact hn
    · rw [← hsame]
      exact hj
  · next hat =>
    have hnew : l ∉ (w.s.tank k).queue.map (fun q => q.1) := by
      intro hmem
      obtain ⟨q, hq, rfl⟩ := List.mem_map.1 hmem
      exact hat (List.findIdx_lt_length_of_exists ⟨q, hq, by simp⟩)
    have hadded : TankKept k s (w.s.setTank k { w.s.tank k with queue := (w.s.tank k).queue ++ [(l, m)] }) := by
      refine h.trans (.setTank id (fun hn => ?_) fun j hj => ?_)
      · rw [List.map_append, List.nodup_append]
        refine ⟨hn, List.nodup_singleton _, fun a ha b hb => ?_⟩
        obtain rfl := List.mem_singleton.1 hb
        rintro rfl
        exact hnew ha
      · rw [List.map_append, List.mem_append] at hj
        refine hj.imp id fun hj => ?_
        obtain rfl := List.mem_singleton.1 hj
        exact hplace
    split
    · exact examineHead_tankKept hadded
    · exact hadded

/-! ### Deliveries (R125, R126) -/

theorem deliver_mix (x : Tank) (volume : Nat) : (deliver x volume).mix = x.mix := by unfold deliver; rfl

theorem deliver_queue (x : Tank) (volume : Nat) : (deliver x volume).queue = x.queue := by unfold deliver; rfl

theorem deliver_balanced {x : Tank} (h : x.balanced) (volume : Nat) : (deliver x volume).balanced := by
  obtain ⟨hsum, hcap⟩ := h
  unfold Tank.balanced deliver overflowOf
  generalize Config.tankCapacity = capacity at hcap ⊢
  dsimp only
  omega

theorem deliverWork_tankKept (volume : Nat) (h : TankKept k s w.s) (hm : (w.s.tank k).mix ≠ none) :
    TankKept k s (deliverWork k volume w).s := by
  unfold deliverWork
  exact h.trans (.setAccount (fun hs => Tank.sound_of_mix (deliver_balanced hs.1 volume) (by rw [deliver_mix]; exact hm))
    (deliver_queue ..))

theorem batchWork_tankKept (mix volume : Nat) (h : TankKept k s w.s) : TankKept k s (batchWork k mix volume w).s := by
  unfold batchWork
  split
  · refine examineHead_tankKept ((deliverWork_tankKept volume (adoptMix_tankKept mix none h) ?_).trans (.report ..))
    unfold adoptMix
    rw [settle_mix, State.tank_setTank_self]
    nofun
  · next hm =>
    exact examineHead_tankKept ((deliverWork_tankKept volume h (by rw [hm]; nofun)).trans (.reportIfChanged ..))

theorem emptyWork_tankKept (h : TankKept k s w.s) : TankKept k s (emptyWork k w).s := by
  have hdumped : TankKept k w.s (w.s.setTank k (w.s.tank k).dumped) := .setAccount fun hs => ⟨hs.1.dumped, fun _ => rfl⟩
  exact examineHead_tankKept ((h.trans hdumped).trans (.reportIfChanged ..))

theorem drawFrom_tankKept (volume : Nat) : TankKept k s (s.setTank k (drawFrom (s.tank k) volume)) := by
  refine .setAccount fun hs => ?_
  obtain ⟨⟨hsum, hcap⟩, hunset⟩ := hs
  refine ⟨?_, fun hm => ?_⟩
  · unfold Tank.balanced drawFrom
    dsimp only
    omega
  · have hzero := hunset hm
    show (s.tank k).contents - _ = 0
    omega

/-! ### Whole events -/

theorem TankKept.kept (h : TankKept k s t) : Kept s t := by
  have hl := h.frame.live
  refine .of_lives hl (fun hopen => ?_) (fun hlost => ?_) h.bounded (fun hs => ?_) (fun hs hs' => ⟨fun j q hq => ?_, fun j => ?_⟩)
    (fun l v _ => by unfold State.lineCfg; rw [h.frame.store])
    (fun z => guardsAt_of_eq hl (fun hz => by unfold State.latched at hz ⊢; rw [h.frame.store] at hz; exact hz)
      (by unfold State.zoneCfg; rw [h.frame.store]))
    (fun hs => by rw [h.frame.store]; exact hs) (fun hs => by rw [h.frame.store]; exact hs)
    (fun _ => planKept_of_lines (fun l w hw => ⟨w, (hl l).symm.trans hw, rfl, rfl⟩) (by rw [h.frame.store])
      (by rw [h.frame.store]; exact .refl _))
  · rw [h.frame.state] at hopen; exact hopen
  · rw [h.frame.link] at hlost; exact hlost
  · have hsound (j : TankId) : (t.tank j).sound := by
      by_cases hj : j = k
      · subst hj; exact h.sound ⟨hs.1 j, hs.2 j⟩
      · rw [h.frame.others j hj]; exact ⟨hs.1 j, hs.2 j⟩
    exact ⟨fun j => (hsound j).1, fun j => (hsound j).2⟩
  · have hplace {j : TankId} {l : LineId} (hp : s.hasPlace j l) : t.hasPlace j l := by
      obtain ⟨v, hv, hrest⟩ := hp
      exact ⟨v, (hl l).trans hv, hrest⟩
    by_cases hj : j = k
    · subst hj
      rcases h.owned q.1 (List.mem_map_of_mem hq) with hin | hp
      · obtain ⟨q', hq', he⟩ := List.mem_map.1 hin
        exact he ▸ hplace (hs j q' hq')
      · exact hplace hp
    · rw [h.frame.others j hj] at hq
      exact hplace (hs j q hq)
  · by_cases hj : j = k
    · subst hj; exact h.once (hs' j)
    · rw [h.frame.others j hj]; exact hs' j

theorem Kept.notices (s : State) (l : LineId) (ns : List Notice) (hs : List Instr) :
    Kept s { s with lines := s.lines.set l { s.line l with notices := ns }, handoffs := hs } := by
  refine .of_eq fun j => ?_
  by_cases hj : j = l
  · subst hj
    simp [State.live, State.line]
  · exact congrArg Line.live (getElem_set_other s.lines _ hj)

theorem closeTank_kept (k : TankId) (before : State) (w : TankWork) : Kept w.s (closeTank k before w) := by
  unfold closeTank flushReqs State.reportAll
  refine Kept.trans (.foldl (fun s r => .report s r) _ _) (.foldl (fun s x => ?_) _ _)
  rw [sendNoticeIf_eq]
  exact .notices ..

theorem tankEvent_kept {f : TankWork → TankWork} (h : ∀ w, TankKept k s w.s → TankKept k s (f w).s) : Kept s (tankEvent k f s) :=
  (h { s := s, notes := _, reqs := _ } (.refl k s)).kept.trans (closeTank_kept ..)

theorem taken_kept (s : State) (i : Instr) : Kept s (s.taken i) := .of_eq

theorem evTankDraw_kept (k : TankId) (volume : Nat) (s : State) : Kept s (evTankDraw k volume s) := by
  refine (taken_kept s (.tankDraw k volume)).trans ?_
  unfold evTankDraw
  exact tankEvent_kept fun _ hw => (hw.trans (drawFrom_tankKept volume)).trans (.reportIfChanged ..)

theorem evHeadExamination_kept (k : TankId) (s : State) : Kept s (evHeadExamination k s) :=
  (taken_kept s _).trans (tankEvent_kept fun _ => examineHead_tankKept)

theorem Live.mayRequest_place {v : Live} (hv : s.live l = some v) (h : v.mayRequest k = true) : s.hasPlace k l := by
  simp only [Live.mayRequest, Bool.and_eq_true, beq_iff_eq, bne_iff_ne, ne_eq] at h
  exact ⟨v, hv, h.1.1, h.1.2, h.2⟩

theorem evMixRequest_kept (k : TankId) (l : LineId) (m : Nat) (s : State) : Kept s (evMixRequest k l m s) := by
  refine (taken_kept s (.mixRequest k l m)).trans ?_
  unfold evMixRequest
  generalize s.taken (.mixRequest k l m) = u
  dsimp only
  split
  · exact .refl u
  · next v hv =>
    split
    · next hmay =>
      have hplace := Live.mayRequest_place hv (Bool.and_eq_true_iff.1 hmay).1
      refine tankEvent_kept fun w hw => ?_
      split
      · exact satisfy_tankKept l m hw
      · split
        · exact hw
        · exact enqueue_tankKept l m _ hw hplace
    · exact .refl u

theorem evAdopt_kept (k : TankId) (l : LineId) (m : Nat) (s : State) : Kept s (evAdopt k l m s) := by
  refine (taken_kept s (.adopt k l m)).trans ?_
  unfold evAdopt
  generalize s.taken (.adopt k l m) = u
  dsimp only
  split
  · exact tankEvent_kept fun _ hw => (adoptMix_tankKept m none hw).trans (.report ..)
  · split
    · exact .refl u
    · next v hv =>
      split
      · rw [sendNotice_eq]
        exact .notices ..
      · split
        · next hmay =>
          have hplace := Live.mayRequest_place hv (Bool.and_eq_true_iff.1 hmay).1
          exact tankEvent_kept fun w hw => enqueue_tankKept l _ _ (w := w.note l _) hw hplace
        · exact .refl u

/-! ### The requests of a tank (R124 to R126) -/

theorem reqTankcfg_kept (tank reserve : Nat) : KeptBy s (reqTankcfg tank reserve s) := by
  unfold reqTankcfg
  split
  · exact .deny
  · next k _ =>
    have hreserve : Kept s (s.setReserve k (clampN 20000 500000 reserve)) := by
      refine .modTables s _ (fun ⟨h1, h2, h3, h4, h5, h6⟩ => ⟨h1, h2, h3, h4, h5, h6⟩) fun h => { h with tanks := fun j => ?_ }
      by_cases hj : k = j
      · subst hj
        simpa using clampN_mem (by decide) reserve
      · have hval : k.val ≠ j.val := fun he => hj (Fin.ext he)
        simpa [hval] using h.tanks j
    exact .adjusted ((hreserve.trans (reportIfChanged_kept ..)).trans (closeTank_kept k s { s := _, notes := _, reqs := _ }))

theorem reqBatch_kept (tank mix volume : Nat) : KeptBy s (reqBatch tank mix volume s) := by
  unfold reqBatch
  split
  · exact .ite (fun _ => .deny) fun _ => .ite (fun _ => .deny) fun _ =>
      .accept (tankEvent_kept fun _ hw => batchWork_tankKept mix _ hw)
  · exact .deny

theorem reqEmpty_kept (tank : Nat) : KeptBy s (reqEmpty tank s) := by
  unfold reqEmpty
  split
  · exact .deny
  · exact .accept (tankEvent_kept fun _ hw => emptyWork_tankKept hw)

end

end Sys2Proof.Machine
end

section
/-! PROOFS. The uplift monitor keeps every invariant, and what every step keeps. -/

namespace Sys2Proof.Machine

section
variable {B : ZoneSet → Prop} {Z : ZoneId → Prop} {s t u : State} {l : LineId} {v : Live} {z : ZoneId}

/-! ### The lines of a zone under its trip (R149) -/

theorem addHeave_names (h : HoldSet) (z : ZoneId) : (h.addHeave z).names z :=
  ⟨_, rfl, by simp [hasZone, oneZone]⟩

theorem names_addHeave {h : HoldSet} {y : ZoneId} (hn : h.names y) (z : ZoneId) : (h.addHeave z).names y := by
  obtain ⟨zs, hzs, hy⟩ := hn
  refine ⟨_, rfl, ?_⟩
  rw [hzs]
  unfold hasZone at hy ⊢
  simp [hy]

theorem imposeHeave_acted (z : ZoneId) (l : LineId) (s : State) :
    Acted B Z s (imposeCause l .heave (fun h => h.addHeave z) s) :=
  imposeCause_acted l .heave (fun h => h.addHeave z) s (fun h => HoldSet.names_nonempty (addHeave_names h z))
    fun _ _ hn => names_addHeave hn z

theorem routeTrip_acted (z : ZoneId) (s : State) : Acted B Z s (routeTrip z s) := by
  unfold routeTrip
  split
  · exact .foldl (fun s l => drainLine_acted l .heave s) _ _
  · exact .foldl (fun s l => imposeHeave_acted z l s) _ _
  · exact .refl s

/-- The trip of a zone with routing HOLD leaves a line that it guards (R149). -/
theorem imposeHeave_guards (z : ZoneId) (l : LineId) (s : State) {w : Live}
    (hw : (imposeCause l .heave (fun h => h.addHeave z) s).live l = some w) : w.guardedBy z := by
  cases hv : s.live l with
  | none =>
    unfold imposeCause at hw
    rw [hv] at hw
    exact absurd (hv.symm.trans hw) nofun
  | some v =>
    have henter {before : Phase} (h : (enterHold l before .heave (fun h => h.addHeave z) s).live l = some w) : w.guardedBy z := by
      obtain rfl := Option.some.inj (((LineStep.refl s l).enterHold hv before .heave (fun h => h.addHeave z)).live.symm.trans h)
      exact .inr (.inr ⟨rfl, addHeave_names _ z⟩)
    rw [imposeCause_eq hv] at hw
    obtain ⟨p, c, latch⟩ := v
    cases p
    case inject | relief | starved => exact henter hw
    case hold =>
      refine .inr (.inr ?_)
      dsimp only at hw
      split at hw
      · obtain rfl := Option.some.inj (((LineStep.refl s l).setLive _).live.symm.trans hw)
        exact ⟨rfl, addHeave_names _ z⟩
      · obtain rfl := Option.some.inj (((LineStep.refl s l).addCause hv .heave (fun h => h.addHeave z)).live.symm.trans hw)
        exact ⟨rfl, addHeave_names _ z⟩
    case localPanel =>
      obtain rfl := Option.some.inj (hv.symm.trans hw)
      exact .inr (.inl rfl)
    all_goals
      obtain rfl := Option.some.inj (hv.symm.trans hw)
      exact .inl rfl

theorem imposeHeaves_guard (z : ZoneId) (ls : List LineId) (s : State) (hl : l ∈ ls) {w : Live}
    (hw : (ls.foldl (fun s l => imposeCause l .heave (fun h => h.addHeave z) s) s).live l = some w)
    (hz : hasZone w.ctx.zones z = true) : w.guardedBy z := by
  induction ls generalizing s with
  | nil => cases hl
  | cons k rest ih =>
    rcases List.mem_cons.1 hl with rfl | hl
    · have hrest : Acted (fun _ => True) (fun _ => True) (imposeCause l .heave (fun h => h.addHeave z) s) _ :=
        .foldl (fun s l => imposeHeave_acted z l s) rest _
      obtain ⟨v, hv, hm⟩ := hrest.lines l w hw
      exact hm.guard z trivial (by rw [← hm.zones]; exact hz) (imposeHeave_guards z l s hv)
    · exact ih _ hl hw

/-- The routing of a zone in TRIP leaves its lines guarded (R149). -/
theorem routeTrip_guards (z : ZoneId) (s : State) : (routeTrip z s).guardsAt z := by
  intro l w hw hz _
  have hact : Acted (fun _ => True) (fun _ => True) s (routeTrip z s) := routeTrip_acted z s
  have hroute : ((routeTrip z s).zoneCfg z).routing = (s.zoneCfg z).routing := by unfold State.zoneCfg; rw [hact.store]
  have hin : l ∈ s.linesOf z := by
    obtain ⟨v, hv, hm⟩ := hact.lines l w hw
    refine List.mem_filter.2 ⟨mem_allLines l, ?_⟩
    rw [ctx_of_live hv]
    show hasZone v.ctx.zones z = true
    rw [← hm.zones]
    exact hz
  rw [hroute]
  unfold routeTrip at hw
  refine ⟨fun hr => ?_, fun hr => ?_⟩
  · rw [hr] at hw
    exact State.started_false_iff.1 (drainLines_started .heave (s.linesOf z) s hin) w hw
  · rw [hr] at hw
    exact imposeHeaves_guard z (s.linesOf z) s hin hw hz

/-- The zones that an action on the lines does not route guard their lines as they did. -/
theorem Acted.guardsAt (h : Acted (fun _ => True) Z s t) (hZ : Z z) (hs : s.guardsAt z) : t.guardsAt z :=
  guardsAt_of_moves h.lines (fun hl => by unfold State.latched at hl ⊢; rw [h.store] at hl; exact hl)
    (by unfold State.zoneCfg; rw [h.store]) (fun _ _ _ _ => trivial) (fun _ _ => hZ) hs

/-! ### A gauge fault and its clearing (R151) -/

theorem actOnFaultChange_acted (g : GaugeId) (zone : ZoneId) (before s : State) :
    Acted B Z s (actOnFaultChange g zone before s) := by
  unfold actOnFaultChange
  split
  · exact .refl s
  · split
    · refine .foldl (fun s l => imposeCause_acted l .gauge (fun h => { h with gauge := true }) s (fun h => ?_) fun _ _ hn => hn) _ _
      simp [HoldSet.isEmpty]
    · exact releaseGauge_acted s

theorem zoneReport_acted (z : ZoneId) (e : HeaveEvent) (before : State) (acts : List (LineId × LineAction)) (s : State) :
    Acted B Z s (zoneReport z e before acts s) := by
  unfold zoneReport
  split
  · exact .refl s
  · exact .report ..

theorem gaugeReport_acted (g : GaugeId) (e : HeaveEvent) (zone : ZoneId) (before : State) (acts : List (LineId × LineAction))
    (s : State) : Acted B Z s (gaugeReport g e zone before acts s) := by
  unfold gaugeReport
  split
  · exact .refl s
  · exact .report ..

/-! ### A conversion (R141, R147) -/

theorem latchTrip_latched {y : ZoneId} (hy : y ≠ z) (s : State) : (latchTrip z s).latched y = s.latched y := by
  have hval : z.val ≠ y.val := fun he => hy (Fin.ext he.symm)
  simp [latchTrip, State.latched, State.setLatch, State.setWarned, hval]

/-- A trip, where the routing that follows it leaves the zones guarded. -/
theorem Kept.trip (hk : Kept (latchTrip z s) t) (hguard : s.guarded → t.guarded) : Kept s t :=
  { bounded := fun h => hk.bounded h
    accounted := fun h => hk.accounted h
    requests := fun ⟨h1, h2, h3⟩ => hk.requests ⟨h1, h2, h3⟩
    demands := fun h => hk.demands h
    holds := fun h => hk.holds h
    stopped := fun h => hk.stopped h
    guarded := hguard
    canonical := fun ⟨h1, h2, h3, h4, h5, h6⟩ => hk.canonical ⟨h1, h2, h3, h4, h5, h6⟩
    config := fun ⟨h1, h2, h3, h4, h5⟩ => hk.config ⟨h1, h2, h3, h4, h5⟩
    plan := fun ⟨h1, h2, h3, h4, h5, h6⟩ hp => hk.plan ⟨h1, h2, h3, h4, h5, h6⟩ hp }

theorem convertGauge_kept (g : GaugeId) (count : Nat) (s : State) : Kept s (convertGauge g count s) := by
  have hset : Kept s (s.setGauge g (s.convert g count)) := .of_eq
  refine hset.trans ?_
  unfold convertGauge
  dsimp only
  generalize (s.gaugeCfg g).zone = z
  generalize tripsZone s g (s.convert g count) = trip
  generalize s.setGauge g (s.convert g count) = u
  cases trip with
  | false =>
    exact (((judgeWarn_kept z u).trans (gaugeReport_kept ..)).trans (zoneReport_kept ..)).trans
      (actOnFaultChange_acted ..).kept_all
  | true =>
    rw [if_pos rfl, if_pos rfl, if_pos rfl]
    have hacts (acts : List (LineId × LineAction)) : Acted (fun _ => True) (fun _ => True) (latchTrip z u)
        (actOnFaultChange g z s (zoneReport z .reading s acts (gaugeReport g .reading z s acts (latchTrip z u)))) :=
      ((gaugeReport_acted ..).trans (zoneReport_acted ..)).trans (actOnFaultChange_acted ..)
    have hall := (hacts (State.onZone (latchTrip z u) z
      (faultChangeActions g z s (latchTrip z u) ++ (latchTrip z u).tripActions z))).trans (routeTrip_acted z _)
    refine hall.kept_all.trip fun hs => State.guarded_iff.2 fun y => ?_
    by_cases hy : y = z
    · subst hy
      exact routeTrip_guards y _
    · exact hall.guardsAt trivial (guardsAt_of_eq (s := u) (fun _ => rfl) (fun h => (latchTrip_latched hy u).symm.trans h) rfl
        (State.guarded_iff.1 hs y))

theorem evGaugeConversion_kept (count : Nat) (s : State) : Kept s (evGaugeConversion count s) := by
  unfold evGaugeConversion
  split
  · exact .refl s
  · next x _ =>
    have hscan (u : State) (y : Option Scan) : Kept u { u with scan := y } := .of_eq
    exact (convertGauge_kept x.gauge count s).trans (hscan _ _)

/-! ### GAUGECFG, ZERO and HCLEAR (R139, R142, R148) -/

theorem setGauge_kept (s : State) (g : GaugeId) (x : Gauge) : Kept s (s.setGauge g x) := .of_eq

theorem setGaugeCfg_kept (s : State) (g : GaugeId) (x : GaugeCfg)
    (hspan : s.store.configValid → 1000 ≤ x.span ∧ x.span ≤ 10000) : Kept s (s.setGaugeCfg g x) := by
  refine .modTables s (fun p => { p with gaugeCfg := p.gaugeCfg.set g x })
    (fun ⟨h1, h2, h3, h4, h5, h6⟩ => ⟨h1, h2, h3, h4, h5, h6⟩) fun h => { h with gauges := fun j => ?_ }
  by_cases hj : g = j
  · subst hj
    simpa using hspan h
  · have hval : g.val ≠ j.val := fun he => hj (Fin.ext he)
    simpa [hval] using h.gauges j

theorem configureGauge_kept (g : GaugeId) (new : GaugeCfg) (s : State) (hspan : 1000 ≤ new.span ∧ new.span ≤ 10000) :
    Kept s (configureGauge g new s) := by
  unfold configureGauge
  dsimp only
  refine Kept.trans ?_ (actOnFaultChange_acted ..).kept_all
  refine Kept.trans ?_ (.foldl (fun _ _ => zoneReport_kept ..) ..)
  refine Kept.trans ?_ (gaugeReport_kept ..)
  refine Kept.trans ?_ (.foldl (fun _ _ => judgeWarn_kept ..) ..)
  have hscan (u : State) (y : Option Scan) : Kept u { u with scan := y } := .of_eq
  exact ((setGaugeCfg_kept s g new fun _ => hspan).trans (setGauge_kept ..)).trans (hscan _ _)

theorem reqGaugecfg_kept (gauge enabled zone span : Nat) : KeptBy s (reqGaugecfg gauge enabled zone span s) := by
  unfold reqGaugecfg
  split
  · exact .ite (fun _ => .adjusted (.refl s)) fun _ => .ite (fun _ => .deny) fun _ =>
      .adjusted (configureGauge_kept _ _ s (clampN_mem (by decide) span))
  · exact .deny

theorem zeroGauge_kept (g : GaugeId) (s : State) : Kept s (zeroGauge g s) := by
  unfold zeroGauge
  split
  · exact .refl s
  · next r _ =>
    have hspan (h : s.store.configValid) : 1000 ≤ (s.gaugeCfg g).span ∧ (s.gaugeCfg g).span ≤ 10000 := h.gauges g
    exact (setGaugeCfg_kept s g { s.gaugeCfg g with baseline := r } hspan).trans (setGauge_kept ..)

theorem reqZero_kept (kind number : Nat) : KeptBy s (reqZero kind number s) := by
  unfold reqZero zeroOne zeroZone
  split
  · split
    · exact .deny
    · exact .ite (fun _ => .deny) fun _ => .ite (fun _ => .deny) fun _ =>
        .accept (((zeroGauge_kept ..).trans (judgeWarn_kept ..)).trans (zoneReport_kept ..))
  · split
    · exact .deny
    · exact .ite (fun _ => .deny) fun _ =>
        .accept (((Kept.foldl (fun _ _ => zeroGauge_kept ..) ..).trans (judgeWarn_kept ..)).trans (zoneReport_kept ..))
  · exact .deny

theorem clearLatch_kept (z : ZoneId) (s : State) : Kept s (clearLatch z s) := by
  unfold clearLatch zeroTrips
  refine Kept.trans ?_ (.foldl (fun _ _ => setGauge_kept ..) ..)
  have hwarn (u : State) (b : Bool) : Kept u (u.setWarned z b) := .of_eq
  refine Kept.trans ?_ (hwarn (s.setLatch z false) _)
  refine .of_lives (fun _ => rfl) id id id id (fun h h' => ⟨h, h'⟩) (fun _ _ _ => rfl)
    (fun y => guardsAt_of_eq (fun _ => rfl) (fun hl => ?_) rfl) (fun ⟨h1, h2, h3, h4, h5, h6⟩ => ⟨h1, h2, h3, h4, h5, h6⟩)
    (fun ⟨h1, h2, h3, h4, h5⟩ => ⟨h1, h2, h3, h4, h5⟩) fun _ => id
  by_cases hy : z = y
  · subst hy
    simp [State.latched, State.setLatch] at hl
  · have hval : z.val ≠ y.val := fun he => hy (Fin.ext he)
    simpa [State.latched, State.setLatch, hval] using hl

theorem reqHclear_kept (zone : Nat) : KeptBy s (reqHclear zone s) := by
  unfold reqHclear
  split
  · exact .deny
  · exact .ite (fun _ => .deny) fun _ => .ite (fun _ => .deny) fun _ =>
      .accept ((clearLatch_kept ..).trans (zoneReport_kept ..))

/-! ### ZONECFG (R144) -/

theorem ZoneCfg.clamped_valid (warn trip derate : Nat) (routing : Routing) : (ZoneCfg.clamped warn trip derate routing).valid := by
  have hwarn := clampN_mem (lo := 10) (hi := 2000) (by decide) warn
  have htrip := clampN_mem (lo := 11) (hi := 10000) (by decide) trip
  exact ⟨hwarn, lt_max_of_lt_right (Nat.lt_succ_self _), max_le htrip.2 (by omega), clampN_mem (by decide) derate⟩

theorem setZoneCfg_other {y : ZoneId} (hy : y ≠ z) (s : State) (x : ZoneCfg) : (s.setZoneCfg z x).zoneCfg y = s.zoneCfg y := by
  have hval : z.val ≠ y.val := fun he => hy (Fin.ext he.symm)
  simp [State.zoneCfg, State.setZoneCfg, hval]

theorem setZoneCfg_same (z : ZoneId) (s : State) (x : ZoneCfg) : (s.setZoneCfg z x).zoneCfg z = x := by
  simp [State.zoneCfg, State.setZoneCfg]

/-- A zone's configuration is written, where what follows leaves the zones guarded. -/
theorem Kept.writeZone {x : ZoneCfg} (hx : x.valid) (hk : Kept (s.setZoneCfg z x) t) (hguard : s.guarded → t.guarded) : Kept s t :=
  have hzones (h : ∀ y : ZoneId, (s.zoneCfg y).valid) (y : ZoneId) : ((s.setZoneCfg z x).zoneCfg y).valid := by
    by_cases hy : y = z
    · subst hy
      rw [setZoneCfg_same]
      exact hx
    · rw [setZoneCfg_other hy]
      exact h y
  { bounded := fun h => hk.bounded h
    accounted := fun h => hk.accounted h
    requests := fun ⟨h1, h2, h3⟩ => hk.requests ⟨h1, h2, h3⟩
    demands := fun h => hk.demands h
    holds := fun h => hk.holds h
    stopped := fun h => hk.stopped h
    guarded := hguard
    canonical := fun ⟨h1, h2, h3, h4, h5, h6⟩ => hk.canonical ⟨h1, h2, h3, h4, h5, h6⟩
    config := fun h => hk.config { h with zones := hzones h.zones }
    plan := fun ⟨h1, h2, h3, h4, h5, h6⟩ hp => hk.plan ⟨h1, h2, h3, h4, h5, h6⟩ hp }

theorem HoldSet.unroute_names {h : HoldSet} {y : ZoneId} (hy : y ≠ z) (hn : h.names y) :
    HoldSet.names { h with heave := h.heave.map (fun zs => zs &&& ~~~(oneZone z)) } y := by
  obtain ⟨zs, hzs, hz⟩ := hn
  have hval : y.val ≠ z.val := fun he => hy (Fin.ext he)
  refine ⟨zs &&& ~~~(oneZone z), by rw [hzs]; rfl, ?_⟩
  unfold hasZone at hz ⊢
  simp [oneZone, hz, hval]

/-- A re-routing from HOLD to REPORT leaves the guards of the other zones (R149). -/
theorem unrouteHold_acted (z : ZoneId) (s : State) : Acted B (fun y => y ≠ z) s (unrouteHold z s) := by
  refine .foldl (fun s l => modCtx_acted l _ s fun v _ =>
    { hole := rfl, stage := rfl, tank := rfl, zones := rfl, demand := id, hold := fun h => ?_, starts := fun _ => id
      guard := fun y hy _ hg => ?_ }) _ _
  · have hempty : HoldSet.isEmpty { v.ctx.hold with heave := v.ctx.hold.heave.map (fun zs => zs &&& ~~~(oneZone z)) } =
        v.ctx.hold.isEmpty := by
      unfold HoldSet.isEmpty
      cases v.ctx.hold.heave <;> rfl
    exact h.trans (by rw [hempty])
  · rcases hg with hg | hg | ⟨hp, hg⟩
    · exact .inl hg
    · exact .inr (.inl hg)
    · exact .inr (.inr ⟨hp, HoldSet.unroute_names hy hg⟩)

theorem reqZonecfg_kept (zone warn trip derate routing : Nat) : KeptBy s (reqZonecfg zone warn trip derate routing s) := by
  unfold reqZonecfg
  split
  · next z r _ _ =>
    have hvalid := ZoneCfg.clamped_valid warn trip derate r
    generalize hx : ZoneCfg.clamped warn trip derate r = x at hvalid ⊢
    refine .adjusted ?_
    have hothers {y : ZoneId} (hy : y ≠ z) (hs : s.guarded) : (s.setZoneCfg z x).guardsAt y :=
      guardsAt_of_eq (s := s) (fun _ => rfl) id (by rw [setZoneCfg_other hy]) (State.guarded_iff.1 hs y)
    have hjudged : Kept (s.setZoneCfg z x) (zoneReport z .zonecfg s [] (judgeWarn z (s.setZoneCfg z x))) :=
      (judgeWarn_kept ..).trans (zoneReport_kept ..)
    have hstore : (zoneReport z .zonecfg s [] (judgeWarn z (s.setZoneCfg z x))).store = (s.setZoneCfg z x).store := by
      rw [(zoneReport_frame ..).store, judgeWarn_eq]
    have hreported : Acted (fun _ => True) (fun _ => True) (judgeWarn z (s.setZoneCfg z x))
        (zoneReport z .zonecfg s [] (judgeWarn z (s.setZoneCfg z x))) := zoneReport_acted ..
    generalize zoneReport z .zonecfg s [] (judgeWarn z (s.setZoneCfg z x)) = u at hjudged hstore hreported ⊢
    have hcfg : (u.zoneCfg z).routing = x.routing := by
      have h := setZoneCfg_same z s x
      unfold State.zoneCfg at h ⊢
      rw [hstore, h]
    have hlatch : u.latched z = s.latched z := by unfold State.latched; rw [hstore]; rfl
    have hguarded (hz : (s.setZoneCfg z x).guardsAt z) (hs : s.guarded) : (s.setZoneCfg z x).guarded :=
      State.guarded_iff.2 fun y => by
        by_cases hy : y = z
        · exact hy ▸ hz
        · exact hothers hy hs
    unfold reroute
    rw [hcfg, hlatch]
    split
    · next hsame =>
      refine hjudged.writeZone hvalid fun hs => hjudged.guarded (hguarded ?_ hs)
      rcases hsame with hsame | hopen
      · exact guardsAt_of_eq (s := s) (fun _ => rfl) id (by rw [setZoneCfg_same]; exact hsame.symm) (State.guarded_iff.1 hs z)
      · intro l v _ _ hl
        have hl' : s.latched z = true := hl
        rw [hl'] at hopen
        cases hopen
    · split
      · next hreport =>
        have hunrouted : Kept u (unrouteHold z u) :=
          (unrouteHold_acted (B := fun _ => True) z u).kept (fun _ _ => trivial) (fun _ _ _ _ _ => trivial) fun y _ hr => by
            rintro rfl
            rw [hcfg, hreport.2] at hr
            cases hr
        refine (hjudged.trans hunrouted).writeZone hvalid fun hs => (hjudged.trans hunrouted).guarded (hguarded ?_ hs)
        intro l v _ _ _
        rw [setZoneCfg_same, hreport.2]
        exact ⟨nofun, nofun⟩
      · have hrouted : Acted (fun _ => True) (fun _ => True) u (routeTrip z u) := routeTrip_acted z u
        refine (hjudged.trans hrouted.kept_all).writeZone hvalid fun hs => State.guarded_iff.2 fun y => ?_
        by_cases hy : y = z
        · subst hy
          exact routeTrip_guards y u
        · refine (hreported.trans hrouted).guardsAt trivial ?_
          rw [judgeWarn_eq]
          exact guardsAt_of_eq (s := s.setZoneCfg z x) (fun _ => rfl) id rfl (hothers hy hs)
  · exact .deny

end

end Sys2Proof.Machine
end

section
/-! PROOFS. The statements on every step: what is kept by every event and every request is kept by every step. -/

namespace Sys2Proof.Machine

/-- A request keeps every invariant, while the link is in service (R165, R169). -/
theorem handle_kept (i : Instr) (s : State) (hok : s.link.state = .ok) : Kept s (handle i s).1 := by
  change KeptBy s (handle i s)
  cases i
  case defsec => exact reqDefsec_kept ..
  case defhole => exact reqDefhole_kept ..
  case defstage => exact reqDefstage_kept ..
  case deflim => exact .ite (fun hr => storeLimits_kept _ _ _ (inRange_iff.1 (by
    simp only [Bool.and_eq_true] at hr
    exact hr.1.1))) fun _ => .deny
  case defband => exact reqDefband_kept ..
  case defmix => exact reqDefmix_kept ..
  case lock | unlock => exact setLock_kept ..
  case purge => exact reqPurge_kept ..
  case wipe => exact reqWipe_kept
  case qstage | qhole | qlim | qband | qmix => exact query_kept ..
  case linecfg => exact reqLinecfg_kept ..
  case probe =>
    simp only [handle, reqProbe]
    split
    · exact .answer
    · exact .accept (.refl s)
  case bind => exact reqBind_kept ..
  case start => exact reqStart_kept _ hok
  case pause => exact reqPause_kept ..
  case resume => exact reqResume_kept ..
  case abort => exact reqAbort_kept ..
  case release => exact reqRelease_kept ..
  case tankcfg => exact reqTankcfg_kept ..
  case batch => exact reqBatch_kept ..
  case empty => exact reqEmpty_kept ..
  case qtank | qline =>
    simp only [handle, reqQtank, reqQline]
    split
    · exact .deny
    · exact .accept (.refl s)
  case gaugecfg => exact reqGaugecfg_kept ..
  case zonecfg => exact reqZonecfg_kept ..
  case zero => exact reqZero_kept ..
  case hclear => exact reqHclear_kept ..
  case qgauge =>
    simp only [handle, reqQgauge]
    split
    · split
      · exact .deny
      · exact .accept (.refl s)
    · split
      · exact .deny
      · exact .accept (.refl s)
    · exact .deny
  case linkcfg => exact reqLinkcfg_kept ..
  case clearsafe => exact reqClearsafe_kept
  case status => exact reqStatus_kept
  all_goals exact .deny

/-- What every event and every request keeps. -/
theorem stepKept_kept (s₀ : State) : StepKept (Kept s₀) where
  link s k hk hb h := h.trans (.link s k (fun hlost => hk.symm.trans hlost) hb)
  pending s p h :=
    have hset : Kept s { s with pending := p } := .of_eq
    h.trans hset
  tick s h := h.trans (tick_kept s)
  supervise s h := h.trans (superviseFrame_kept s)
  handle i s hok h := h.trans (handle_kept i s hok)
  sample l current s h := h.trans (evSample_kept l current s)
  holdTimer l s h := h.trans (evHoldTimer_kept l s)
  localKey l on s h := h.trans (evLocalKey_kept l on s)
  pulse l s h := h.trans (evPulse_kept l s)
  tankDraw k volume s h := h.trans (evTankDraw_kept k volume s)
  mixRequest k l m s h := h.trans (evMixRequest_kept k l m s)
  adopt k l m s h := h.trans (evAdopt_kept k l m s)
  headExamination k s h := h.trans (evHeadExamination_kept k s)
  tankNotice l s h := h.trans (evTankNotice_kept l s)
  gaugeConversion n s h := h.trans (evGaugeConversion_kept n s)
  t1Expiry s h := h.trans (evT1Expiry_kept s)
  t2Expiry s h := h.trans (evT2Expiry_kept s)
  loseSupply s h := h.trans (loseSupply_kept s)
  powerOn low lost opened keys s h := h.trans (evPowerOn_kept low lost opened keys s)
  battery low s h := h.trans (evBattery_kept low s)
  loopOpen s h := h.trans (evLoopOpen_kept s)
  loopClosed s h := h.trans (evLoopClosed_kept s)

/-- Every step keeps every invariant. -/
theorem step_kept {s t : State} (h : step s = .next t) : Kept s t := (stepKept_kept s).step h (.refl s)

/-! ### No frame waits beside an idle transmitter (R168) -/

/-- An idle transmitter finds no frame waiting. -/
def State.frameStarted (s : State) : Prop := s.link.tx = none → s.link.answers = [] ∧ s.link.reports = []

theorem startFrame_frameStarted (s : State) : (startFrame s).frameStarted := by
  intro htx
  unfold startFrame at htx ⊢
  split at htx
  · next h => rw [h] at htx; cases htx
  · split at htx
    · cases htx
    · next hanswers =>
      split at htx
      · cases htx
      · next hreports =>
        simp only [hanswers, hreports, and_self]

theorem takeEvent_frameStarted {f : State → State} {s t : State} (h : takeEvent f s = .next t) (hs : s.frameStarted) :
    t.frameStarted := by
  cases good : s.supply.failed with
  | true =>
    rw [takeEvent_failed f s good] at h
    cases h
    exact hs
  | false =>
    rw [takeEvent_good f s good] at h
    cases h
    exact startFrame_frameStarted _

theorem exec_frameStarted {i : Instr} {s t : State} (h : exec i s = .next t) (hs : s.frameStarted) : t.frameStarted := by
  cases hk : requestKind i with
  | some k =>
    rw [exec_request hk] at h
    exact takeEvent_frameStarted h hs
  | none =>
    cases i
    case powerOn =>
      cases h
      exact startFrame_frameStarted _
    case byteArrival | gapTimerExpiry | frameSent | t1Expiry | t2Expiry | sample | holdTimerExpiry | localKeyChange
        | flowmeterPulse | tankDraw | mixRequest | adopt | headExamination | tankNotice | gaugeConversion | supplyFailure
        | batteryChange | loopOpen | loopClosed => exact takeEvent_frameStarted h hs
    all_goals cases hk

theorem tick_frameStarted {s : State} (hs : s.frameStarted) : (tick s).frameStarted := by
  unfold tick
  split
  · exact hs
  · exact hs

theorem step_frameStarted {s t : State} (h : step s = .next t) (hs : s.frameStarted) : t.frameStarted := by
  unfold step at h
  split at h
  · exact exec_frameStarted h hs
  · split at h
    · exact exec_frameStarted h hs
    · cases h
      exact tick_frameStarted hs

/-! ### The statements -/

/-- Settles O56: `step_kept`. -/
theorem stepKeepsTankAccounts : Obligations.StepKeepsTankAccounts := fun _ _ h hbalanced hunset =>
  (step_kept h).accounted ⟨hbalanced, hunset⟩

/-- Settles O57: `step_kept`, and `step_frameStarted` for the transmitter. -/
theorem stepKeepsQueueBounds : Obligations.StepKeepsQueueBounds := fun _ _ h =>
  ⟨fun ⟨hanswers, hreports, hidle⟩ =>
    have hbounded := (step_kept h).bounded ⟨hanswers, hreports⟩
    ⟨hbounded.1, hbounded.2, step_frameStarted h hidle⟩, (step_kept h).requests⟩

/-- Settles O58: `step_kept`. -/
theorem stepKeepsDemandsAndHolds : Obligations.StepKeepsDemandsAndHolds := fun _ _ h => ⟨(step_kept h).demands, (step_kept h).holds⟩

/-- Settles O59: `step_kept`. -/
theorem stepKeepsTheGuards : Obligations.StepKeepsTheGuards := fun _ _ h => ⟨(step_kept h).stopped, (step_kept h).guarded⟩

/-- Settles O60: `step_kept`. -/
theorem stepKeepsPlanAndBindings : Obligations.StepKeepsPlanAndBindings := fun _ _ h =>
  ⟨(step_kept h).canonical, (step_kept h).config, fun hcanonical hplanned hlaws => (step_kept h).plan hcanonical ⟨hplanned, hlaws⟩⟩

end Sys2Proof.Machine
end

section
/-! PROOFS. A whole tank event: what its work leaves of the tank and the reports, and what its close sends (R121, R136, R137). -/

namespace Sys2Proof.Machine

section
variable {s t u before : State} {k : TankId} {x y : Tank} {w : TankWork} {ns : LineId → Option Notice} {rs qs : List Report}
  {l : LineId}

/-! ### The work of an event -/

/-- Inside an event that began in `s`, tank `k` stands as `x` and these reports are queued; no line and no hand-off has moved. -/
structure TankWork.Stands (s : State) (k : TankId) (w : TankWork) (x : Tank) (rs : List Report) : Prop where
  state : w.s = { s with tanks := s.tanks.set k x, link := w.s.link }
  link : w.s.link = { s.link with reports := w.s.link.reports, missed := w.s.link.missed }
  queued : s.takes rs → Queued s w.s rs

theorem State.tanks_set_tank (s : State) (k : TankId) : s.tanks.set k (s.tank k) = s.tanks := Vector.set_getElem_self ..

namespace TankWork.Stands

theorem start (s : State) (k : TankId) (notes : Vector (Option Notice) 6) (reqs : List MixReport) :
    TankWork.Stands s k { s := s, notes := notes, reqs := reqs } (s.tank k) [] where
  state := by rw [State.tanks_set_tank]
  link := rfl
  queued _ := .refl s

theorem tank (h : w.Stands s k x rs) : w.s.tank k = x := by rw [h.state]; simp [State.tank]

theorem line (h : w.Stands s k x rs) (l : LineId) : w.s.line l = s.line l := by rw [h.state]; rfl

theorem live (h : w.Stands s k x rs) (l : LineId) : w.s.live l = s.live l := by rw [h.state]; rfl

theorem ctx (h : w.Stands s k x rs) (l : LineId) : w.s.ctx l = s.ctx l := by rw [h.state]; rfl

theorem boundLines (h : w.Stands s k x rs) (j : TankId) : w.s.boundLines j = s.boundLines j := by rw [h.state]; rfl

theorem reserve (h : w.Stands s k x rs) (j : TankId) : w.s.reserve j = s.reserve j := by rw [h.state]; rfl

theorem uptime (h : w.Stands s k x rs) : w.s.uptime = s.uptime := by rw [h.state]; rfl

/-- What the event has to tell the lines, and its MIXREQ reports, are no part of its work on the tank. -/
theorem told {w' : TankWork} (h : w.Stands s k x rs) (hs : w'.s = w.s := by rfl) : w'.Stands s k x rs :=
  ⟨by rw [hs]; exact h.state, by rw [hs]; exact h.link, by rw [hs]; exact h.queued⟩

theorem setTank (h : w.Stands s k x rs) (y : Tank) : TankWork.Stands s k { w with s := w.s.setTank k y } y rs where
  state := by
    show w.s.setTank k y = _
    rw [h.state]
    simp [State.setTank]
  link := h.link
  queued room := (h.queued room).link_eq rfl

theorem report (h : w.Stands s k x rs) (r : Report) : TankWork.Stands s k { w with s := w.s.report r } x (rs ++ [r]) where
  state := by
    show w.s.report r = _
    rw [State.report_eq, h.state]
  link := by
    show (w.s.report r).link = _
    rw [State.report_eq, h.link]
  queued room := by
    have hroom := room (List.append_ne_nil_of_right_ne_nil rs (List.cons_ne_nil r []))
    rw [List.length_append] at hroom
    exact (h.queued room.left).report r (hroom.lt (Nat.lt_succ_self _))

end TankWork.Stands

/-! ### TANK reports (R136) -/

/-- A TANK report reads of a tank its account, its reserve and the uptime alone. -/
theorem tankChange_congr {s' t' : State} (htank : (s'.tank k) = s.tank k) (hreserve : s'.reserve k = s.reserve k)
    (hup : s'.uptime = s.uptime) {q : List (LineId × Nat)} (htank' : { t'.tank k with queue := q } = { t.tank k with queue := q })
    (hreserve' : t'.reserve k = t.reserve k) (e : TankEvent) (requester : Option LineId) (followers : List (LineId × Nat))
    (mismatched : LineSet) :
    tankChange s' t' k e requester followers mismatched = tankChange s t k e requester followers mismatched := by
  simp only [Tank.mk.injEq, and_true] at htank'
  obtain ⟨h1, h2, h3, h4, h5, h6, -, -⟩ := htank'
  unfold tankChange State.tankState
  rw [htank, hreserve, hup, h1, h2, h3, h4, h5, h6, hreserve']

theorem tankReport_eq (hup : s.uptime = before.uptime) (e : TankEvent) (requester : Option LineId)
    (followers : List (LineId × Nat)) (mismatched : LineSet) :
    tankReport k e before requester followers mismatched s =
      s.report (tankChange before s k e requester followers mismatched) := by
  unfold tankReport tankChange
  rw [hup]

/-- The TANK report of a change of state is queued where the state has changed (R136). -/
theorem TankWork.Stands.reportIfChanged (h : w.Stands s k x rs) (hup : before.uptime = s.uptime) (e : TankEvent) :
    TankWork.Stands s k { w with s := reportIfChanged k e before w.s } x
      (rs ++ if before.tankState k = w.s.tankState k then [] else [tankChange before w.s k e none [] 0]) := by
  unfold Sys2Proof.Machine.reportIfChanged
  split
  · rw [List.append_nil]; exact h
  · rw [tankReport_eq (h.uptime.trans hup.symm)]
    exact h.report _

theorem TankWork.Stands.reportChange {a : Settled} (h : a.w.Stands s k x rs) (hup : before.uptime = s.uptime) (e : TankEvent)
    (requester : Option LineId) :
    (Sys2Proof.Machine.reportChange k e before requester a).Stands s k x
      (rs ++ [tankChange before a.w.s k e requester a.followers a.mismatched]) := by
  unfold Sys2Proof.Machine.reportChange
  rw [tankReport_eq (h.uptime.trans hup.symm)]
  exact h.report _

/-! ### The close of an event -/

/-- From `s` to `t` each line has the notice it is sent, handed over in the order of the lines' numbers. -/
structure Sent (s t : State) (ns : LineId → Option Notice) : Prop where
  lines : ∀ l, t.line l = { s.line l with notices := (s.line l).notices ++ (ns l).toList }
  handed : t.handoffs = s.handoffs ++ allLines.flatMap (fun l => if (ns l).isSome then [.tankNotice l] else [])

/-- A whole tank event from `s` to `t`: the tank stands as `x`, the lines have these notices, and these reports are queued. -/
structure TankStep (s t : State) (k : TankId) (x : Tank) (ns : LineId → Option Notice) (rs : List Report) : Prop where
  state : t = { s with tanks := s.tanks.set k x, lines := t.lines, handoffs := t.handoffs, link := t.link }
  sent : Sent s t ns
  queued : s.takes rs → Queued s t rs

/-- The MIXREQ reports of an event in the order of the lines' numbers (R137). -/
def flushed (reqs : List MixReport) : List Report :=
  (allLines.flatMap (fun l => reqs.filter (fun r => r.line == l))).map .mixreq

theorem Queued.reportAll {qs : List Report} (h : Queued s u rs) (room : s.roomFor (rs.length + qs.length)) :
    Queued s (u.reportAll qs) (rs ++ qs) := by
  induction qs generalizing u rs with
  | nil => rw [List.append_nil]; exact h
  | cons q rest ih =>
    have hq := h.report q (room.lt (by simp))
    have hrest := ih hq (room.mono (by simp; omega))
    rw [List.append_assoc] at hrest
    exact hrest

theorem State.reportAll_only_link (s : State) (rs : List Report) : s.reportAll rs = { s with link := (s.reportAll rs).link } := by
  induction rs generalizing s with
  | nil => rfl
  | cons r rest ih =>
    obtain ⟨k, hk⟩ : ∃ k, s.report r = { s with link := k } := ⟨_, State.report_eq s r⟩
    show (s.report r).reportAll rest = { s with link := ((s.report r).reportAll rest).link }
    rw [hk]
    exact ih { s with link := k }

theorem sendNotices_only (xs : List (LineId × Option Notice)) (s : State) :
    xs.foldl sendNoticeIf s =
      { s with lines := (xs.foldl sendNoticeIf s).lines, handoffs := (xs.foldl sendNoticeIf s).handoffs } := by
  induction xs generalizing s with
  | nil => rfl
  | cons n rest ih => rw [List.foldl_cons, ih, sendNoticeIf_eq]

theorem closeTank_only (k : TankId) (before : State) (w : TankWork) :
    closeTank k before w = { w.s with
      lines := (closeTank k before w).lines, handoffs := (closeTank k before w).handoffs
      link := (w.s.reportAll (flushed w.reqs)).link } := by
  unfold closeTank
  rw [sendNotices_only]
  dsimp only
  rw [show flushReqs w.reqs w.s = w.s.reportAll (flushed w.reqs) from rfl, State.reportAll_only_link]

/-- The close of an event sends the notices and queues the MIXREQ reports. -/
theorem TankWork.Stands.closed (h : w.Stands s k x rs) (hns : ∀ l, w.noticeTo k before l = ns l) :
    TankStep s (closeTank k before w) k x ns (rs ++ flushed w.reqs) where
  state := by rw [closeTank_only, h.state]
  sent :=
    { lines := fun l => by rw [(closeTank_spec k before w).2 l, hns, h.line]
      handed := by
        rw [(closeTank_spec k before w).1, h.state]
        simp only [hns] }
  queued room := by
    have hq := h.queued room.left
    by_cases he : rs ++ flushed w.reqs = []
    · obtain ⟨h1, h2⟩ := List.append_eq_nil_iff.1 he
      rw [h1] at hq
      rw [he]
      refine hq.link_eq ?_
      rw [closeTank_only, h2]
      rfl
    · have hall := hq.reportAll (qs := flushed w.reqs) (by rw [← List.length_append]; exact room he)
      refine hall.link_eq ?_
      rw [closeTank_only]

/-- What an event has to say to the lines, before its plain notices: a plain notice to every bound line where it notifies. -/
theorem noticeTo_eq (h : w.Stands s k x rs) (hnotes : ∀ l : LineId, w.notes[l] = none) (hb : before.tanks = s.tanks) :
    w.noticeTo k before = fun l =>
      if ((s.tank k).mix ≠ x.mix ∨ (s.tank k).contents ≠ x.contents ∨ before.reserve k ≠ s.reserve k) ∧
        (s.ctx l).any (fun c => c.tank == k) = true then some Notice.plain else none := by
  have hmoved : w.moved k = false := by
    unfold TankWork.moved TankWork.stepOf
    rw [List.any_eq_false]
    intro l _
    rw [hnotes l]
    simp
  have htank : before.tank k = s.tank k := by unfold State.tank; rw [hb]
  funext l
  unfold TankWork.noticeTo TankWork.notifies
  rw [hnotes l, hmoved, h.tank, h.ctx, h.reserve, htank]
  simp [or_assoc, Bool.and_eq_true]

theorem flatMap_notices (p : LineId → Bool) {ns : LineId → Option Notice} (h : ∀ l, (ns l).isSome = p l) :
    allLines.flatMap (fun l => if (ns l).isSome then [Instr.tankNotice l] else []) = (allLines.filter p).map .tankNotice := by
  simp only [h]
  induction allLines with
  | nil => rfl
  | cons l rest ih =>
    rw [List.flatMap_cons, ih, List.filter_cons]
    split <;> rfl

/-- An event with plain notices notifies the bound lines. -/
theorem Sent.notified (h : Sent s t ns) {p : Prop} [Decidable p]
    (hns : ns = fun l => if p ∧ (s.ctx l).any (fun c => c.tank == k) = true then some Notice.plain else none) :
    (¬p → t.lines = s.lines ∧ t.handoffs = s.handoffs) ∧ (p → Notified s t k) := by
  subst hns
  refine ⟨fun hp => ⟨?_, ?_⟩, fun hp => ⟨fun l => ?_, ?_⟩⟩
  · refine Vector.ext fun i hi => ?_
    have hl := h.lines ⟨i, hi⟩
    rw [if_neg fun hn => hp hn.1] at hl
    exact hl.trans (by rw [Option.toList_none, List.append_nil]; rfl)
  · rw [h.handed, flatMap_notices (fun _ => false) fun l => by rw [if_neg fun hn => hp hn.1]; rfl]
    simp
  · rw [h.lines l]
    by_cases hb : (s.ctx l).any (fun c => c.tank == k) = true
    · rw [if_pos ⟨hp, hb⟩, if_pos hb]; rfl
    · rw [if_neg fun hn => hb hn.2, if_neg hb, Option.toList_none, List.append_nil]
  · rw [h.handed, State.boundLines]
    congr 1
    refine flatMap_notices _ fun l => ?_
    cases hb : (s.ctx l).any (fun c => c.tank == k) with
    | true => rw [if_pos ⟨hp, rfl⟩]; rfl
    | false => rw [if_neg fun hn => nomatch hn.2]; rfl

theorem TankStep.reports_eq (h : TankStep s t k x ns rs) (he : rs = qs) : TankStep s t k x ns qs := he ▸ h

/-! ### The event as it is taken -/

/-- A tank event that is no request, taken with the supply good. -/
theorem TankStep.event {i : Instr} {f : State → State} (good : s.supply.failed = false) (hexec : exec i s = takeEvent f s)
    (hf : TankStep (s.taken i) (f s) k x ns rs) (room : s.takes rs) :
    ∃ t, exec i s = .next t ∧
      t = { s with tanks := s.tanks.set k x, lines := t.lines, handoffs := t.handoffs, link := t.link } ∧
      Sent (s.taken i) t ns ∧ Reported s t rs := by
  obtain ⟨k', hnext, hrep⟩ := takeEvent_reported good (f := f) (rs := rs) (hf.queued room)
  refine ⟨_, hexec.trans hnext, ?_, ⟨hf.sent.lines, hf.sent.handed⟩, hrep⟩
  rw [hf.state]
  rfl

/-- A tank request, taken while the part listens. -/
theorem TankStep.request {c : Instr} {kind' kind : Byte} {r : Reply} (hl : s.Listening) (hk : requestKind c = some kind')
    (hkind : kind = kind' + 0x80) (hf : handle c (reloadT1 s) = (u, r)) (h : TankStep (reloadT1 s) u k x ns rs)
    (room : s.takes rs) :
    ∃ t, exec c s = .next t ∧
      t = { s with tanks := s.tanks.set k x, lines := t.lines, handoffs := t.handoffs, link := t.link } ∧
      Sent s t ns ∧ Answered s t kind (requestTag c) r.result r.body rs := by
  obtain ⟨k', hnext, hans⟩ := exec_answered hl hk hkind hf (h.queued room)
  refine ⟨_, hnext, ?_, ⟨h.sent.lines, h.sent.handed⟩, hans⟩
  rw [h.state]
  rfl

/-- The TANK report of a change of state, where there is one (R136). -/
def changeReports (before t : State) (k : TankId) (e : TankEvent) : List Report :=
  if before.tankState k = t.tankState k then [] else [tankChange before t k e none [] 0]

theorem changeReports_congr {s' t' : State} (htank : s'.tank k = s.tank k) (hreserve : s'.reserve k = s.reserve k)
    (hup : s'.uptime = s.uptime) (htank' : t'.tank k = t.tank k) (hreserve' : t'.reserve k = t.reserve k) (e : TankEvent) :
    changeReports s' t' k e = changeReports s t k e := by
  unfold changeReports State.tankState tankChange State.tankState
  rw [htank, hreserve, hup, htank', hreserve']

theorem changeReports_length (before t : State) (k : TankId) (e : TankEvent) : (changeReports before t k e).length ≤ 1 := by
  unfold changeReports
  split
  · exact Nat.zero_le _
  · exact le_refl _

theorem tank_of_set (h : t = { s with tanks := s.tanks.set k x, lines := t.lines, handoffs := t.handoffs, link := t.link }) :
    t.tank k = x ∧ t.reserve k = s.reserve k := by
  refine ⟨?_, ?_⟩ <;> rw [h]
  · simp [State.tank]
  · rfl

/-- One write of tank `k` inside its event, with the report of a change of state and the plain notices it makes. -/
theorem tankEvent_write (e : TankEvent) (f : Tank → Tank) (hf : f (s.tank k) = x) (hmix : x.mix = (s.tank k).mix) :
    TankStep s (tankEvent k (fun w => { w with s := reportIfChanged k e w.s (w.s.setTank k (f (w.s.tank k))) }) s) k x
      (fun l => if (s.tank k).contents ≠ x.contents ∧ (s.ctx l).any (fun c => c.tank == k) = true then some Notice.plain else none)
      (changeReports s (s.setTank k x) k e) := by
  subst hf
  have hwork := (TankWork.Stands.start s k (Vector.replicate 6 none) []).setTank (f (s.tank k))
  have hreport := hwork.reportIfChanged (before := s) rfl e
  refine (hreport.closed (before := s) fun l => ?_).reports_eq (List.append_nil _)
  rw [noticeTo_eq hreport (by intro l; simp) rfl, hmix]
  simp

/-! ### The reserve (R124) -/

theorem changeReserve_step (r : Nat) (e : TankEvent) :
    TankStep (s.setReserve k r) (changeReserve k r e s) k (s.tank k)
      (fun l => if s.reserve k ≠ r ∧ (s.ctx l).any (fun c => c.tank == k) = true then some Notice.plain else none)
      (changeReports s (s.setReserve k r) k e) := by
  have hreport := (TankWork.Stands.start (s.setReserve k r) k (Vector.replicate 6 none) []).reportIfChanged (before := s) rfl e
  have hreserve : (s.setReserve k r).reserve k = r := by simp [State.reserve, State.setReserve, State.modStore]
  refine (hreport.closed (before := s) fun l => ?_).reports_eq (List.append_nil _)
  have hctx : (s.setReserve k r).ctx l = s.ctx l := rfl
  refine (congrFun (noticeTo_eq (before := s) hreport (by intro l; simp) rfl) l).trans ?_
  rw [hreserve, hctx]
  have htank : (s.setReserve k r).tank k = s.tank k := rfl
  simp [htank]

/-- Settles O40: the reserve is written before the tank is judged; the close sends plain notices where it has changed. -/
theorem tankcfgStoresTheReserve : Obligations.TankcfgStoresTheReserve := by
  intro s tag reserve hl room
  refine ⟨fun tank htank => .denied hl rfl rfl ?_, fun k => ?_⟩
  · show reqTankcfg .. = _
    rw [reqTankcfg, tankOf_none (not_inRange_iff.2 htank)]
  · intro r
    have hr : clampN 20000 500000 reserve = r := clampN_eq (by decide) reserve
    have hstep := changeReserve_step (s := reloadT1 s) (k := k) r .tankcfg
    have hreq : handle (.tankcfg tag (k.val + 1) reserve) (reloadT1 s) =
        acceptAdjusted (changeReserve k r .tankcfg (reloadT1 s)) (decide (r ≠ reserve)) (u32 r) := by
      show reqTankcfg .. = _
      rw [reqTankcfg, tankOf_val]
      dsimp only
      rw [hr]
    obtain ⟨k', hexec, hans⟩ := exec_answered (kind := 0x91) hl rfl rfl hreq
      (hstep.queued (State.roomFor.takes (s := reloadT1 s) room (changeReports_length ..)))
    generalize changeReserve k r .tankcfg (reloadT1 s) = u at hstep hexec hans
    have hstate : ({ u with link := k' } : State) = { s with
        store := { s.store with reserve := s.store.reserve.set k r }, lines := u.lines, handoffs := u.handoffs, link := k' } := by
      have hsame := State.tanks_set_tank s k
      have hlines := hstep.state
      generalize u.lines = lines, u.handoffs = handoffs at hlines ⊢
      rw [hlines, ← hsame]
      rfl
    have hsent : Sent s { u with link := k' } _ := ⟨hstep.sent.lines, hstep.sent.handed⟩
    obtain ⟨hstill, hsends⟩ := hsent.notified rfl
    refine ⟨_, hexec, hstate, fun h => hstill (not_not.2 h.symm), fun h => hsends (Ne.symm h), ?_⟩
    have htank : u.tank k = s.tank k := by
      rw [hstep.state]
      simp [State.tank]
      rfl
    have hreserve : u.reserve k = ((reloadT1 s).setReserve k r).reserve k := by rw [hstep.state]; rfl
    have hreports := changeReports_congr (k := k) (s := s) (s' := reloadT1 s) (t := { u with link := k' })
      (t' := (reloadT1 s).setReserve k r) rfl rfl rfl htank.symm hreserve.symm .tankcfg
    rw [hreports] at hans
    have hresult : (if decide (r ≠ reserve) = true then Result.okAdjusted else .ok) =
        if r = reserve then .ok else .okAdjusted := by
      by_cases he : r = reserve <;> simp [he]
    rw [← hresult]
    exact hans

/-! ### A draw (R123) -/

/-- Settles O41: the work is one write and its report; the close sends plain notices where the contents have changed. -/
theorem drawIsDebitedInFull : Obligations.DrawIsDebitedInFull := by
  intro s k volume good room before part
  obtain ⟨x, hx⟩ : ∃ x, drawFrom (s.tank k) volume = x := ⟨_, rfl⟩
  have hstep := tankEvent_write (s := s.taken (.tankDraw k volume)) (k := k) .draw (drawFrom · volume) hx (by rw [← hx]; rfl)
  obtain ⟨t, hexec, hstate, hsent, hrep⟩ := TankStep.event good (f := evTankDraw k volume) rfl hstep
    (room.takes (changeReports_length ..))
  obtain ⟨htank, hreserve⟩ := tank_of_set hstate
  obtain ⟨hstill, hsends⟩ := hsent.notified rfl
  have hpart : part ≠ 0 ↔ (s.tank k).contents ≠ x.contents := by
    rw [← hx]
    show part ≠ 0 ↔ (s.tank k).contents ≠ (s.tank k).contents - part
    have hle : part ≤ (s.tank k).contents := Nat.min_le_right ..
    omega
  refine ⟨t, hexec, ?_, fun h => ?_, fun h => hsends (hpart.1 h), ?_⟩
  · subst hx
    exact hstate
  · exact hstill fun hne => hpart.2 hne h
  · have hreports := changeReports_congr (s := s) (s' := s.taken (.tankDraw k volume)) (t := t)
      (t' := (s.taken (.tankDraw k volume)).setTank k x) rfl rfl rfl ((State.tank_setTank_self ..).trans htank.symm)
      hreserve.symm .draw
    rw [hreports] at hrep
    exact hrep

end

end Sys2Proof.Machine
end

section
/-! PROOFS. The settling of a tank's lines against a mix (R130). -/

namespace Sys2Proof.Machine

section
variable {s t : State} {k : TankId} {x : Tank} {w : TankWork} {rs : List Report} {l : LineId} {m : Nat} {granted : Option LineId}

/-- What the settling of tank `k` against mix `m` says to a line bound to it, over this queue (R130). -/
def State.settledNotice (s : State) (k : TankId) (m : Nat) (queue : List (LineId × Nat)) (l : LineId) : Notice :=
  (s.followedStep k m l).elim { step := none, pend := none, mismatch := some true, reported := false } fun j =>
    { step := some j, pend := some none, mismatch := some false, reported := queue.any (fun q => q.1 == l) }

/-- The MIXREQ report of a line in the settling of tank `k` against mix `m`, where its entry leaves this queue (R130, R137). -/
def State.settledReq (s : State) (k : TankId) (m : Nat) (queue : List (LineId × Nat)) (granted : Option LineId) (l : LineId) :
    List MixReport :=
  (s.followedStep k m l).elim [] fun j =>
    (queue.find? (fun q => q.1 == l)).toList.map fun q =>
      { tank := k, line := l, mix := q.2, disposition := followerDisposition granted l m q.2, position := 0, step := j }

/-- A line is bound to tank `k`. -/
def State.boundTo (s : State) (k : TankId) (l : LineId) : Bool := (s.ctx l).any (fun c => c.tank == k)

theorem State.boundTo_iff : s.boundTo k l = true ↔ ∃ c, s.ctx l = some c ∧ c.tank = k := by
  unfold State.boundTo
  cases s.ctx l <;> simp

theorem State.follows_bound (h : s.follows k m l = true) : s.boundTo k l = true := by
  unfold State.follows State.followedStep at h
  rw [State.boundTo_iff]
  cases hc : s.ctx l with
  | none => rw [hc] at h; cases h
  | some c =>
    rw [hc] at h
    by_cases ht : c.tank = k
    · exact ⟨c, rfl, ht⟩
    · simp [ht] at h

theorem State.followedStep_none (h : s.boundTo k l = false) : s.followedStep k m l = none := by
  cases hf : s.followedStep k m l with
  | none => rfl
  | some j =>
    have hb := State.follows_bound (s := s) (k := k) (m := m) (l := l) (by unfold State.follows; rw [hf]; rfl)
    exact absurd (h.symm.trans hb) nofun

/-! ### One line -/

section
variable {a : Settled} {c : Context} {j : Nat} (h : a.w.Stands s k x rs) (hc : s.ctx l = some c) (ht : c.tank = k)
  (hstep : (a.w.notes[l]).bind (·.step) = none)
include h hstep in
theorem stepOf_eq : a.w.stepOf l c = (s.line l).step c := by
  unfold TankWork.stepOf
  rw [hstep, h.line]
  rfl

include h hc ht hstep

theorem settleLine_follows (hj : s.followedStep k m l = some j) :
    (settleLine k m granted a l).w.Stands s k { x with queue := x.queue.filter (fun q => q.1 != l) } rs ∧
      (settleLine k m granted a l).w.notes = (a.w.note l (s.settledNotice k m x.queue l)).notes ∧
      (settleLine k m granted a l).w.reqs = a.w.reqs ++ s.settledReq k m x.queue granted l ∧
      (settleLine k m granted a l).followers = a.followers ++ [(l, j)] ∧
      (settleLine k m granted a l).mismatched = a.mismatched := by
  have hlater : laterStep c.ladder (a.w.stepOf l c) m = some j := by
    rw [stepOf_eq h hstep]
    unfold State.followedStep at hj
    rw [hc] at hj
    simpa [ht] using hj
  have hctx : a.w.s.ctx l = some c := (h.ctx l).trans hc
  have hsettle : settleLine k m granted a l =
      { w := { (({ a.w with s := a.w.s.setTank k { x with queue := x.queue.filter (fun q => q.1 != l) } } : TankWork).note l
            (s.settledNotice k m x.queue l)) with reqs := a.w.reqs ++ s.settledReq k m x.queue granted l }
        followers := a.followers ++ [(l, j)], mismatched := a.mismatched } := by
    unfold settleLine
    rw [hctx]
    dsimp only
    rw [hlater]
    dsimp only
    rw [h.tank]
    unfold State.settledNotice State.settledReq
    rw [hj]
    rfl
  rw [hsettle]
  exact ⟨(h.setTank _).told, rfl, rfl, rfl, rfl⟩

theorem settleLine_differs (hj : s.followedStep k m l = none) :
    (settleLine k m granted a l).w.Stands s k x rs ∧
      (settleLine k m granted a l).w.notes = (a.w.note l (s.settledNotice k m x.queue l)).notes ∧
      (settleLine k m granted a l).w.reqs = a.w.reqs ++ s.settledReq k m x.queue granted l ∧
      (settleLine k m granted a l).followers = a.followers ∧
      (settleLine k m granted a l).mismatched = a.mismatched ||| BitVec.twoPow 6 l.val := by
  have hlater : laterStep c.ladder (a.w.stepOf l c) m = none := by
    rw [stepOf_eq h hstep]
    unfold State.followedStep at hj
    rw [hc] at hj
    simpa [ht] using hj
  have hctx : a.w.s.ctx l = some c := (h.ctx l).trans hc
  have hsettle : settleLine k m granted a l =
      { w := a.w.note l (s.settledNotice k m x.queue l), followers := a.followers
        mismatched := a.mismatched ||| BitVec.twoPow 6 l.val } := by
    unfold settleLine
    rw [hctx]
    dsimp only
    rw [hlater]
    unfold State.settledNotice
    rw [hj]
    rfl
  rw [hsettle]
  refine ⟨h.told, rfl, ?_, rfl, rfl⟩
  unfold State.settledReq
  rw [hj]
  exact (List.append_nil _).symm

end

/-! ### Every line of the tank -/

/-- The queue without the entries of these lines, where they follow. -/
def State.withoutFollowers (s : State) (k : TankId) (m : Nat) (ls : List LineId) (queue : List (LineId × Nat)) :
    List (LineId × Nat) := queue.filter (fun q => !(ls.contains q.1 && s.follows k m q.1))

theorem settledNotice_filter {queue : List (LineId × Nat)} {p : LineId} (hne : l ≠ p) :
    s.settledNotice k m (queue.filter (fun q => q.1 != p)) l = s.settledNotice k m queue l := by
  have hany : (queue.filter (fun q => q.1 != p)).any (fun q => q.1 == l) = queue.any (fun q => q.1 == l) := by
    rw [List.any_filter]
    congr 1
    funext q
    by_cases hq : q.1 = l
    · simp [hq, hne]
    · simp [hq]
  unfold State.settledNotice
  rw [hany]

theorem settledReq_filter {queue : List (LineId × Nat)} {p : LineId} (hne : l ≠ p) :
    s.settledReq k m (queue.filter (fun q => q.1 != p)) granted l = s.settledReq k m queue granted l := by
  have hfind : (queue.filter (fun q => q.1 != p)).find? (fun q => q.1 == l) = queue.find? (fun q => q.1 == l) := by
    rw [List.find?_filter]
    congr 1
    funext q
    by_cases hq : q.1 = l
    · simp [hq, hne]
    · simp [hq]
  unfold State.settledReq
  rw [hfind]

/-- Lines settled one after another. -/
theorem settleLines_spec (ls : List LineId) (hn : ls.Nodup) (hbound : ∀ l ∈ ls, s.boundTo k l = true) (a : Settled) {x : Tank}
    (h : a.w.Stands s k x rs) (hsteps : ∀ l ∈ ls, (a.w.notes[l]).bind (·.step) = none) :
    let b := ls.foldl (settleLine k m granted) a
    b.w.Stands s k { x with queue := s.withoutFollowers k m ls x.queue } rs ∧
      b.followers = a.followers ++ ls.filterMap (fun l => (s.followedStep k m l).map (fun j => (l, j))) ∧
      b.mismatched = ls.foldl (fun mask l => if !s.follows k m l then mask ||| BitVec.twoPow 6 l.val else mask) a.mismatched ∧
      b.w.reqs = a.w.reqs ++ ls.flatMap (s.settledReq k m x.queue granted) ∧
      ∀ p : LineId, b.w.notes[p] =
        if p ∈ ls then some ((a.w.notes[p]).elim (s.settledNotice k m x.queue p) (s.settledNotice k m x.queue p).over)
        else a.w.notes[p] := by
  induction ls generalizing a x with
  | nil =>
    have hqueue : s.withoutFollowers k m [] x.queue = x.queue := List.filter_eq_self.2 fun q _ => rfl
    rw [hqueue]
    exact ⟨h, (List.append_nil _).symm, rfl, (List.append_nil _).symm, fun p => (if_neg nofun).symm⟩
  | cons l rest ih =>
    obtain ⟨hl, hrest⟩ := List.nodup_cons.1 hn
    obtain ⟨c, hc, ht⟩ := State.boundTo_iff.1 (hbound l (List.mem_cons_self ..))
    have hstep := hsteps l (List.mem_cons_self ..)
    have hne {p : LineId} (hp : p ∈ rest) : p ≠ l := fun he => hl (he ▸ hp)
    have hnotes (p : LineId) : (a.w.note l (s.settledNotice k m x.queue l)).notes[p] =
        if p = l then some ((a.w.notes[l]).elim (s.settledNotice k m x.queue l) (s.settledNotice k m x.queue l).over)
        else a.w.notes[p] := by
      split
      · next he => subst he; exact TankWork.note_self ..
      · next he => exact TankWork.note_other _ _ he
    have hkept {b : Settled} (hb : b.w.notes = (a.w.note l (s.settledNotice k m x.queue l)).notes) (p : LineId) (hp : p ∈ rest) :
        (b.w.notes[p]).bind (·.step) = none := by
      rw [hb, hnotes, if_neg (hne hp)]
      exact hsteps p (List.mem_cons_of_mem _ hp)
    cases hj : s.followedStep k m l with
    | some j =>
      have hfollows : s.follows k m l = true := by unfold State.follows; rw [hj]; rfl
      obtain ⟨h1, h2, h3, h4, h5⟩ := settleLine_follows (granted := granted) h hc ht hstep hj
      obtain ⟨g1, g2, g3, g4, g5⟩ := ih hrest (fun p hp => hbound p (List.mem_cons_of_mem _ hp)) _ h1 (hkept h2)
      refine ⟨?_, ?_, ?_, ?_, fun p => ?_⟩
      · have hqueue : s.withoutFollowers k m rest (x.queue.filter (fun q => q.1 != l)) = s.withoutFollowers k m (l :: rest) x.queue := by
          unfold State.withoutFollowers
          rw [List.filter_filter]
          refine List.filter_congr fun q _ => ?_
          by_cases hq : q.1 = l
          · simp [hq, hfollows]
          · simp [hq]
        dsimp only at g1
        rw [hqueue] at g1
        exact g1
      · rw [List.foldl_cons, g2, h4, List.filterMap_cons, hj]
        simp
      · rw [List.foldl_cons, g3, h5, List.foldl_cons, hfollows]
        rfl
      · rw [List.foldl_cons, g4, h3, List.flatMap_cons, List.append_assoc]
        congr 2
        exact List.flatMap_congr fun p hp => settledReq_filter (hne hp)
      · rw [List.foldl_cons, g5 p, h2, hnotes]
        by_cases hp : p = l
        · subst hp; simp [hl]
        · by_cases hin : p ∈ rest
          · simp [hin, hp, settledNotice_filter hp]
          · simp [hin, hp]
    | none =>
      have hfollows : s.follows k m l = false := by unfold State.follows; rw [hj]; rfl
      obtain ⟨h1, h2, h3, h4, h5⟩ := settleLine_differs (granted := granted) h hc ht hstep hj
      obtain ⟨g1, g2, g3, g4, g5⟩ := ih hrest (fun p hp => hbound p (List.mem_cons_of_mem _ hp)) _ h1 (hkept h2)
      refine ⟨?_, ?_, ?_, ?_, fun p => ?_⟩
      · have hqueue : s.withoutFollowers k m rest x.queue = s.withoutFollowers k m (l :: rest) x.queue := by
          unfold State.withoutFollowers
          refine List.filter_congr fun q _ => ?_
          by_cases hq : q.1 = l
          · simp [hq, hfollows]
          · simp [hq]
        rw [← hqueue]
        exact g1
      · rw [List.foldl_cons, g2, h4, List.filterMap_cons, hj]
        rfl
      · rw [List.foldl_cons, g3, h5, List.foldl_cons, hfollows]
        rfl
      · rw [List.foldl_cons, g4, h3, List.flatMap_cons, List.append_assoc]
      · rw [List.foldl_cons, g5 p, h2, hnotes]
        by_cases hp : p = l
        · subst hp; simp [hl]
        · by_cases hin : p ∈ rest
          · simp [hin, hp]
          · simp [hin, hp]

theorem mem_boundLines : l ∈ s.boundLines k ↔ s.boundTo k l = true := by
  rw [State.boundLines, List.mem_filter, and_iff_right (mem_allLines l)]
  rfl

theorem flatMap_filter_of_nil {α β : Type} (p : α → Bool) (f : α → List β) (hf : ∀ a, p a = false → f a = []) (as : List α) :
    (as.filter p).flatMap f = as.flatMap f := by
  induction as with
  | nil => rfl
  | cons a rest ih =>
    rw [List.filter_cons]
    cases hp : p a with
    | true => rw [if_pos rfl, List.flatMap_cons, List.flatMap_cons, ih]
    | false => rw [if_neg nofun, List.flatMap_cons, hf a hp, ih]; rfl

/-- The settling of a tank's lines (R130): the followers' entries leave the queue with their MIXREQ reports, and every bound line has
its notice. -/
theorem settle_spec (m : Nat) (granted : Option LineId) (h : w.Stands s k x rs)
    (hsteps : ∀ l : LineId, (w.notes[l]).bind (·.step) = none) :
    (settle k m granted w).w.Stands s k { x with queue := s.leftIn k m x.queue } rs ∧
      (settle k m granted w).followers = s.followers k m ∧ (settle k m granted w).mismatched = s.mismatched k m ∧
      (settle k m granted w).w.reqs = w.reqs ++ allLines.flatMap (s.settledReq k m x.queue granted) ∧
      ∀ p : LineId, (settle k m granted w).w.notes[p] =
        if s.boundTo k p = true then
          some ((w.notes[p]).elim (s.settledNotice k m x.queue p) (s.settledNotice k m x.queue p).over)
        else w.notes[p] := by
  have hspec := settleLines_spec (granted := granted) (m := m) (s.boundLines k) (allLines_nodup.filter _)
    (fun l hl => mem_boundLines.1 hl) { w := w, followers := [], mismatched := 0 } h fun l _ => hsteps l
  have hsettle : settle k m granted w = (s.boundLines k).foldl (settleLine k m granted) { w := w, followers := [], mismatched := 0 } := by
    unfold settle
    rw [h.boundLines]
  rw [← hsettle] at hspec
  obtain ⟨h1, h2, h3, h4, h5⟩ := hspec
  refine ⟨?_, ?_, ?_, ?_, fun p => ?_⟩
  · have hqueue : s.withoutFollowers k m (s.boundLines k) x.queue = s.leftIn k m x.queue := by
      unfold State.withoutFollowers State.leftIn
      refine List.filter_congr fun q _ => ?_
      cases hf : s.follows k m q.1 with
      | false => simp
      | true =>
        have hin : q.1 ∈ s.boundLines k := mem_boundLines.2 (State.follows_bound hf)
        simp [hin]
    rw [hqueue] at h1
    exact h1
  · rw [h2, List.nil_append, State.boundLines, List.filterMap_filter]
    refine List.filterMap_congr fun p _ => ?_
    cases hb : s.boundTo k p with
    | true => exact if_pos hb
    | false =>
      rw [State.followedStep_none hb]
      exact (if_neg (Bool.eq_false_iff.1 hb)).trans rfl
  · rw [h3, State.mismatched, lineMask, State.boundLines, List.foldl_filter]
    refine congrArg (fun f => List.foldl f 0 allLines) (funext fun mask => funext fun p => ?_)
    cases (s.ctx p).any (fun c => c.tank == k) <;> simp
  · rw [h4]
    congr 1
    refine flatMap_filter_of_nil _ _ (fun p hp => ?_) _
    unfold State.settledReq
    rw [State.followedStep_none hp]
    rfl
  · rw [h5 p]
    by_cases hb : s.boundTo k p = true
    · rw [if_pos (mem_boundLines.2 hb), if_pos hb]
    · rw [if_neg fun hin => hb (mem_boundLines.1 hin), if_neg hb]

end

end Sys2Proof.Machine
end

section
/-! PROOFS. The head of a tank's queue: when it rests, what its grant leaves, and the close of the event (R130 to R134). -/

namespace Sys2Proof.Machine

section
variable {s t : State} {k : TankId} {x y : Tank} {w : TankWork} {rs : List Report} {l : LineId} {m : Nat}
  {queue rest : List (LineId × Nat)} {granted : Option LineId}

/-! ### The MIXREQ reports of a change (R137) -/

/-- Of the entries each line gives of its own, those of one line. -/
theorem filter_flatMap_own {α : Type} (key : α → LineId) (f : LineId → List α) (hf : ∀ p, ∀ r ∈ f p, key r = p) (l : LineId)
    (ls : List LineId) (hn : ls.Nodup) :
    (ls.flatMap f).filter (fun r => key r == l) = if l ∈ ls then f l else [] := by
  induction ls with
  | nil => rfl
  | cons p rest ih =>
    obtain ⟨hp, hrest⟩ := List.nodup_cons.1 hn
    rw [List.flatMap_cons, List.filter_append, ih hrest]
    by_cases he : l = p
    · subst he
      rw [List.filter_eq_self.2 fun r hr => beq_iff_eq.2 (hf l r hr), if_neg hp, if_pos (List.mem_cons_self ..),
        List.append_nil]
    · rw [List.filter_eq_nil_iff.2 fun r hr hr' => he ((beq_iff_eq.1 hr').symm.trans (hf p r hr)), List.nil_append]
      simp [he]

/-- Where one line alone has entries, they are all there is. -/
theorem flatMap_single {α : Type} (f : LineId → List α) (hf : ∀ p, p ≠ l → f p = []) : allLines.flatMap f = f l := by
  have hone : ∀ ls : List LineId, ls.Nodup → ls.flatMap f = if l ∈ ls then f l else [] := by
    intro ls hn
    induction ls with
    | nil => rfl
    | cons p rest ih =>
      obtain ⟨hp, hrest⟩ := List.nodup_cons.1 hn
      rw [List.flatMap_cons, ih hrest]
      by_cases he : l = p
      · subst he; simp [hp]
      · rw [hf p (Ne.symm he)]
        simp [he]
  rw [hone _ allLines_nodup, if_pos (mem_allLines l)]

theorem settledReq_line (p : LineId) (r : MixReport) (hr : r ∈ s.settledReq k m queue granted p) : r.line = p := by
  unfold State.settledReq at hr
  cases hj : s.followedStep k m p with
  | none => rw [hj] at hr; cases hr
  | some j =>
    rw [hj] at hr
    obtain ⟨q, _, rfl⟩ := List.mem_map.1 hr
    rfl

theorem settledReq_reports (s : State) (k : TankId) (m : Nat) (queue : List (LineId × Nat)) (granted : Option LineId) :
    (allLines.flatMap (s.settledReq k m queue granted)).map .mixreq = s.settledReports k m queue granted := by
  rw [List.map_flatMap]
  unfold State.settledReports
  congr 1
  funext p
  unfold State.settledReq
  cases s.followedStep k m p with
  | none => rfl
  | some j =>
    show List.map _ (List.map _ _) = _
    rw [List.map_map]
    rfl

theorem flushed_settled : flushed (allLines.flatMap (s.settledReq k m queue granted)) = s.settledReports k m queue granted := by
  rw [← settledReq_reports]
  unfold flushed
  congr 1
  refine List.flatMap_congr fun p _ => ?_
  exact (filter_flatMap_own MixReport.line _ settledReq_line p _ allLines_nodup).trans (if_pos (mem_allLines p))

/-- One line's report stands before the settling's report of the same line, which is the only one. -/
theorem flushed_settled_cons {r : MixReport} (hr : r.line = l) :
    flushed (r :: allLines.flatMap (s.settledReq k m [(l, m)] granted)) =
      .mixreq r :: s.settledReports k m [(l, m)] granted := by
  have hnone : ∀ p, p ≠ l → s.settledReq k m [(l, m)] granted p = [] := by
    intro p hp
    unfold State.settledReq
    cases s.followedStep k m p with
    | none => rfl
    | some j => simp [Ne.symm hp]
  have hall := flatMap_single _ hnone
  rw [← settledReq_reports, hall]
  unfold flushed
  rw [flatMap_single (l := l) (fun p => (r :: s.settledReq k m [(l, m)] granted l).filter (fun r => r.line == p)) fun p hp => ?_]
  · rw [List.filter_eq_self.2 ?_]
    · rfl
    · intro r' hr'
      rcases List.mem_cons.1 hr' with rfl | hr'
      · exact beq_iff_eq.2 hr
      · exact beq_iff_eq.2 (settledReq_line l r' hr')
  · refine List.filter_eq_nil_iff.2 fun r' hr' he => hp ?_
    rcases List.mem_cons.1 hr' with rfl | hr'
    · exact (beq_iff_eq.1 he).symm.trans hr
    · exact (beq_iff_eq.1 he).symm.trans (settledReq_line l r' hr')

theorem flushed_single (r : MixReport) : flushed [r] = [.mixreq r] := by
  unfold flushed
  rw [flatMap_single (l := r.line) _ fun p hp => ?_]
  · simp
  · simp [Ne.symm hp]

theorem settledReports_length : (s.settledReports k m queue granted).length ≤ 6 := by
  have hone (l : LineId) : (s.settledReq k m queue granted l).length ≤ 1 := by
    unfold State.settledReq
    cases s.followedStep k m l with
    | none => exact Nat.zero_le _
    | some j =>
      show (List.map _ _).length ≤ 1
      rw [List.length_map]
      cases queue.find? (fun q => q.1 == l) <;> simp
  rw [← settledReq_reports, List.length_map, List.length_flatMap]
  calc (allLines.map fun l => (s.settledReq k m queue granted l).length).sum
      ≤ (allLines.map fun _ => 1).sum := List.sum_le_sum fun l _ => hone l
    _ = 6 := rfl

theorem settledReports_nil : s.settledReports k m [] granted = [] := by
  rw [← settledReq_reports, List.map_eq_nil_iff, List.flatMap_eq_nil_iff]
  intro p _
  unfold State.settledReq
  cases s.followedStep k m p <;> rfl

theorem settledReports_single_length : (s.settledReports k m [(l, m)] granted).length ≤ 1 := by
  rw [← settledReq_reports, List.length_map, flatMap_single (l := l)]
  · unfold State.settledReq
    cases s.followedStep k m l with
    | none => exact Nat.zero_le _
    | some j =>
      show (List.map _ _).length ≤ 1
      rw [List.length_map]
      cases [(l, m)].find? (fun q => q.1 == l) <;> simp
  · intro p hp
    unfold State.settledReq
    cases s.followedStep k m p with
    | none => rfl
    | some j => simp [Ne.symm hp]

/-! ### When a head rests (R131, R133) -/

theorem refusingLine_none : s.refusingLine k l = none ↔ ¬s.refuses k l := by
  unfold State.refusingLine State.refuses
  rw [List.find?_eq_none]
  constructor
  · rintro h ⟨p, c, hp, hc, ht, htimer⟩
    refine h p (mem_boundLines.2 (State.boundTo_iff.2 ⟨c, hc, ht⟩)) ?_
    simp [hp, hc, htimer]
  · intro h p hp hbad
    obtain ⟨c, hc, ht⟩ := State.boundTo_iff.1 (mem_boundLines.1 hp)
    rw [hc] at hbad
    simp only [Option.any_some, Bool.and_eq_true, bne_iff_ne, decide_eq_true_eq] at hbad
    exact h ⟨p, c, hbad.1, hc, ht, hbad.2⟩

theorem batchAllows_iff : x.batchAllows = true ↔ ¬x.awaits := by
  unfold Tank.batchAllows Tank.awaits
  cases x.batchSince <;> cases x.changeMade <;> simp

/-- The head of this tank's queue, if there is one, names another mix and is withheld. -/
def State.rests (s : State) (k : TankId) (x : Tank) : Prop :=
  ∀ q, x.queue.head? = some q → (∃ cur, x.mix = some cur ∧ cur ≠ q.2) ∧ (s.refuses k q.1 ∨ x.awaits)

/-- The lines' refusal timers are no part of an event's work. -/
theorem TankWork.Stands.refusingLine (h : w.Stands s k x rs) (l : LineId) : w.s.refusingLine k l = s.refusingLine k l := by
  unfold State.refusingLine
  rw [h.boundLines]
  congr 1
  funext p
  rw [h.ctx]

theorem examine_rests (h : w.Stands s k x rs) (hr : s.rests k x) (fuel : Nat) : examine fuel k w = w := by
  cases fuel with
  | zero => rfl
  | succ fuel =>
    unfold examine
    rw [h.tank]
    cases hq : x.queue with
    | nil => rfl
    | cons q rest =>
      obtain ⟨⟨cur, hmix, hne⟩, hheld⟩ := hr q (by rw [hq]; rfl)
      rw [hmix]
      dsimp only
      rw [if_neg hne, if_neg]
      rw [Bool.and_eq_true, Option.isNone_iff_eq_none, h.refusingLine, refusingLine_none, batchAllows_iff]
      rintro ⟨h1, h2⟩
      exact hheld.elim h1 h2

/-! ### The grant of a head (R132, R134) -/

/-- The queue that a change leaves once the head has gone too. -/
theorem leftIn_erase : (s.leftIn k m ((l, m) :: rest)).erase (l, m) = s.leftIn k m rest := by
  unfold State.leftIn
  rw [List.filter_cons]
  cases hf : s.follows k m l with
  | false => simp
  | true =>
    rw [if_neg (by simp)]
    refine List.erase_of_not_mem fun hin => ?_
    have := (List.mem_filter.1 hin).2
    simp [hf] at this

theorem leftIn_nil : s.leftIn k m [] = [] := rfl

/-- What the settling of tank `k` against mix `m` says to each line. -/
def State.settledNotices (s : State) (k : TankId) (m : Nat) (queue : List (LineId × Nat)) (l : LineId) : Option Notice :=
  if s.boundTo k l = true then some (s.settledNotice k m queue l) else none

/-- An event that has so far told no line more than a settling of these lines says again. -/
def TankWork.Quiet (s : State) (k : TankId) (m : Nat) (queue : List (LineId × Nat)) (w : TankWork) : Prop :=
  ∀ (p : LineId) (old : Notice), w.notes[p] = some old →
    old.step = none ∧ s.boundTo k p = true ∧ (s.settledNotice k m queue p).over old = s.settledNotice k m queue p

theorem TankWork.Quiet.of_notes_none (h : ∀ p : LineId, w.notes[p] = none) : w.Quiet s k m queue := by
  intro p old hp
  rw [h p] at hp
  cases hp

/-- The lines settled against mix `m`, where the event has told them nothing else. -/
theorem settle_quiet (hwork : w.Stands s k x rs) (hqueue : y.queue = queue) (quiet : w.Quiet s k m queue)
    {a : Settled} (ha : settle k m granted { w with s := w.s.setTank k y } = a) :
    a.w.Stands s k { y with queue := s.leftIn k m queue } rs ∧ a.followers = s.followers k m ∧
      a.mismatched = s.mismatched k m ∧ a.w.reqs = w.reqs ++ allLines.flatMap (s.settledReq k m queue granted) ∧
      ∀ p : LineId, a.w.notes[p] = s.settledNotices k m queue p := by
  subst hqueue ha
  obtain ⟨h1, h2, h3, h4, h5⟩ := settle_spec m granted (hwork.setTank y) fun p => by
    cases hp : w.notes[p] with
    | none => rfl
    | some old => exact (quiet p old hp).1
  refine ⟨h1, h2, h3, h4, fun p => (h5 p).trans ?_⟩
  unfold State.settledNotices
  by_cases hb : s.boundTo k p = true
  · rw [if_pos hb, if_pos hb]
    cases hp : w.notes[p] with
    | none => rfl
    | some old => exact congrArg some (quiet p old hp).2.2
  · rw [if_neg hb, if_neg hb]
    cases hp : w.notes[p] with
    | none => rfl
    | some old => exact absurd (quiet p old hp).2.1 hb

/-- The lines settled against mix `m`, with the TANK report of the change. -/
theorem change_spec (hwork : w.Stands s k x rs) (hqueue : y.queue = queue) (quiet : w.Quiet s k m queue) (e : TankEvent)
    (requester : Option LineId) :
    let b := Sys2Proof.Machine.reportChange k e w.s requester (settle k m granted { w with s := w.s.setTank k y })
    b.Stands s k { y with queue := s.leftIn k m queue }
        (rs ++ [tankChange (s.setTank k x) (s.setTank k y) k e requester (s.followers k m) (s.mismatched k m)]) ∧
      b.reqs = w.reqs ++ allLines.flatMap (s.settledReq k m queue granted) ∧
      ∀ p : LineId, b.notes[p] = s.settledNotices k m queue p := by
  obtain ⟨a, ha⟩ : ∃ a, settle k m granted { w with s := w.s.setTank k y } = a := ⟨_, rfl⟩
  obtain ⟨h1, h2, h3, h4, h5⟩ := settle_quiet hwork hqueue quiet ha
  rw [ha]
  have hreport := h1.reportChange (before := w.s) hwork.uptime e requester
  rw [h2, h3] at hreport
  have hcongr := tankChange_congr (k := k) (s := s.setTank k x) (s' := w.s) (t := s.setTank k y) (t' := a.w.s) (q := [])
    (hwork.tank.trans (State.tank_setTank_self ..).symm) (hwork.reserve k) hwork.uptime
    (by rw [h1.tank, State.tank_setTank_self]) (h1.reserve k) e requester (s.followers k m) (s.mismatched k m)
  rw [hcongr] at hreport
  exact ⟨hreport, h4, h5⟩

/-- A granted head: the change, the head removed, and the new head examined, which rests. -/
theorem grant_spec (hwork : w.Stands s k x rs) (hqueue : y.queue = (l, m) :: rest) (quiet : w.Quiet s k m ((l, m) :: rest))
    (e : TankEvent) (hrests : s.rests k { y with queue := s.leftIn k m rest }) (fuel : Nat) :
    let b := examine fuel k (dropHead k l m
      (Sys2Proof.Machine.reportChange k e w.s (some l) (settle k m (some l) { w with s := w.s.setTank k y })))
    b.Stands s k { y with queue := s.leftIn k m rest }
        (rs ++ [tankChange (s.setTank k x) (s.setTank k y) k e (some l) (s.followers k m) (s.mismatched k m)]) ∧
      b.reqs = w.reqs ++ allLines.flatMap (s.settledReq k m ((l, m) :: rest) (some l)) ∧
      ∀ p : LineId, b.notes[p] = s.settledNotices k m ((l, m) :: rest) p := by
  obtain ⟨h1, h2, h3⟩ := change_spec (granted := some l) hwork hqueue quiet e (some l)
  generalize Sys2Proof.Machine.reportChange k e w.s (some l) (settle k m (some l) { w with s := w.s.setTank k y }) = a at h1 h2 h3
  have hdrop : (dropHead k l m a).Stands s k { y with queue := s.leftIn k m rest }
      (rs ++ [tankChange (s.setTank k x) (s.setTank k y) k e (some l) (s.followers k m) (s.mismatched k m)]) := by
    have hset := h1.setTank { y with queue := s.leftIn k m rest }
    have heq : dropHead k l m a = { a with s := a.s.setTank k { y with queue := s.leftIn k m rest } } := by
      unfold dropHead
      rw [h1.tank]
      dsimp only
      rw [leftIn_erase]
    rw [heq]
    exact hset
  have hstill := examine_rests hdrop hrests fuel
  dsimp only
  rw [hstill]
  exact ⟨hdrop, h2, h3⟩

/-- The head of an UNSET tank is adopted (R132). -/
theorem examineHead_adopts (hwork : w.Stands s k x rs) (hqueue : x.queue = (l, m) :: rest) (hmix : x.mix = none) :
    examineHead k w = examine (x.queue.length) k (dropHead k l m (Sys2Proof.Machine.reportChange k .adopt w.s (some l)
      (settle k m (some l) { w with s := w.s.setTank k { x with mix := some m, batchSince := false } }))) := by
  unfold examineHead
  rw [hwork.tank, examine, hwork.tank, hqueue]
  dsimp only
  rw [hmix]
  dsimp only
  unfold adoptMix
  rw [hwork.tank, ← hqueue]

/-- The head of a tank of another mix is granted its changeover (R134). -/
theorem examineHead_changes {cur : Nat} (hwork : w.Stands s k x rs) (hqueue : x.queue = (l, m) :: rest)
    (hmix : x.mix = some cur) (hne : cur ≠ m) (hfree : ¬s.refuses k l) (hbatch : ¬x.awaits) :
    examineHead k w = examine (x.queue.length) k (dropHead k l m (Sys2Proof.Machine.reportChange k .changeover w.s (some l)
      (settle k m (some l) { w with s := w.s.setTank k (x.changedOver m x.queue) }))) := by
  unfold examineHead
  rw [hwork.tank, examine, hwork.tank, hqueue]
  dsimp only
  rw [hmix]
  dsimp only
  rw [if_neg hne, if_pos (by
    rw [Bool.and_eq_true, Option.isNone_iff_eq_none, hwork.refusingLine, refusingLine_none, batchAllows_iff]
    exact ⟨hfree, hbatch⟩)]
  unfold changeMix
  rw [hwork.tank, ← hqueue]
  rfl

theorem examineHead_rests (h : w.Stands s k x rs) (hr : s.rests k x) : examineHead k w = w := examine_rests h hr _

/-! ### The close of a change -/

/-- After a settling each line has its notice, and no other goes out (R121). -/
theorem noticeTo_settled (h : w.Stands s k x rs) (before : State) (hnotes : ∀ p : LineId, w.notes[p] = s.settledNotices k m queue p)
    (p : LineId) : w.noticeTo k before p = s.settledNotices k m queue p := by
  unfold TankWork.noticeTo
  rw [hnotes p, h.ctx]
  unfold State.settledNotices
  by_cases hb : s.boundTo k p = true
  · rw [if_pos hb]; rfl
  · rw [if_neg hb, show (s.ctx p).any (fun c => c.tank == k) = false from Bool.eq_false_iff.2 hb, Bool.and_false]
    rfl

theorem Sent.settledOn (h : Sent s t (s.settledNotices k m queue)) : SettledOn s t k m queue where
  lines p := by
    rw [h.lines p]
    unfold State.settledNotices State.boundTo State.settledNotice
    by_cases hb : (s.ctx p).any (fun c => c.tank == k) = true
    · rw [if_pos hb, if_pos hb]
      cases s.followedStep k m p <;> rfl
    · rw [if_neg hb, if_neg hb, Option.toList_none, List.append_nil]
  handed := by
    rw [h.handed, State.boundLines]
    congr 1
    refine flatMap_notices _ fun p => ?_
    unfold State.settledNotices State.boundTo
    cases (s.ctx p).any (fun c => c.tank == k) <;> rfl

end

end Sys2Proof.Machine
end

section
/-! PROOFS. HEAD_EXAMINATION and EMPTY (R126, R131 to R134). -/

namespace Sys2Proof.Machine

section
variable {s t before : State} {k : TankId} {x y z : Tank} {w : TankWork} {rs : List Report} {l : LineId} {m j : Nat}
  {queue rest : List (LineId × Nat)} {v : Live} {c : Context}

/-! ### A whole event that changes the tank's mix -/

theorem TankWork.Stands.changed {reqs : List MixReport} (h : w.Stands s k z rs) (before : State) (hreqs : w.reqs = reqs)
    (hnotes : ∀ p : LineId, w.notes[p] = s.settledNotices k m queue p) :
    TankStep s (closeTank k before w) k z (s.settledNotices k m queue) (rs ++ flushed reqs) := by
  subst hreqs
  exact h.closed (noticeTo_settled h before hnotes)

/-- The TANK report of a change names the tank as the whole event leaves it, but for its queue. -/
theorem tankChange_final {s' : State} {q : List (LineId × Nat)} (hreserve' : s'.reserve k = s.reserve k)
    (hup' : s'.uptime = s.uptime) (htank : t.tank k = { y with queue := q }) (hreserve : t.reserve k = s.reserve k) (e : TankEvent)
    (requester : Option LineId) (followers : List (LineId × Nat)) (mismatched : LineSet) (hx : x = s.tank k) :
    tankChange (s'.setTank k x) (s'.setTank k y) k e requester followers mismatched =
      tankChange s t k e requester followers mismatched := by
  refine tankChange_congr (t' := s'.setTank k y) (q := q) ((State.tank_setTank_self ..).trans hx) hreserve' hup' ?_
    (hreserve'.trans hreserve.symm) _ _ _ _
  rw [htank, State.tank_setTank_self]

/-! ### A head satisfied by the tank's own mix (R128) -/

/-- What a satisfied request says to its line. -/
def satisfiedNotice (j : Nat) : Notice := { step := some j, pend := some none, mismatch := none, reported := true }

/-- The notices of a satisfied request: the line's own, and a plain one to every other bound line where its step moves. -/
def State.satisfiedNotices (s : State) (k : TankId) (l : LineId) (j step : Nat) (p : LineId) : Option Notice :=
  if p = l then some (satisfiedNotice j) else if j ≠ step ∧ s.boundTo k p = true then some .plain else none

theorem satisfy_eq (h : w.Stands s k x rs) (hc : s.ctx l = some c) (hj : (laterStep c.ladder 1 m).getD c.step = j) :
    satisfy k l m w = { w.note l (satisfiedNotice j) with
      reqs := w.reqs ++ [{ tank := k, line := l, mix := m, disposition := .satisfied, position := 0, step := j }] } := by
  unfold satisfy
  rw [h.ctx, hc]
  dsimp only
  rw [hj]
  rfl

theorem satisfied_closed (h : w.Stands s k x rs) (hnotes : ∀ p : LineId, w.notes[p] = none) (hreqs : w.reqs = [])
    (hc : s.ctx l = some c) (ht : c.tank = k) (hj : (laterStep c.ladder 1 m).getD c.step = j) (hmix : x.mix = (s.tank k).mix)
    (hcontents : x.contents = (s.tank k).contents) :
    TankStep s (closeTank k s (satisfy k l m w)) k x (s.satisfiedNotices k l j ((s.line l).step c))
      (rs ++ [.mixreq { tank := k, line := l, mix := m, disposition := .satisfied, position := 0, step := j }]) := by
  rw [satisfy_eq h hc hj, hreqs]
  have hwork : TankWork.Stands s k { w.note l (satisfiedNotice j) with
      reqs := [{ tank := k, line := l, mix := m, disposition := .satisfied, position := 0, step := j }] } x rs := h.told
  refine (hwork.closed (before := s) fun p => ?_).reports_eq (congrArg (rs ++ ·) (flushed_single _))
  have hnote (p : LineId) : (w.note l (satisfiedNotice j)).notes[p] = if p = l then some (satisfiedNotice j) else none := by
    split
    · next he => subst he; rw [TankWork.note_self, hnotes]; rfl
    · next he => rw [TankWork.note_other _ _ he, hnotes]
  have hstepOf (p : LineId) (d : Context) : TankWork.stepOf { w.note l (satisfiedNotice j) with
      reqs := [{ tank := k, line := l, mix := m, disposition := .satisfied, position := 0, step := j }] } p d =
      if p = l then j else (s.line p).step d := by
    unfold TankWork.stepOf
    dsimp only
    rw [hnote]
    split
    · rfl
    · exact congrArg (fun a => Line.step a d) (h.line p)
  have hmoved : TankWork.moved { w.note l (satisfiedNotice j) with
      reqs := [{ tank := k, line := l, mix := m, disposition := .satisfied, position := 0, step := j }] } k =
      decide (j ≠ (s.line l).step c) := by
    unfold TankWork.moved
    rw [hwork.boundLines, Bool.eq_iff_iff, List.any_eq_true, decide_eq_true_iff]
    constructor
    · rintro ⟨p, _, hp⟩
      rw [hwork.ctx] at hp
      cases hd : s.ctx p with
      | none => rw [hd] at hp; cases hp
      | some d =>
        rw [hd, Option.any_some, decide_eq_true_iff, hstepOf, hwork.line] at hp
        by_cases he : p = l
        · subst he
          rw [if_pos rfl] at hp
          rw [hc] at hd
          cases hd
          exact hp
        · exact absurd (if_neg he) hp
    · intro hne
      refine ⟨l, mem_boundLines.2 (State.boundTo_iff.2 ⟨c, hc, ht⟩), ?_⟩
      rw [hwork.ctx, hc, Option.any_some, decide_eq_true_iff, hstepOf, if_pos rfl, hwork.line]
      exact hne
  unfold TankWork.noticeTo TankWork.notifies State.satisfiedNotices
  rw [hmoved, hwork.tank, hwork.reserve, hwork.ctx, hmix, hcontents]
  dsimp only
  rw [hnote]
  by_cases he : p = l
  · rw [if_pos he, if_pos he]; rfl
  · rw [if_neg he, if_neg he, Option.none_or]
    exact if_congr (by simp [State.boundTo]) rfl rfl

/-- The notices of a satisfied request, as they are handed over and as the lines have them. -/
theorem Sent.satisfied {step : Nat} (h : Sent s t (s.satisfiedNotices k l j step)) :
    t.handoffs = s.handoffs ++
      (allLines.filter (fun p => p == l || (decide (j ≠ step) && s.boundTo k p))).map .tankNotice ∧
    ∀ p, t.line p = { s.line p with notices := (s.line p).notices ++
      if p = l then [satisfiedNotice j] else if j ≠ step ∧ s.boundTo k p = true then [.plain] else [] } := by
  refine ⟨?_, fun p => ?_⟩
  · rw [h.handed]
    congr 1
    refine flatMap_notices _ fun p => ?_
    unfold State.satisfiedNotices
    by_cases he : p = l
    · simp [he]
    · by_cases hm : j ≠ step ∧ s.boundTo k p = true
      · simp [he, hm]
      · rw [if_neg he, if_neg hm]
        simp only [Option.isSome_none, beq_eq_false_iff_ne.2 he, Bool.false_or]
        symm
        rw [Bool.eq_false_iff]
        simpa using hm
  · rw [h.lines p]
    unfold State.satisfiedNotices
    by_cases he : p = l
    · rw [if_pos he, if_pos he]; rfl
    · rw [if_neg he, if_neg he]
      by_cases hm : j ≠ step ∧ s.boundTo k p = true
      · rw [if_pos hm, if_pos hm]; rfl
      · rw [if_neg hm, if_neg hm]; rfl

theorem examineHead_satisfies (h : w.Stands s k x rs) (hqueue : x.queue = (l, m) :: rest) (hmix : x.mix = some m)
    (hc : s.ctx l = some c) (hrests : s.rests k { x with queue := rest }) :
    examineHead k w = satisfy k l m { w with s := w.s.setTank k { x with queue := rest } } := by
  have hset := h.setTank { x with queue := rest }
  have hdrop : dropHead k l m w = { w with s := w.s.setTank k { x with queue := rest } } := by
    unfold dropHead
    rw [h.tank]
    dsimp only
    rw [hqueue, List.erase_cons_head]
  have hstands : (satisfy k l m { w with s := w.s.setTank k { x with queue := rest } }).Stands s k { x with queue := rest } rs := by
    rw [satisfy_eq hset hc rfl]
    exact hset.told
  unfold examineHead
  rw [h.tank, examine, h.tank, hqueue]
  dsimp only
  rw [hdrop]
  generalize satisfy k l m { w with s := w.s.setTank k { x with queue := rest } } = b at hstands
  rw [hmix]
  dsimp only
  rw [if_pos rfl]
  exact examine_rests hstands hrests _

/-! ### HEAD_EXAMINATION (R131) -/

/-- A tank just changed over awaits a batch. -/
theorem rests_changedOver (hall : ((queue.head?).all (fun q => q.2 != m)) = true) : s.rests k (x.changedOver m queue) := by
  intro q hq
  rw [show queue.head? = some q from hq, Option.all_some, bne_iff_ne] at hall
  exact ⟨⟨m, rfl, hall.symm⟩, .inr ⟨rfl, rfl⟩⟩

/-- The queue behind an adopted head rests. -/
theorem rests_adopted (hall : ∀ q, queue.head? = some q → q.2 ≠ m ∧ (s.refuses k q.1 ∨ x.changeMade = true)) :
    s.rests k { x with mix := some m, batchSince := false, queue := queue } := by
  intro q hq
  obtain ⟨hne, hheld⟩ := hall q hq
  exact ⟨⟨m, rfl, hne.symm⟩, hheld.imp_right fun h => ⟨rfl, h⟩⟩

/-- An event that leaves the tank as it was and says nothing. -/
theorem TankStep.quiet (s : State) (k : TankId) :
    TankStep s (closeTank k s { s := s, notes := Vector.replicate 6 none, reqs := [] }) k (s.tank k) (fun _ => none) [] := by
  have hstart := TankWork.Stands.start s k (Vector.replicate 6 none) []
  refine (hstart.closed (before := s) fun p => ?_)
  rw [noticeTo_eq hstart (by intro l; simp) rfl]
  simp

theorem Sent.unsent (h : Sent s t fun _ => none) : t.lines = s.lines ∧ t.handoffs = s.handoffs := by
  have hnone := (h.notified (k := 0) (p := False) (by simp)).1 id
  exact hnone

/-- A whole tank event of the part itself that says nothing to anyone. -/
theorem tankEvent_quiet {i : Instr} {f : State → State} (good : s.supply.failed = false) (hexec : exec i s = takeEvent f s)
    (hf : TankStep (s.taken i) (f s) k ((s.taken i).tank k) (fun _ => none) []) :
    ∃ t, exec i s = .next t ∧ t = { s.taken i with link := t.link } ∧ Reported s t [] := by
  obtain ⟨t, h1, h2, h3, h4⟩ := hf.event good hexec (State.takes_nil s)
  obtain ⟨hlines, hhanded⟩ := h3.unsent
  refine ⟨t, h1, ?_, h4⟩
  have htanks : s.tanks.set k ((s.taken i).tank k) = s.tanks := State.tanks_set_tank s k
  rw [htanks, hlines, hhanded] at h2
  exact h2

end

end Sys2Proof.Machine
end

section
/-! PROOFS. The statements on HEAD_EXAMINATION and EMPTY. -/

namespace Sys2Proof.Machine

section
variable {s t before : State} {k : TankId} {x y z : Tank} {w : TankWork} {rs : List Report} {l : LineId} {m j n : Nat}
  {queue rest : List (LineId × Nat)} {v : Live} {c : Context}

/-- The work a tank event begins with. -/
def TankWork.fresh (s : State) : TankWork := { s := s, notes := Vector.replicate 6 none, reqs := [] }

theorem TankWork.fresh_notes (s : State) (p : LineId) : (TankWork.fresh s).notes[p] = none := by simp [TankWork.fresh]

theorem TankWork.fresh_stands (s : State) (k : TankId) : (TankWork.fresh s).Stands s k (s.tank k) [] := .start s k _ _

theorem TankWork.fresh_quiet : (TankWork.fresh s).Quiet s k m queue := Quiet.of_notes_none (fresh_notes s)

theorem tankEvent_eq (k : TankId) (f : TankWork → TankWork) (s : State) :
    tankEvent k f s = closeTank k s (f (.fresh s)) := rfl

/-- The reports of a change of the tank's mix. -/
theorem changed_length (r : Report) (granted : Option LineId) :
    (r :: s.settledReports k m queue granted).length ≤ 7 := by
  rw [List.length_cons]
  exact Nat.succ_le_succ settledReports_length

/-- A whole event of the part itself that changes the tank's mix, whose TANK report names the tank as it then stands. -/
theorem changeEvent {i : Instr} {f : State → State} {e : TankEvent} {requester : Option LineId} {more : List Report}
    (good : s.supply.failed = false) (hexec : exec i s = takeEvent f s) (room : ∀ r, s.takes (r :: more))
    {q : List (LineId × Nat)}
    (hf : TankStep (s.taken i) (f s) k { y with queue := q } (s.settledNotices k m queue)
      (tankChange ((s.taken i).setTank k (s.tank k)) ((s.taken i).setTank k y) k e requester (s.followers k m) (s.mismatched k m) ::
        more)) :
    ∃ t, exec i s = .next t ∧ SettledOn (s.taken i) t k m queue ∧
      t = { s with tanks := s.tanks.set k { y with queue := q }, lines := t.lines, handoffs := t.handoffs, link := t.link } ∧
      Reported s t (tankChange s t k e requester (s.followers k m) (s.mismatched k m) :: more) := by
  obtain ⟨t, h1, h2, h3, h4⟩ := hf.event good hexec (room _)
  obtain ⟨htank, hreserve⟩ := tank_of_set h2
  refine ⟨t, h1, h3.settledOn, h2, ?_⟩
  rw [tankChange_final (s := s) (t := t) (s' := s.taken i) rfl rfl htank hreserve e requester _ _ rfl] at h4
  exact h4

/-- The work of an event whose head is granted mix `m`: the tank stands as `z`, with this TANK report behind those before. -/
structure TankWork.Granted (s : State) (k : TankId) (m : Nat) (l : LineId) (z : Tank) (queue : List (LineId × Nat))
    (rs : List Report) (reqs : List MixReport) (b : TankWork) : Prop where
  stands : b.Stands s k z rs
  reqs : b.reqs = reqs ++ allLines.flatMap (s.settledReq k m queue (some l))
  notes : ∀ p : LineId, b.notes[p] = s.settledNotices k m queue p

/-- The head of an UNSET tank is adopted, and the head left behind it rests (R132). -/
theorem adoptHead_granted (hqueue : x.queue = (l, m) :: rest) (hmix : x.mix = none) (hw : w.Stands s k x rs)
    (quiet : w.Quiet s k m x.queue)
    (hall : ∀ q, (s.leftIn k m rest).head? = some q → q.2 ≠ m ∧ (s.refuses k q.1 ∨ x.changeMade = true)) :
    TankWork.Granted s k m l { x with mix := some m, batchSince := false, queue := s.leftIn k m rest } x.queue
      (rs ++ [tankChange (s.setTank k x) (s.setTank k { x with mix := some m, batchSince := false }) k .adopt (some l)
        (s.followers k m) (s.mismatched k m)]) w.reqs (examineHead k w) := by
  rw [examineHead_adopts hw hqueue hmix]
  rw [hqueue] at quiet
  have h := grant_spec (y := { x with mix := some m, batchSince := false }) hw hqueue quiet .adopt (rests_adopted hall)
    x.queue.length
  rw [← hqueue] at h
  exact ⟨h.1, h.2.1, h.2.2⟩

/-- The head of a tank of another mix is granted its changeover, and the head left behind it rests (R134). -/
theorem changeHead_granted {cur : Nat} (hqueue : x.queue = (l, m) :: rest) (hmix : x.mix = some cur) (hne : cur ≠ m)
    (hfree : ¬s.refuses k l) (hbatch : ¬x.awaits) (hw : w.Stands s k x rs) (quiet : w.Quiet s k m x.queue)
    (hall : ((s.leftIn k m rest).head?.all (fun q => q.2 != m)) = true) :
    TankWork.Granted s k m l (x.changedOver m (s.leftIn k m rest)) x.queue
      (rs ++ [tankChange (s.setTank k x) (s.setTank k (x.changedOver m x.queue)) k .changeover (some l)
        (s.followers k m) (s.mismatched k m)]) w.reqs (examineHead k w) := by
  rw [examineHead_changes hw hqueue hmix hne hfree hbatch]
  rw [hqueue] at quiet
  have h := grant_spec (y := x.changedOver m x.queue) hw hqueue quiet .changeover (rests_changedOver (x := x) hall) x.queue.length
  rw [← hqueue] at h
  exact ⟨h.1, h.2.1, h.2.2⟩

/-- A granted head, in an event that has no MIXREQ report of its own. -/
theorem TankWork.Granted.closed {b : TankWork} {r : Report} (h : b.Granted s k m l z queue (rs ++ [r]) []) (before : State) :
    TankStep s (closeTank k before b) k z (s.settledNotices k m queue) (rs ++ r :: s.settledReports k m queue (some l)) := by
  refine (h.stands.changed before (h.reqs.trans (List.nil_append _)) h.notes).reports_eq ?_
  rw [flushed_settled, List.append_assoc]
  rfl

/-- A granted head that has just joined the queue. -/
theorem TankWork.Granted.closed_joined {b : TankWork} {r : Report} {q : MixReport} (hq : q.line = l)
    (h : b.Granted s k m l z [(l, m)] (rs ++ [r]) [q]) (before : State) :
    TankStep s (closeTank k before b) k z (s.settledNotices k m [(l, m)])
      (rs ++ r :: .mixreq q :: s.settledReports k m [(l, m)] (some l)) := by
  refine (h.stands.changed before h.reqs h.notes).reports_eq ?_
  rw [List.singleton_append, flushed_settled_cons hq, List.append_assoc]
  rfl

/-- Settles O46: the head rests, or is granted and the head left behind it rests. -/
theorem headExaminationGrantsOrWithholds : Obligations.HeadExaminationGrantsOrWithholds := by
  intro s k good room i base tk frame
  have hstart := TankWork.fresh_stands (s.taken i) k
  have hnotes := TankWork.fresh_notes (s.taken i)
  have hexec : exec i s = takeEvent (evHeadExamination k) s := rfl
  have hquiet (hrests : (s.taken i).rests k tk) : ∃ t, exec i s = .next t ∧ t = { base with link := t.link } ∧ Reported s t [] := by
    refine tankEvent_quiet (k := k) good hexec ?_
    show TankStep _ (closeTank k (s.taken i) (examineHead k (.fresh (s.taken i)))) _ _ _ _
    rw [examineHead_rests hstart hrests]
    exact .quiet ..
  refine ⟨fun hq => hquiet fun q hh => ?_, ?_, ?_, ?_⟩
  · rw [show tk.queue = [] from hq] at hh
    cases hh
  · intro l m rest v j hqueue hmix hv ht hj hall moved bound
    have hctx : (s.taken i).ctx l = some v.ctx := by
      show (s.live l).map _ = _
      rw [hv]
      rfl
    have hrests : (s.taken i).rests k { tk with queue := rest } := by
      intro q hh
      obtain ⟨hne, hheld⟩ := hall q hh
      exact ⟨⟨m, hmix, hne.symm⟩, hheld⟩
    have hstep : TankStep (s.taken i) (evHeadExamination k s) k { tk with queue := rest }
        ((s.taken i).satisfiedNotices k l j ((s.line l).step v.ctx))
        [.mixreq { tank := k, line := l, mix := m, disposition := .satisfied, position := 0, step := j }] := by
      show TankStep _ (closeTank k (s.taken i) (examineHead k (.fresh (s.taken i)))) _ _ _ _
      rw [examineHead_satisfies hstart hqueue hmix hctx hrests]
      exact satisfied_closed (rs := []) (hstart.setTank _) hnotes rfl hctx ht hj rfl rfl
    obtain ⟨t, h1, h2, h3, h4⟩ := hstep.event good hexec (State.roomFor.takes room (by simp))
    obtain ⟨hhanded, hlines⟩ := h3.satisfied
    refine ⟨t, h1, h2, hhanded, fun p => (hlines p).trans ?_, h4⟩
    have hcond : (j ≠ (s.line l).step v.ctx ∧ (s.taken i).boundTo k p = true) ↔ (moved && bound p) = true := by
      rw [Bool.and_eq_true, decide_eq_true_iff]
      rfl
    rw [if_congr hcond rfl rfl]
    rfl
  · intro l m rest hqueue hmix hall
    exact changeEvent good hexec (fun _ => State.roomFor.takes room (changed_length _ _))
      (y := { tk with mix := some m, batchSince := false })
      ((adoptHead_granted (s := s.taken i) (rs := []) hqueue hmix hstart TankWork.fresh_quiet hall).closed (s.taken i))
  · intro l m rest cur hqueue hmix hne
    refine ⟨fun hheld => hquiet fun q hh => ?_, fun hfree hbatch hall => ?_⟩
    · rw [show tk.queue = (l, m) :: rest from hqueue] at hh
      cases hh
      exact ⟨⟨cur, hmix, hne⟩, hheld⟩
    · exact changeEvent good hexec (fun _ => State.roomFor.takes room (changed_length _ _)) (y := tk.changedOver m tk.queue)
        ((changeHead_granted (s := s.taken i) (rs := []) hqueue hmix hne hfree hbatch hstart TankWork.fresh_quiet hall).closed
          (s.taken i))

end

end Sys2Proof.Machine
end

section
/-! PROOFS. The statement on EMPTY (R126). -/

namespace Sys2Proof.Machine

section
variable {s t before : State} {k : TankId} {x y z : Tank} {w : TankWork} {rs : List Report} {l : LineId} {m j n : Nat}
  {queue rest : List (LineId × Nat)} {v : Live} {c : Context}

/-- The report of the dumping names a tank that has left its mix (log entry 16). -/
theorem dumped_reports (s : State) (k : TankId) :
    changeReports s (s.setTank k (s.tank k).dumped) k .empty =
      if (s.tank k).mix = none then [] else [tankChange s (s.setTank k (s.tank k).dumped) k .empty none [] 0] := by
  unfold changeReports
  refine if_congr ?_ rfl rfl
  have hafter : (s.setTank k (s.tank k).dumped).tankState k = .unset := by
    unfold State.tankState
    rw [State.tank_setTank_self]
    rfl
  rw [hafter]
  unfold State.tankState
  cases (s.tank k).mix with
  | none => exact iff_of_true rfl rfl
  | some m =>
    refine iff_of_false (fun h => ?_) nofun
    simp only [judgeTank] at h
    split at h <;> exact nomatch h

/-- A dumped tank inside its event, with the report of the dumping. -/
theorem dumped_stands (s : State) (k : TankId) :
    TankWork.Stands s k
      { TankWork.fresh s with s := reportIfChanged k .empty s (s.setTank k (s.tank k).dumped) } (s.tank k).dumped
      (changeReports s (s.setTank k (s.tank k).dumped) k .empty) :=
  ((TankWork.fresh_stands s k).setTank (s.tank k).dumped).reportIfChanged rfl .empty

theorem emptyWork_fresh (s : State) (k : TankId) :
    emptyWork k (.fresh s) =
      examineHead k { TankWork.fresh s with s := reportIfChanged k .empty s (s.setTank k (s.tank k).dumped) } := rfl

/-- An EMPTY with no request waiting (R126). -/
theorem empty_alone (hq : (s.tank k).queue = []) :
    TankStep s (tankEvent k (emptyWork k) s) k (s.tank k).dumped
      (fun l => if ((s.tank k).mix ≠ none ∨ (s.tank k).contents ≠ 0) ∧ (s.ctx l).any (fun c => c.tank == k) = true then
        some Notice.plain else none)
      (changeReports s (s.setTank k (s.tank k).dumped) k .empty) := by
  have hwork := dumped_stands s k
  have hrests : s.rests k (s.tank k).dumped := by
    intro q hh
    rw [show (s.tank k).dumped.queue = [] from hq] at hh
    cases hh
  rw [tankEvent_eq, emptyWork_fresh, examineHead_rests hwork hrests]
  refine (hwork.closed (before := s) fun p => ?_).reports_eq (List.append_nil _)
  rw [noticeTo_eq hwork (TankWork.fresh_notes s) rfl]
  refine if_congr (and_congr_left' ?_) rfl rfl
  show (_ ≠ none ∨ _ ≠ 0 ∨ _ ≠ _) ↔ _
  simp

/-- An EMPTY with a head that waits, which the tank adopts (R126, R132). -/
theorem empty_adopts (hqueue : (s.tank k).queue = (l, m) :: rest)
    (hall : ∀ q, (s.leftIn k m rest).head? = some q → q.2 ≠ m ∧ (s.refuses k q.1 ∨ (s.tank k).changeMade = true)) :
    TankStep s (tankEvent k (emptyWork k) s) k
      { (s.tank k).dumped with mix := some m, queue := s.leftIn k m rest } (s.settledNotices k m (s.tank k).queue)
      (changeReports s (s.setTank k (s.tank k).dumped) k .empty ++
        tankChange (s.setTank k (s.tank k).dumped) (s.setTank k { (s.tank k).dumped with mix := some m }) k .adopt (some l)
          (s.followers k m) (s.mismatched k m) :: s.settledReports k m (s.tank k).queue (some l)) := by
  rw [tankEvent_eq, emptyWork_fresh]
  exact (adoptHead_granted (x := (s.tank k).dumped) hqueue rfl (dumped_stands s k) (.of_notes_none (TankWork.fresh_notes s)) hall).closed s

/-- Settles O43: the tank is dumped, and its head, if one waits, is adopted in the same event. -/
theorem emptyDumpsTheTank : Obligations.EmptyDumpsTheTank := by
  intro s tag hl room
  refine ⟨fun tank htank => .denied hl rfl rfl ?_, fun k => ?_⟩
  · show reqEmpty .. = _
    rw [reqEmpty, tankOf_none (not_inRange_iff.2 htank)]
  intro tk dumped mid frame change
  have hreq : handle (.empty tag (k.val + 1)) (reloadT1 s) =
      accept (tankEvent k (emptyWork k) (reloadT1 s)) (u32 tk.contents) := by
    show reqEmpty .. = _
    rw [reqEmpty, tankOf_val]
    rfl
  have hchange : changeReports (reloadT1 s) ((reloadT1 s).setTank k ((reloadT1 s).tank k).dumped) k .empty = change :=
    (dumped_reports (reloadT1 s) k).trans rfl
  have hlength : change.length ≤ 1 := by rw [← hchange]; exact changeReports_length ..
  refine ⟨fun hq => ?_, fun l m rest hqueue hall => ?_⟩
  · have hstep := empty_alone (s := reloadT1 s) (k := k) hq
    rw [hchange] at hstep
    obtain ⟨t, h1, h2, h3, h4⟩ := hstep.request hl rfl rfl hreq (State.roomFor.takes room (by omega))
    obtain ⟨hstill, hsends⟩ := h3.notified rfl
    refine ⟨t, h1, h2, fun hmix hcontents => hstill ?_, hsends, h4⟩
    rintro (hbad | hbad)
    · exact hbad hmix
    · exact hbad hcontents
  · have hstep := empty_adopts (s := reloadT1 s) (k := k) hqueue hall
    rw [hchange] at hstep
    have hroom (r : Report) : s.takes (change ++ r :: (reloadT1 s).settledReports k m ((reloadT1 s).tank k).queue (some l)) := by
      refine State.roomFor.takes room ?_
      rw [List.length_append]
      have hset := changed_length (s := reloadT1 s) (k := k) (m := m) (queue := ((reloadT1 s).tank k).queue) r (some l)
      omega
    obtain ⟨t, h1, h2, h3, h4⟩ := hstep.request hl rfl rfl hreq (hroom _)
    obtain ⟨htank, hreserve⟩ := tank_of_set h2
    refine ⟨t, h1, h2, h3.settledOn, ?_⟩
    have hfinal := tankChange_final (s := mid) (t := t) (s' := reloadT1 s) (x := dumped) (y := { dumped with mix := some m }) rfl rfl
      htank hreserve .adopt (some l) (s.followers k m) (s.mismatched k m) (by simp [State.tank, mid])
    rw [← hfinal]
    exact h4

end

end Sys2Proof.Machine
end

section
/-! PROOFS. The statements on MIX_REQUEST and ADOPT (R128, R130, R132). -/

namespace Sys2Proof.Machine

section
variable {s t before : State} {k : TankId} {x y z : Tank} {w : TankWork} {rs : List Report} {l : LineId} {m j step : Nat}
  {queue rest : List (LineId × Nat)} {v : Live} {c : Context}

/-! ### An entry joins the queue (R128) -/

/-- The MIXREQ report of an entry that waits. -/
def queuedReq (k : TankId) (l : LineId) (m pos step : Nat) : MixReport :=
  { tank := k, line := l, mix := m, disposition := .queued, position := pos, step := step }

/-- The work with the entry replaced in its place. -/
def TankWork.replaced (k : TankId) (l : LineId) (m step : Nat) (w : TankWork) (x : Tank) (pos : Nat) : TankWork :=
  { w with
    s := w.s.setTank k { x with queue := x.queue.map (fun q => if q.1 = l then (l, m) else q) }
    reqs := w.reqs ++ [queuedReq k l m (pos + 1) step] }

/-- The work with the entry added at the tail. -/
def TankWork.joined (k : TankId) (l : LineId) (m step : Nat) (w : TankWork) (x : Tank) : TankWork :=
  { w with
    s := w.s.setTank k { x with queue := x.queue ++ [(l, m)] }
    reqs := w.reqs ++ [queuedReq k l m (x.queue.length + 1) step] }

theorem enqueue_replaces {pos : Nat} (h : w.Stands s k x rs) (hpos : x.queue.findIdx (fun q => q.1 == l) = pos)
    (hlt : pos < x.queue.length) : enqueue k l m step w = w.replaced k l m step x pos := by
  unfold enqueue
  rw [h.tank]
  dsimp only
  rw [hpos, if_pos hlt]
  rfl

theorem enqueue_joins (h : w.Stands s k x rs) (hfresh : ∀ q ∈ x.queue, q.1 ≠ l) :
    enqueue k l m step w =
      if x.queue.isEmpty then examineHead k (w.joined k l m step x) else w.joined k l m step x := by
  have hpos : x.queue.findIdx (fun q => q.1 == l) = x.queue.length :=
    List.findIdx_eq_length.2 fun q hq => beq_eq_false_iff_ne.2 (hfresh q hq)
  unfold enqueue
  rw [h.tank]
  dsimp only
  rw [hpos, if_neg (Nat.lt_irrefl _)]
  rfl

theorem TankWork.Stands.joined (h : w.Stands s k x rs) (l : LineId) (m step : Nat) :
    (w.joined k l m step x).Stands s k { x with queue := x.queue ++ [(l, m)] } rs := (h.setTank _).told

/-- An entry that waits: another stands before it, or it is the head and is withheld. -/
theorem enqueue_waits (h : w.Stands s k x rs) (hfresh : ∀ q ∈ x.queue, q.1 ≠ l)
    {cur : Nat} (hmix : x.queue = [] → x.mix = some cur ∧ cur ≠ m)
    (hheld : x.queue ≠ [] ∨ s.refuses k l ∨ x.awaits) : enqueue k l m step w = w.joined k l m step x := by
  rw [enqueue_joins h hfresh]
  split
  · next he =>
    have hempty := List.isEmpty_iff.1 he
    refine examineHead_rests (h.joined l m step) fun q hq => ?_
    rw [show ({ x with queue := x.queue ++ [(l, m)] } : Tank).queue.head? = some (l, m) by rw [hempty]; rfl] at hq
    cases hq
    exact ⟨⟨cur, (hmix hempty).1, (hmix hempty).2⟩, hheld.resolve_left (not_not.2 hempty)⟩
  · rfl

theorem enqueue_heads (h : w.Stands s k x rs) (hempty : x.queue = []) :
    enqueue k l m step w = examineHead k (w.joined k l m step x) ∧
      (w.joined k l m step x).Stands s k { x with queue := [(l, m)] } rs ∧
      (w.joined k l m step x).reqs = w.reqs ++ [queuedReq k l m 1 step] := by
  have hjoined := h.joined l m step
  rw [hempty] at hjoined
  refine ⟨?_, hjoined, ?_⟩
  · rw [enqueue_joins h (by rw [hempty]; nofun), hempty]
    rfl
  · show w.reqs ++ [queuedReq k l m (x.queue.length + 1) step] = _
    rw [hempty]
    rfl

/-- An event whose work moves the queue alone, with these MIXREQ reports, says nothing to any line. -/
theorem TankWork.Stands.closed_still (h : w.Stands s k x rs) (hnotes : ∀ p : LineId, w.notes[p] = none)
    (hmix : x.mix = (s.tank k).mix) (hcontents : x.contents = (s.tank k).contents) :
    TankStep s (closeTank k s w) k x (fun _ => none) (rs ++ flushed w.reqs) := by
  refine h.closed fun p => ?_
  rw [noticeTo_eq h hnotes rfl, hmix, hcontents]
  simp

/-- An event of the part itself that moves a tank's queue alone. -/
theorem TankStep.event_still {i : Instr} {f : State → State} (good : s.supply.failed = false) (hexec : exec i s = takeEvent f s)
    (hf : TankStep (s.taken i) (f s) k x (fun _ => none) rs) (room : s.takes rs) :
    ∃ t, exec i s = .next t ∧ t = { s.taken i with tanks := s.tanks.set k x, link := t.link } ∧ Reported s t rs := by
  obtain ⟨t, h1, h2, h3, h4⟩ := hf.event good hexec room
  obtain ⟨hlines, hhanded⟩ := h3.unsent
  rw [hlines, hhanded] at h2
  exact ⟨t, h1, h2, h4⟩

theorem event_nothing {i : Instr} {f : State → State} (good : s.supply.failed = false) (hexec : exec i s = takeEvent f s)
    (hf : f s = s.taken i) : ∃ t, exec i s = .next t ∧ t = { s.taken i with link := t.link } ∧ Reported s t [] := by
  obtain ⟨k', h1, h2⟩ := takeEvent_reported good (f := f) (rs := []) (by rw [hf]; exact (Queued.refl s).link_eq rfl)
  refine ⟨_, hexec.trans h1, ?_, h2⟩
  rw [hf]

/-! ### The whole of an entry's joining -/

/-- The report of an entry that waits. -/
def queuedReport (k : TankId) (l : LineId) (m pos step : Nat) : Report := .mixreq (queuedReq k l m pos step)

theorem enqueue_replaced_step {pos : Nat} (hpos : (s.tank k).queue.findIdx (fun q => q.1 == l) = pos)
    (hlt : pos < (s.tank k).queue.length) :
    TankStep s (closeTank k s (enqueue k l m step (.fresh s))) k
      { s.tank k with queue := (s.tank k).queue.map (fun q => if q.1 = l then (l, m) else q) } (fun _ => none)
      [queuedReport k l m (pos + 1) step] := by
  have hstart := TankWork.fresh_stands s k
  rw [enqueue_replaces hstart hpos hlt]
  have hwork : ((TankWork.fresh s).replaced k l m step (s.tank k) pos).Stands s k _ [] := (hstart.setTank _).told
  exact (hwork.closed_still (TankWork.fresh_notes s) rfl rfl).reports_eq (flushed_single _)

theorem enqueue_waits_step (hfresh : ∀ q ∈ (s.tank k).queue, q.1 ≠ l) {cur : Nat}
    (hmix : (s.tank k).queue = [] → (s.tank k).mix = some cur ∧ cur ≠ m)
    (hheld : (s.tank k).queue ≠ [] ∨ s.refuses k l ∨ (s.tank k).awaits) :
    TankStep s (closeTank k s (enqueue k l m step (.fresh s))) k { s.tank k with queue := (s.tank k).queue ++ [(l, m)] }
      (fun _ => none) [queuedReport k l m ((s.tank k).queue.length + 1) step] := by
  have hstart := TankWork.fresh_stands s k
  rw [enqueue_waits hstart hfresh hmix hheld]
  exact ((hstart.joined l m step).closed_still (TankWork.fresh_notes s) rfl rfl).reports_eq (flushed_single _)

theorem enqueue_adopts_step (hempty : (s.tank k).queue = []) (hmix : (s.tank k).mix = none) :
    TankStep s (closeTank k s (enqueue k l m step (.fresh s))) k
      { s.tank k with mix := some m, batchSince := false } (s.settledNotices k m [(l, m)])
      (tankChange (s.setTank k { s.tank k with queue := [(l, m)] })
        (s.setTank k { s.tank k with mix := some m, batchSince := false, queue := [(l, m)] }) k .adopt (some l) (s.followers k m)
        (s.mismatched k m) :: queuedReport k l m 1 step :: s.settledReports k m [(l, m)] (some l)) := by
  obtain ⟨h1, h2, h3⟩ := enqueue_heads (l := l) (m := m) (step := step) (TankWork.fresh_stands s k) hempty
  rw [h1]
  have hgrant := adoptHead_granted (x := { s.tank k with queue := [(l, m)] }) (rest := []) rfl hmix h2
    (.of_notes_none (TankWork.fresh_notes s)) nofun
  rw [h3] at hgrant
  have hclosed := TankWork.Granted.closed_joined (s := s) (k := k) (l := l) (m := m) (q := queuedReq k l m 1 step) (rs := []) rfl
    hgrant s
  have hz : ({ s.tank k with mix := some m, batchSince := false } : Tank) =
      { s.tank k with mix := some m, batchSince := false, queue := [] } := by rw [← hempty]
  rw [hz]
  exact hclosed

/-- A request that becomes the head of a tank of another mix, and is granted (R134). -/
theorem enqueue_changes_step {cur : Nat} (hw : w.Stands s k (s.tank k) []) (hreqs : w.reqs = []) (quiet : w.Quiet s k m [(l, m)])
    (hempty : (s.tank k).queue = []) (hmix : (s.tank k).mix = some cur) (hne : cur ≠ m) (hfree : ¬s.refuses k l)
    (hbatch : ¬(s.tank k).awaits) :
    TankStep s (closeTank k s (enqueue k l m step w)) k ((s.tank k).changedOver m []) (s.settledNotices k m [(l, m)])
      (tankChange (s.setTank k { s.tank k with queue := [(l, m)] }) (s.setTank k ((s.tank k).changedOver m [(l, m)])) k .changeover
        (some l) (s.followers k m) (s.mismatched k m) :: queuedReport k l m 1 step :: s.settledReports k m [(l, m)] (some l)) := by
  obtain ⟨h1, h2, h3⟩ := enqueue_heads (l := l) (m := m) (step := step) hw hempty
  rw [h1]
  have hgrant := changeHead_granted (x := { s.tank k with queue := [(l, m)] }) (rest := []) rfl hmix hne hfree hbatch h2 quiet rfl
  rw [h3, hreqs] at hgrant
  exact TankWork.Granted.closed_joined (s := s) (k := k) (l := l) (m := m) (q := queuedReq k l m 1 step) (rs := []) rfl hgrant s

/-- A TANK report reads no queue. -/
theorem tankChange_congr_queue {s' t' : State} (htank : { s'.tank k with queue := [] } = { s.tank k with queue := [] })
    (hreserve : s'.reserve k = s.reserve k) (hup : s'.uptime = s.uptime)
    (htank' : { t'.tank k with queue := [] } = { t.tank k with queue := [] }) (hreserve' : t'.reserve k = t.reserve k)
    (e : TankEvent) (requester : Option LineId) (followers : List (LineId × Nat)) (mismatched : LineSet) :
    tankChange s' t' k e requester followers mismatched = tankChange s t k e requester followers mismatched := by
  simp only [Tank.mk.injEq, and_true] at htank htank'
  obtain ⟨b1, b2, b3, b4, b5, b6, -, -⟩ := htank
  obtain ⟨h1, h2, h3, h4, h5, h6, -, -⟩ := htank'
  unfold tankChange State.tankState
  rw [b1, b2, b5, hreserve, hup, h1, h2, h3, h4, h5, h6, hreserve']

/-- An event whose request is granted as it joins the empty queue: the TANK report names the tank as it then stands. -/
theorem joinEvent {i : Instr} {f : State → State} {e : TankEvent} (good : s.supply.failed = false)
    (hexec : exec i s = takeEvent f s) (room : s.roomFor 3)
    (hf : TankStep (s.taken i) (f s) k z ((s.taken i).settledNotices k m [(l, m)])
      (tankChange ((s.taken i).setTank k x) ((s.taken i).setTank k y) k e (some l) (s.followers k m) (s.mismatched k m) ::
        queuedReport k l m 1 step :: s.settledReports k m [(l, m)] (some l)))
    (hx : { x with queue := [] } = { s.tank k with queue := [] }) (hz : { z with queue := [] } = { y with queue := [] }) :
    ∃ t, exec i s = .next t ∧ SettledOn (s.taken i) t k m [(l, m)] ∧
      t = { s with tanks := s.tanks.set k z, lines := t.lines, handoffs := t.handoffs, link := t.link } ∧
      Reported s t (tankChange s t k e (some l) (s.followers k m) (s.mismatched k m) ::
        queuedReport k l m 1 step :: s.settledReports k m [(l, m)] (some l)) := by
  have hlength := settledReports_single_length (s := s) (k := k) (l := l) (m := m) (granted := some l)
  obtain ⟨t, h1, h2, h3, h4⟩ := hf.event good hexec (State.roomFor.takes room (by
    rw [List.length_cons, List.length_cons]
    omega))
  obtain ⟨htank, hreserve⟩ := tank_of_set h2
  refine ⟨t, h1, h3.settledOn, h2, ?_⟩
  have hcongr := tankChange_congr_queue (k := k) (s := s) (s' := (s.taken i).setTank k x) (t := t) (t' := (s.taken i).setTank k y)
    (by rw [State.tank_setTank_self]; exact hx) rfl rfl (by rw [State.tank_setTank_self, htank]; exact hz.symm) hreserve.symm e
    (some l) (s.followers k m) (s.mismatched k m)
  rw [hcongr] at h4
  exact h4

/-! ### MIX_REQUEST (R128) -/

theorem evMixRequest_discards (hv : ∀ v, s.live l = some v →
      v.ctx.tank ≠ k ∨ v.phase = .drain ∨ v.phase = .ended ∨ v.ctx.pendingReq ≠ some m) :
    evMixRequest k l m s = s.taken (.mixRequest k l m) := by
  unfold evMixRequest
  dsimp only
  have hlive : (s.taken (.mixRequest k l m)).live l = s.live l := rfl
  rw [hlive]
  cases hl : s.live l with
  | none => rfl
  | some v =>
    dsimp only
    rw [if_neg]
    unfold Live.mayRequest
    simp only [Bool.and_eq_true, beq_iff_eq, bne_iff_ne]
    rintro ⟨⟨⟨h1, h2⟩, h3⟩, h4⟩
    rcases hv v hl with h | h | h | h
    · exact h h1
    · exact h2 h
    · exact h3 h
    · exact h h4

theorem evMixRequest_takes (hv : s.live l = some v) (ht : v.ctx.tank = k) (hdrain : v.phase ≠ .drain) (hended : v.phase ≠ .ended)
    (hreq : v.ctx.pendingReq = some m) {b : State} (hb : s.taken (.mixRequest k l m) = b) :
    evMixRequest k l m s = closeTank k b
      (if (b.tank k).mix = some m then satisfy k l m (.fresh b)
        else if (s.line l).pending v.ctx = none then .fresh b
        else enqueue k l m ((s.line l).step v.ctx) (.fresh b)) := by
  subst hb
  have hmay : (v.mayRequest k && v.ctx.pendingReq == some m) = true := by
    unfold Live.mayRequest
    simp [ht, hdrain, hended, hreq]
  unfold evMixRequest
  dsimp only
  have hlive : (s.taken (.mixRequest k l m)).live l = some v := hv
  rw [hlive]
  dsimp only
  rw [if_pos hmay]
  rfl

/-- Settles O44: discarded, satisfied, replaced, queued, adopted or changed over, by the mix, the queue and the pending request. -/
theorem mixRequestJoinsTheQueue : Obligations.MixRequestJoinsTheQueue := by
  intro s k l m good room i base tk bound
  have hexec : exec i s = takeEvent (evMixRequest k l m) s := rfl
  refine ⟨fun hv => event_nothing good hexec (evMixRequest_discards hv), ?_⟩
  intro v hv ht hdrain hended hreq step entry pends fresh frame
  have hev := evMixRequest_takes hv ht hdrain hended hreq (b := s.taken i) rfl
  have hstart := TankWork.fresh_stands (s.taken i) k
  have hnotes := TankWork.fresh_notes (s.taken i)
  have hquiet {q : List (LineId × Nat)} : (TankWork.fresh (s.taken i)).Quiet (s.taken i) k m q := TankWork.fresh_quiet
  have hctx : (s.taken i).ctx l = some v.ctx := by
    show (s.live l).map _ = _
    rw [hv]
    rfl
  have hsame : s.tanks.set k tk = s.tanks := State.tanks_set_tank s k
  have hasked (hmix : tk.mix ≠ some m) (hpends : pends) :
      evMixRequest k l m s = closeTank k (s.taken i) (enqueue k l m step (.fresh (s.taken i))) := by
    have hp : (s.line l).pending v.ctx ≠ none := Option.isSome_iff_ne_none.1 hpends
    rw [hev, if_neg (show ((s.taken i).tank k).mix ≠ some m from hmix), if_neg hp]
  refine ⟨fun j hmix hj => ?_, fun hmix hpends => ?_, fun pos hmix hpends hpos hlt => ?_,
    fun hmix hpends hfresh hheld => ?_, fun hpends hempty hmix => ?_, fun cur hpends hempty hmix hne hfree hbatch => ?_⟩
  · have hstep := satisfied_closed (m := m) hstart hnotes rfl hctx ht hj rfl rfl
    have hf : evMixRequest k l m s = closeTank k (s.taken i) (satisfy k l m (.fresh (s.taken i))) := by
      rw [hev, if_pos (show ((s.taken i).tank k).mix = some m from hmix)]
    rw [← hf] at hstep
    obtain ⟨t, h1, h2, h3, h4⟩ := hstep.event good hexec (State.roomFor.takes room (by simp))
    obtain ⟨hhanded, hlines⟩ := h3.satisfied
    refine ⟨t, h1, ?_, fun p => hlines p, h4⟩
    have htanks : s.tanks.set k ((s.taken i).tank k) = s.tanks := State.tanks_set_tank s k
    rw [htanks, hhanded] at h2
    exact h2
  · refine tankEvent_quiet (k := k) good hexec ?_
    have hp : (s.line l).pending v.ctx = none := Option.not_isSome_iff_eq_none.1 hpends
    rw [hev, if_neg (show ((s.taken i).tank k).mix ≠ some m from hmix), if_pos hp]
    exact .quiet ..
  · have hstep := enqueue_replaced_step (s := s.taken i) (m := m) (step := step) hpos hlt
    rw [← hasked hmix hpends] at hstep
    exact hstep.event_still good hexec (State.roomFor.takes room (by simp))
  · have hstep := enqueue_waits_step (s := s.taken i) (m := m) (step := step) (cur := tk.mix.getD 0) hfresh (fun he => by
      obtain ⟨hset, _⟩ := hheld.resolve_left (not_not.2 he)
      obtain ⟨cur, hcur⟩ := Option.isSome_iff_exists.1 hset
      rw [hcur]
      refine ⟨hcur, fun heq => hmix ?_⟩
      rw [hcur]
      exact congrArg some heq) (hheld.imp_right And.right)
    rw [← hasked hmix hpends] at hstep
    exact hstep.event_still good hexec (State.roomFor.takes room (by simp))
  · have hstep := enqueue_adopts_step (s := s.taken i) (l := l) (m := m) (step := step) hempty hmix
    rw [← hasked (by rw [hmix]; nofun) hpends] at hstep
    obtain ⟨t, h1, h2, h3, h4⟩ := joinEvent good hexec room hstep rfl rfl
    exact ⟨t, h1, h3, h2, h4⟩
  · have hstep := enqueue_changes_step (s := s.taken i) (l := l) (m := m) (step := step) hstart rfl TankWork.fresh_quiet hempty hmix
      hne hfree hbatch
    rw [← hasked (by rw [hmix]; exact fun h => hne (Option.some.inj h)) hpends] at hstep
    obtain ⟨t, h1, h2, h3, h4⟩ := joinEvent good hexec room hstep rfl rfl
    exact ⟨t, h1, h3, h2, h4⟩

/-! ### ADOPT (R132) -/

/-- What a late hand-off says to its line: its request, and the mismatch. -/
def lateNotice (own : Nat) : Notice := { step := none, pend := some (some own), mismatch := some true, reported := false }

theorem evAdopt_unset {b : State} (hb : s.taken (.adopt k l m) = b) (hmix : (s.tank k).mix = none) :
    evAdopt k l m s = closeTank k b (reportChange k .adopt b (some l) (adoptMix k m none (.fresh b))) := by
  subst hb
  unfold evAdopt
  dsimp only
  have htank : ((s.taken (.adopt k l m)).tank k).mix = none := hmix
  rw [htank]
  rfl

theorem evAdopt_idle {cur : Nat} (hmix : (s.tank k).mix = some cur) (hv : s.live l = none) :
    evAdopt k l m s = s.taken (.adopt k l m) := by
  unfold evAdopt
  dsimp only
  have htank : ((s.taken (.adopt k l m)).tank k).mix = some cur := hmix
  have hlive : (s.taken (.adopt k l m)).live l = none := hv
  rw [htank, hlive]

theorem evAdopt_set {cur own : Nat} {b : State} (hb : s.taken (.adopt k l m) = b) (hmix : (s.tank k).mix = some cur)
    (hv : s.live l = some v) (hstep : (s.line l).step v.ctx = step) (hown : (stepMix v.ctx.ladder step).getD 0 = own) :
    evAdopt k l m s =
      if own = cur then sendNotice l .plain b
      else if (v.mayRequest k && ((s.line l).unreported v.ctx).isNone) = true then
        closeTank k b (enqueue k l own step ((TankWork.fresh b).note l (lateNotice own)))
      else b := by
  subst hb hstep hown
  unfold evAdopt
  dsimp only
  have htank : ((s.taken (.adopt k l m)).tank k).mix = some cur := hmix
  have hlive : (s.taken (.adopt k l m)).live l = some v := hv
  rw [htank, hlive]
  rfl

/-- An event whose work moves the queue alone and tells the lines of no step: what it has to say, and no more. -/
theorem TankWork.Stands.closed_told (h : w.Stands s k x rs) (hsteps : ∀ p : LineId, (w.notes[p]).bind (·.step) = none)
    (hmix : x.mix = (s.tank k).mix) (hcontents : x.contents = (s.tank k).contents) :
    TankStep s (closeTank k s w) k x (fun p => w.notes[p]) (rs ++ flushed w.reqs) := by
  refine h.closed fun p => ?_
  have hmoved : w.moved k = false := by
    unfold TankWork.moved TankWork.stepOf
    rw [List.any_eq_false]
    intro q _
    rw [hsteps q]
    simp
  unfold TankWork.noticeTo TankWork.notifies
  rw [hmoved, h.tank, h.reserve, hmix, hcontents]
  simp

theorem note_fresh (b : State) (n : Notice) (p : LineId) :
    ((TankWork.fresh b).note l n).notes[p] = if p = l then some n else none := by
  split
  · next he => subst he; rw [TankWork.note_self, TankWork.fresh_notes]; rfl
  · next he => rw [TankWork.note_other _ _ he, TankWork.fresh_notes]

/-- One line alone has a notice. -/
theorem Sent.alone {n : Notice} (h : Sent s t fun p => if p = l then some n else none) :
    t.lines = s.lines.set l { s.line l with notices := (s.line l).notices ++ [n] } ∧
      t.handoffs = s.handoffs ++ [.tankNotice l] := by
  refine ⟨Vector.ext fun i hi => ?_, ?_⟩
  · have hline := h.lines ⟨i, hi⟩
    by_cases he : (⟨i, hi⟩ : LineId) = l
    · subst he
      rw [if_pos rfl] at hline
      rw [Vector.getElem_set_self]
      exact hline
    · rw [if_neg he, Option.toList_none, List.append_nil] at hline
      rw [Vector.getElem_set_ne _ _ fun hv => he (Fin.ext hv.symm)]
      exact hline
  · rw [h.handed, flatMap_single (l := l) _ fun p hp => ?_]
    · rw [if_pos rfl]; rfl
    · rw [if_neg hp]; rfl

/-- What a late hand-off has said to a line that follows is what the settling says again. -/
theorem late_quiet {own : Nat} {b : State} (hfollows : b.follows k own l = true) :
    ((TankWork.fresh b).note l (lateNotice own)).Quiet b k own queue := by
  intro p old hp
  rw [note_fresh] at hp
  by_cases he : p = l
  · subst he
    rw [if_pos rfl] at hp
    cases hp
    obtain ⟨j, hj⟩ := Option.isSome_iff_exists.1 hfollows
    refine ⟨rfl, State.follows_bound hfollows, ?_⟩
    unfold State.settledNotice
    rw [hj]
    simp [Notice.over, lateNotice]
  · rw [if_neg he] at hp
    cases hp

/-- Settles O45: on an UNSET tank an adoption; on a set one a notice, a discard, or the line's request, which waits or is granted. -/
theorem adoptSetsTheMix : Obligations.AdoptSetsTheMix := by
  intro s k l m good room i base tk frame
  have hexec : exec i s = takeEvent (evAdopt k l m) s := rfl
  refine ⟨fun hmix => ?_, fun cur hmix hv => event_nothing good hexec (evAdopt_idle hmix hv), ?_⟩
  · have hspec := change_spec (granted := none) (y := { tk with mix := some m, batchSince := false })
      (m := m) (TankWork.fresh_stands (s.taken i) k) rfl TankWork.fresh_quiet .adopt (some l)
    have hclosed := (hspec.1.changed (s.taken i) hspec.2.1 hspec.2.2).reports_eq
      (congrArg (_ :: ·) (flushed_settled (s := s.taken i) (granted := none)))
    have hf := evAdopt_unset (m := m) (l := l) (b := s.taken i) rfl hmix
    have hstep := hf ▸ hclosed
    exact changeEvent good hexec (fun _ => State.roomFor.takes room (changed_length _ _)) hstep
  intro cur v hmix hv step own asks sent queued
  have hev := evAdopt_set (m := m) (b := s.taken i) rfl hmix hv (step := step) (own := own) rfl rfl
  have hmay : (v.mayRequest k && ((s.line l).unreported v.ctx).isNone) = true ↔
      v.ctx.tank = k ∧ v.phase ≠ .drain ∧ v.phase ≠ .ended ∧ (s.line l).unreported v.ctx = none := by
    unfold Live.mayRequest
    simp [and_assoc]
  refine ⟨fun hown => ?_, fun hown hno => event_nothing good hexec ?_, fun hasks hfresh hheld => ?_,
    fun hasks hfollows hempty hfree hbatch => ?_⟩
  · rw [if_pos hown] at hev
    obtain ⟨k', h1, h2⟩ := takeEvent_reported good (f := evAdopt k l m) (rs := []) (by
      rw [hev]
      exact (Queued.refl s).link_eq rfl)
    refine ⟨_, h1, h2, ?_⟩
    have hsame : s.tanks.set k tk = s.tanks := State.tanks_set_tank s k
    show _ = ({ s.taken i with tanks := s.tanks.set k tk, lines := _, handoffs := _, link := _ } : State)
    rw [hsame, hev]
    rfl
  · rw [hev, if_neg hown, if_neg fun h => hno ⟨hown, hmay.1 h⟩]
  · obtain ⟨hown, hcan⟩ := hasks
    rw [if_neg hown, if_pos (hmay.2 hcan)] at hev
    have hwork : ((TankWork.fresh (s.taken i)).note l (lateNotice own)).Stands (s.taken i) k tk [] :=
      (TankWork.fresh_stands (s.taken i) k).told
    have hwaits := enqueue_waits (step := step) (m := own) hwork hfresh (fun _ => ⟨hmix, Ne.symm hown⟩) hheld
    have hstep := (hwork.joined l own step).closed_told (fun p => by
      show (((TankWork.fresh (s.taken i)).note l (lateNotice own)).notes[p]).bind _ = _
      rw [note_fresh]
      split <;> rfl) rfl rfl
    replace hstep := hstep.reports_eq (qs := [queued (tk.queue.length + 1)]) (flushed_single _)
    rw [← hwaits, ← hev] at hstep
    obtain ⟨t, h1, h2, h3, h4⟩ := hstep.event good hexec (State.roomFor.takes room (by simp))
    have hnotes : (fun p : LineId => (enqueue k l own step ((TankWork.fresh (s.taken i)).note l (lateNotice own))).notes[p]) =
        fun p => if p = l then some (lateNotice own) else none := by
      rw [hwaits]
      exact funext fun p => note_fresh (s.taken i) (lateNotice own) p
    rw [hnotes] at h3
    obtain ⟨hlines, hhanded⟩ := h3.alone
    rw [hlines, hhanded] at h2
    exact ⟨t, h1, h4, h2⟩
  · obtain ⟨hown, hcan⟩ := hasks
    rw [if_neg hown, if_pos (hmay.2 hcan)] at hev
    have hwork : ((TankWork.fresh (s.taken i)).note l (lateNotice own)).Stands (s.taken i) k ((s.taken i).tank k) [] :=
      (TankWork.fresh_stands (s.taken i) k).told
    have hstep := enqueue_changes_step (l := l) (m := own) (step := step) hwork rfl (late_quiet hfollows) hempty hmix
      (Ne.symm hown) hfree hbatch
    rw [← hev] at hstep
    obtain ⟨t, h1, h2, h3, h4⟩ := joinEvent good hexec (room.mono (by decide)) hstep rfl rfl
    exact ⟨t, h1, h3, h2, h4⟩

end

end Sys2Proof.Machine
end

section
/-! PROOFS. The statement on BATCH (R125). -/

namespace Sys2Proof.Machine

section
variable {s t u before : State} {k : TankId} {x y z : Tank} {w : TankWork} {rs : List Report} {l : LineId} {m n j step : Nat}
  {queue rest : List (LineId × Nat)} {v : Live} {c : Context} {mix volume amount excess : Nat} {ns : LineId → Option Notice}

/-! ### The request -/

theorem reqBatch_range {tank : Nat} (h : ¬(1 ≤ tank ∧ tank ≤ 2 ∧ inRange 1 8 mix = true ∧ inRange 1 1500 volume = true)) :
    reqBatch tank mix volume s = deny s .range := by
  unfold reqBatch
  cases hr : inRange 1 8 mix && inRange 1 1500 volume with
  | false => cases tankOf tank <;> rfl
  | true =>
    obtain ⟨h1, h2⟩ := Bool.and_eq_true_iff.1 hr
    rw [tankOf_none (not_inRange_iff.2 fun ht => h ⟨ht.1, ht.2, h1, h2⟩)]

theorem reqBatch_found (hmix : inRange 1 8 mix = true) (hvolume : inRange 1 1500 volume = true) :
    reqBatch (k.val + 1) mix volume s =
      if (tfind s.store.mixes mix).isNone = true then deny s .notPlanned
      else if (s.tank k).mix.any (fun m => m != mix) = true then deny s .conflict
      else
        accept (tankEvent k (batchWork k mix (volume * 1000)) s)
          (u32 ((tankEvent k (batchWork k mix (volume * 1000)) s).tank k).contents ++
            u32 (overflowOf (s.tank k) (volume * 1000)) ++
            u8 ((tankEvent k (batchWork k mix (volume * 1000)) s).tankState k).code) := by
  unfold reqBatch
  rw [tankOf_val, hmix, hvolume]
  rfl

/-- A request that is one whole tank event and answers with what it leaves of the tank. -/
theorem TankStep.answered {i : Instr} {kind' kind : Byte} (hl : s.Listening) (hk : requestKind i = some kind')
    (hkind : kind = kind' + 0x80)
    (hf : handle i (reloadT1 s) = accept u (u32 (u.tank k).contents ++ u32 excess ++ u8 (u.tankState k).code))
    (h : TankStep (reloadT1 s) u k x ns rs) (room : s.takes rs) :
    ∃ t, exec i s = .next t ∧
      t = { s with tanks := s.tanks.set k x, lines := t.lines, handoffs := t.handoffs, link := t.link } ∧
      Sent s t ns ∧
      Answered s t kind (requestTag i) .ok (u32 (t.tank k).contents ++ u32 excess ++ u8 (t.tankState k).code) rs := by
  obtain ⟨t, h1, h2, h3, h4⟩ := h.request hl hk hkind hf room
  obtain ⟨htank, hreserve⟩ := tank_of_set h2
  obtain ⟨htank', hreserve'⟩ := tank_of_set h.state
  have hstate : u.tankState k = t.tankState k := by
    unfold State.tankState
    rw [htank, htank', hreserve, hreserve']
    rfl
  rw [htank', ← htank, hstate] at h4
  exact ⟨t, h1, h2, h3, h4⟩

/-! ### What the delivery makes (R125) -/

theorem deliverWork_stands (h : w.Stands s k x rs) (amount : Nat) :
    (deliverWork k amount w).Stands s k (deliver x amount) rs := by
  unfold deliverWork
  rw [h.tank]
  exact h.setTank _

/-- A BATCH of an UNSET tank that no request waits on: it adopts the mix and takes the volume. -/
theorem batch_adopts (hmix : (s.tank k).mix = none) (hempty : (s.tank k).queue = [])
    (hz : deliver { s.tank k with mix := some m, batchSince := false } amount = z) :
    TankStep s (tankEvent k (batchWork k m amount) s) k z (s.settledNotices k m [])
      [tankChange s (s.setTank k z) k .adopt none (s.followers k m) (s.mismatched k m)] := by
  have hstart := TankWork.fresh_stands s k
  obtain ⟨y, hy⟩ : ∃ y : Tank, { s.tank k with mix := some m, batchSince := false } = y := ⟨_, rfl⟩
  have hqueue : y.queue = [] := by rw [← hy]; exact hempty
  obtain ⟨a, ha⟩ : ∃ a, settle k m none { TankWork.fresh s with s := s.setTank k y } = a := ⟨_, rfl⟩
  have hwork : batchWork k m amount (.fresh s) =
      examineHead k (reportChange k .adopt s none { a with w := deliverWork k amount a.w }) := by
    unfold batchWork
    rw [hstart.tank, hmix, ← ha, ← hy]
    rfl
  obtain ⟨h1, h2, h3, h4, h5⟩ := settle_quiet hstart hqueue TankWork.fresh_quiet ha
  have hleft : ({ y with queue := s.leftIn k m [] } : Tank) = y := by
    rw [leftIn_nil, ← hqueue]
  rw [hleft] at h1
  have hfilled := deliverWork_stands h1 amount
  rw [← hy, hz] at hfilled
  have hreport := TankWork.Stands.reportChange (a := { a with w := deliverWork k amount a.w }) hfilled (before := s) rfl .adopt none
  have hrests : s.rests k z := by
    intro q hq
    rw [← hz, deliver_queue] at hq
    rw [show ({ s.tank k with mix := some m, batchSince := false } : Tank).queue = [] from hempty] at hq
    cases hq
  rw [tankEvent_eq, hwork, examineHead_rests hreport hrests]
  refine (hreport.changed s (h4.trans (List.nil_append _)) h5).reports_eq ?_
  rw [flushed_settled, settledReports_nil, List.append_nil, h2, h3]
  refine congrArg (fun r => [r]) ?_
  exact tankChange_congr (s := s) (t := s.setTank k z) (s' := s) (q := []) rfl rfl rfl
    (by rw [hfilled.tank, State.tank_setTank_self]) (hfilled.reserve k) ..

/-- A BATCH of the tank's own mix: the delivery, with its report where the state changes. -/
theorem batch_work (hmix : (s.tank k).mix = some m) (hz : deliver (s.tank k) amount = z) :
    batchWork k m amount (.fresh s) =
        examineHead k { TankWork.fresh s with s := reportIfChanged k .batch s (s.setTank k z) } ∧
      TankWork.Stands s k { TankWork.fresh s with s := reportIfChanged k .batch s (s.setTank k z) } z
        (changeReports s (s.setTank k z) k .batch) := by
  subst hz
  refine ⟨?_, ((TankWork.fresh_stands s k).setTank (deliver (s.tank k) amount)).reportIfChanged rfl .batch⟩
  unfold batchWork
  rw [(TankWork.fresh_stands s k).tank, hmix]
  rfl

/-- A BATCH whose head, if one waits, is withheld by a refusal test. -/
theorem batch_fills (hmix : (s.tank k).mix = some m) (hz : deliver (s.tank k) amount = z)
    (hheld : (s.tank k).queue = [] ∨ ∃ l n rest, (s.tank k).queue = (l, n) :: rest ∧ n ≠ m ∧ s.refuses k l) :
    TankStep s (tankEvent k (batchWork k m amount) s) k z
      (fun l => if (s.tank k).contents ≠ z.contents ∧ (s.ctx l).any (fun c => c.tank == k) = true then some Notice.plain else none)
      (changeReports s (s.setTank k z) k .batch) := by
  obtain ⟨hwork, hstands⟩ := batch_work hmix hz
  have hrests : s.rests k z := by
    intro q hq
    rw [← hz, deliver_queue] at hq
    rcases hheld with hempty | ⟨l, n, rest, hqueue, hne, hrefuses⟩
    · rw [hempty] at hq
      cases hq
    · rw [hqueue] at hq
      cases hq
      exact ⟨⟨m, by rw [← hz, deliver_mix, hmix], hne.symm⟩, .inl hrefuses⟩
  rw [tankEvent_eq, hwork, examineHead_rests hstands hrests]
  refine (hstands.closed (before := s) fun p => ?_).reports_eq (List.append_nil _)
  rw [noticeTo_eq hstands (TankWork.fresh_notes s) rfl, ← hz, deliver_mix]
  simp

/-- A BATCH whose head is granted its changeover. -/
theorem batch_changes (hmix : (s.tank k).mix = some m) (hz : deliver (s.tank k) amount = z)
    (hqueue : (s.tank k).queue = (l, n) :: rest) (hne : n ≠ m) (hfree : ¬s.refuses k l)
    (hall : ((s.leftIn k n rest).head?.all (fun q => q.2 != n)) = true) :
    TankStep s (tankEvent k (batchWork k m amount) s) k (z.changedOver n (s.leftIn k n rest)) (s.settledNotices k n (s.tank k).queue)
      (changeReports s (s.setTank k z) k .batch ++ tankChange (s.setTank k z) (s.setTank k (z.changedOver n z.queue)) k .changeover
        (some l) (s.followers k n) (s.mismatched k n) :: s.settledReports k n (s.tank k).queue (some l)) := by
  obtain ⟨hwork, hstands⟩ := batch_work hmix hz
  have hzqueue : z.queue = (s.tank k).queue := by rw [← hz, deliver_queue]
  have hbatch : ¬z.awaits := by
    rw [← hz]
    exact fun h => nomatch h.1
  rw [tankEvent_eq, hwork, ← hzqueue]
  exact (changeHead_granted (hzqueue.trans hqueue) (by rw [← hz, deliver_mix, hmix]) hne.symm hfree hbatch hstands
    (.of_notes_none (TankWork.fresh_notes s)) hall).closed s

/-! ### The statement -/

/-- A delivery into a tank, with the mix it then holds, written out (R125). -/
theorem deliver_eq (x : Tank) (amount : Nat) :
    deliver x amount = { x with
      delivered := x.delivered + amount, contents := x.contents + amount - (x.contents + amount - 1500000)
      waste := x.waste + (x.contents + amount - 1500000), batchSince := true } := by
  unfold deliver overflowOf Config.tankCapacity
  rfl

/-- Settles O42: refused, adopted, filled with its head withheld, or filled with its head granted a changeover. -/
theorem batchFillsTheTank : Obligations.BatchFillsTheTank := by
  intro s tag tank mix volume hl room i ranged planned
  refine ⟨fun h => .denied hl rfl rfl (reqBatch_range h), fun k htank hranged => ?_⟩
  subst htank
  intro tk excess filled mid frame body change
  obtain ⟨hrmix, hrvolume⟩ := hranged
  have hreq := reqBatch_found (s := reloadT1 s) (k := k) hrmix hrvolume
  have hexcess : overflowOf tk (volume * 1000) = excess := by unfold overflowOf Config.tankCapacity; rfl
  have hplanned (hp : planned) : ¬(tfind (reloadT1 s).store.mixes mix).isNone = true := by
    rw [Option.isNone_iff_eq_none]
    exact Option.isSome_iff_ne_none.1 hp
  have hgo (hp : planned) (hmix : ¬tk.mix.any (fun m => m != mix) = true) :
      handle i (reloadT1 s) = accept (tankEvent k (batchWork k mix (volume * 1000)) (reloadT1 s))
        (u32 ((tankEvent k (batchWork k mix (volume * 1000)) (reloadT1 s)).tank k).contents ++ u32 excess ++
          u8 ((tankEvent k (batchWork k mix (volume * 1000)) (reloadT1 s)).tankState k).code) := by
    rw [← hexcess]
    exact hreq.trans (by rw [if_neg (hplanned hp)]; exact if_neg hmix)
  have hown (hmix : tk.mix = some mix) : ¬tk.mix.any (fun m => m != mix) = true := by rw [hmix]; simp
  have hfilled (hmix : tk.mix = some mix) : deliver tk (volume * 1000) = filled := by
    rw [deliver_eq, hmix]
  have hchange : changeReports (reloadT1 s) ((reloadT1 s).setTank k filled) k .batch = change := rfl
  have hlength : change.length ≤ 1 := by rw [← hchange]; exact changeReports_length ..
  refine ⟨fun hp => ?_, fun m hp hmix hne => ?_, fun hp hmix hempty => ?_, fun hp hmix hheld => ?_,
    fun l n rest hp hmix hqueue hne hfree hall => ?_⟩
  · refine .denied hl rfl rfl (hreq.trans (if_pos ?_))
    rw [Option.isNone_iff_eq_none]
    exact Option.not_isSome_iff_eq_none.1 hp
  · refine .denied hl rfl rfl (hreq.trans ?_)
    rw [if_neg (hplanned hp)]
    refine if_pos ?_
    show tk.mix.any _ = true
    rw [hmix]
    simpa using hne
  · have hstep := batch_adopts (s := reloadT1 s) (k := k) (m := mix) (amount := volume * 1000) (z := filled) hmix hempty
      (deliver_eq ..)
    obtain ⟨t, h1, h2, h3, h4⟩ := hstep.answered hl rfl rfl (hgo hp (by rw [hmix]; nofun)) (State.roomFor.takes room (by simp))
    obtain ⟨htank, hreserve⟩ := tank_of_set h2
    refine ⟨t, h1, h2, h3.settledOn, ?_⟩
    have hfinal := tankChange_congr (k := k) (s := s) (s' := reloadT1 s) (t := t) (t' := (reloadT1 s).setTank k filled) (q := [])
      rfl rfl rfl (by rw [htank, State.tank_setTank_self]) hreserve.symm .adopt none (s.followers k mix) (s.mismatched k mix)
    rw [← hfinal]
    exact h4
  · have hstep := batch_fills (s := reloadT1 s) (k := k) (z := filled) hmix (hfilled hmix) hheld
    rw [hchange] at hstep
    obtain ⟨t, h1, h2, h3, h4⟩ := hstep.answered hl rfl rfl (hgo hp (hown hmix)) (State.roomFor.takes room (by omega))
    obtain ⟨hstill, hsends⟩ := h3.notified rfl
    exact ⟨t, h1, h2, fun h => hstill (not_not.2 h), hsends, h4⟩
  · have hstep := batch_changes (s := reloadT1 s) (k := k) (z := filled) hmix (hfilled hmix) hqueue hne hfree hall
    rw [hchange] at hstep
    have hroom (r : Report) : s.takes (change ++ r :: (reloadT1 s).settledReports k n ((reloadT1 s).tank k).queue (some l)) := by
      refine State.roomFor.takes room ?_
      rw [List.length_append]
      have hset := changed_length (s := reloadT1 s) (k := k) (m := n) (queue := ((reloadT1 s).tank k).queue) r (some l)
      omega
    obtain ⟨t, h1, h2, h3, h4⟩ := hstep.answered hl rfl rfl (hgo hp (hown hmix)) (hroom _)
    obtain ⟨htank, hreserve⟩ := tank_of_set h2
    refine ⟨t, h1, h2, h3.settledOn, ?_⟩
    have hfinal := tankChange_final (s := mid) (t := t) (s' := reloadT1 s) (x := filled) (y := filled.changedOver n filled.queue) rfl rfl
      htank hreserve .changeover (some l) (s.followers k n) (s.mismatched k n) (by simp [State.tank, mid])
    rw [← hfinal]
    exact h4

end

end Sys2Proof.Machine
end

section
/-! PROOFS. An event from outside that acts on the lines one after another: a hold cause imposed or released, and a drain (R69, R70,
R77, R149, R151, R158, R170 to R172). -/

namespace Sys2Proof.Machine

section
variable {s t u w : State} {k : TankId} {l : LineId} {v : Live} {c : Context} {on : Context → Bool} {add : HoldSet → HoldSet}
  {cause : Cause} {rs : List Report} {hs : List Instr}

/-! ### The lines one after another -/

/-- What holds of the lines before each line, and is carried over the line, holds after the last. -/
theorem foldl_lines {α : Type} {P : List LineId → α → Prop} (op : α → LineId → α) {a : α} (h0 : P [] a)
    (hstep : ∀ ds l b, (∀ x, x ∈ ds ↔ x < l) → P ds b → P (ds ++ [l]) (op b l)) : P allLines (allLines.foldl op a) := by
  have hsorted : allLines.Pairwise (· < ·) := by decide
  have hrest : ∀ (rest ds : List LineId) (b : α), ds ++ rest = allLines → P ds b → P allLines (rest.foldl op b) := by
    intro rest
    induction rest with
    | nil =>
      intro ds b hall hb
      rw [List.append_nil] at hall
      exact hall ▸ hb
    | cons l rest ih =>
      intro ds b hall hb
      rw [← hall] at hsorted
      obtain ⟨_, hright, hless⟩ := List.pairwise_append.1 hsorted
      have hbefore (x : LineId) : x ∈ ds ↔ x < l := by
        refine ⟨fun hx => hless x hx l (List.mem_cons_self ..), fun hx => ?_⟩
        have hin : x ∈ ds ++ l :: rest := hall ▸ mem_allLines x
        rcases List.mem_append.1 hin with hin | hin
        · exact hin
        · rcases List.mem_cons.1 hin with rfl | hin
          · exact absurd hx (lt_irrefl _)
          · exact absurd hx (not_lt_of_gt (List.rel_of_pairwise_cons hright hin))
      refine ih (ds ++ [l]) _ (by rw [List.append_assoc]; exact hall) (hstep ds l b hbefore hb)
  exact hrest allLines [] a rfl h0

/-- From `s` to `u` every line `l` has been written as `x l` and these instructions handed over; the link has taken reports, and
nothing else of the part has moved. -/
structure LinesStep (s u : State) (x : LineId → Line) (hs : List Instr) : Prop where
  state : u = { s with lines := u.lines, handoffs := s.handoffs ++ hs, link := u.link }
  lines : ∀ l, u.line l = x l
  link : u.link = { s.link with reports := u.link.reports, missed := u.link.missed }
  grows : s.link.reports <+: u.link.reports

/-- Each line's step, taken where the part stands as in `s` but for the lines before it, the hand-offs and the link. -/
theorem LinesStep.foldl {x : LineId → Line} {h : LineId → List Instr} (op : State → LineId → State)
    (hop : ∀ u l, u = { s with lines := u.lines, handoffs := u.handoffs, link := u.link } → u.line l = s.line l →
      ∃ rs, LineStep u (op u l) l (x l) (h l) rs) :
    LinesStep s (allLines.foldl op s) x (allLines.flatMap h) := by
  have hall := foldl_lines (a := s)
    (P := fun ds u => LinesStep s u (fun l => if l ∈ ds then x l else s.line l) (ds.flatMap h)) op
    { state := by simp, lines := fun _ => (if_neg nofun).symm, link := rfl, grows := List.prefix_rfl }
    fun ds l u hds hu => ?_
  · exact ⟨hall.state, fun l => (hall.lines l).trans (if_pos (mem_allLines l)), hall.link, hall.grows⟩
  · have hlines := hu.state
    obtain ⟨rs, hstep⟩ := hop u l (by rw [hlines]) ((hu.lines l).trans (if_neg fun hin => lt_irrefl l ((hds l).1 hin)))
    refine ⟨?_, fun p => ?_, ?_, hu.grows.trans hstep.grows⟩
    · rw [hstep.state, hlines, List.flatMap_append, List.append_assoc]
      simp
    · have hp : (op u l).line p = if p = l then x l else u.line p := by
        rw [hstep.state]
        split
        · next he => subst he; exact getElem_set_same ..
        · next he => exact getElem_set_other _ _ he
      rw [hp, hu.lines]
      by_cases he : p = l
      · subst he; simp
      · simp [he]
    · rw [hstep.link, hu.link]

/-- The steps of the lines that satisfy `cond`, in their order. -/
theorem foldl_filter_lines {α : Type} (cond : LineId → Bool) (op : α → LineId → α) (a : α) :
    (allLines.filter cond).foldl op a = allLines.foldl (fun b l => if cond l = true then op b l else b) a :=
  List.foldl_filter ..

/-! ### A hold cause imposed (R69) -/

/-- A line on which a hold cause from outside is imposed (R149, R151, R170). -/
def Live.imposed (add : HoldSet → HoldSet) (v : Live) : Live :=
  if v.phase = .inject ∨ v.phase = .relief ∨ v.phase = .starved then
    { phase := .hold, latch := v.latch
      ctx := { v.ctx with
        hold := add HoldSet.none, u := 0, starve := none
        refusalTimer := if v.phase = .inject then 0 else v.ctx.refusalTimer } }
  else if v.phase = .hold then { v with ctx := { v.ctx with hold := add v.ctx.hold } }
  else v

theorem Live.imposed_enters (hp : v.phase = .inject ∨ v.phase = .relief ∨ v.phase = .starved) (add : HoldSet → HoldSet) :
    v.imposed add =
      { phase := .hold, latch := v.latch
        ctx := { v.ctx with
          hold := add HoldSet.none, u := 0, starve := none
          refusalTimer := if v.phase = .inject then 0 else v.ctx.refusalTimer } } := if_pos hp

theorem Live.imposed_adds (hp : v.phase = .hold) (add : HoldSet → HoldSet) :
    v.imposed add = { v with ctx := { v.ctx with hold := add v.ctx.hold } } := by
  rw [Live.imposed, if_neg (by rw [hp]; simp), if_pos hp]

theorem Live.imposed_keeps (hp : v.phase ∉ [Phase.inject, .relief, .starved, .hold]) (add : HoldSet → HoldSet) :
    v.imposed add = v := by
  simp only [List.mem_cons, List.not_mem_nil, or_false, not_or] at hp
  obtain ⟨h1, h2, h3, h4⟩ := hp
  rw [Live.imposed, if_neg (by simp [h1, h2, h3]), if_neg h4]

theorem imposeCause_step (hv : s.live l = some v) (cause : Cause) (add : HoldSet → HoldSet) :
    ∃ rs, LineStep s (imposeCause l cause add s) l { s.line l with live := some (v.imposed add) } (leaving v.phase v.ctx) rs := by
  have hrefl := LineStep.refl s l
  have henters (hp : v.phase = .inject ∨ v.phase = .relief ∨ v.phase = .starved) :
      ∃ rs, LineStep s (enterHold l v.phase cause add s) l { s.line l with live := some (v.imposed add) }
        (leaving v.phase v.ctx) rs := by
    rw [Live.imposed_enters hp]
    exact ⟨_, hrefl.enterHold hv v.phase cause add⟩
  have hkeeps (hp : v.phase ∉ [Phase.inject, .relief, .starved, .hold]) :
      ∃ rs, LineStep s s l { s.line l with live := some (v.imposed add) } (leaving v.phase v.ctx) rs := by
    have hout : leaving v.phase v.ctx = [] := if_neg fun he => hp (by simp [he])
    rw [Live.imposed_keeps hp, hout]
    exact ⟨_, hrefl.rewrite hv⟩
  rw [imposeCause_eq hv]
  split
  · next hp => exact henters (.inl hp)
  · next hp => exact henters (.inr (.inl hp))
  · next hp => exact henters (.inr (.inr hp))
  · next hp =>
    have hout : leaving v.phase v.ctx = [] := if_neg (by rw [hp]; nofun)
    rw [Live.imposed_adds hp, hout]
    split
    · exact ⟨_, hrefl.setLive _⟩
    · exact ⟨_, hrefl.addCause hv cause add⟩
  · next h1 h2 h3 h4 =>
    exact hkeeps (by
      simp only [List.mem_cons, List.not_mem_nil, or_false, not_or]
      exact ⟨h1, h2, h3, h4⟩)

/-- A hold cause imposed on the lines whose context satisfies `on`, and on no other. -/
theorem impose_fold (on : Context → Bool) (cause : Cause) (add : HoldSet → HoldSet) (op : State → LineId → State)
    (hacts : ∀ u l, (s.ctx l).any on = true → op u l = imposeCause l cause add u)
    (hrests : ∀ u l, (s.ctx l).any on = false → u.live l = s.live l → op u l = u) :
    LinesStep s (allLines.foldl op s)
      (fun l => { s.line l with live := (s.live l).map (fun v => if on v.ctx = true then v.imposed add else v) })
      (s.handedBy (fun _ v => if on v.ctx then leaving v.phase v.ctx else [])) := by
  refine LinesStep.foldl _ fun u l hu hl => ?_
  have hlive : u.live l = s.live l := congrArg Line.live hl
  cases hv : s.live l with
  | none =>
    have hctx : s.ctx l = none := by unfold State.ctx; rw [hv]; rfl
    refine ⟨[], ?_⟩
    rw [hrests u l (by rw [hctx]; rfl) hlive]
    have hsame : { s.line l with live := none } = u.line l := by rw [← hv, hl]; rfl
    show LineStep u u l { s.line l with live := none } [] []
    rw [hsame]
    exact LineStep.refl u l
  | some v =>
    have hctx : (s.ctx l).any on = on v.ctx := by unfold State.ctx; rw [hv]; rfl
    rw [← hl]
    show ∃ rs, LineStep u _ l { u.line l with live := some (if on v.ctx = true then v.imposed add else v) }
      (if on v.ctx = true then _ else []) rs
    by_cases hon : on v.ctx = true
    · rw [hacts u l (hctx.trans hon), if_pos hon, if_pos hon]
      exact imposeCause_step (hlive.trans hv) cause add
    · rw [hrests u l (hctx.trans (Bool.not_eq_true _ ▸ hon)) hlive, if_neg hon, if_neg hon]
      exact ⟨[], (LineStep.refl u l).rewrite (hlive.trans hv)⟩

theorem impose_steps (s : State) (on : Context → Bool) (cause : Cause) (add : HoldSet → HoldSet) :
    LinesStep s ((allLines.filter (fun l => (s.ctx l).any on)).foldl (fun u l => imposeCause l cause add u) s)
      (fun l => { s.line l with live := (s.live l).map (fun v => if on v.ctx = true then v.imposed add else v) })
      (s.handedBy (fun _ v => if on v.ctx then leaving v.phase v.ctx else [])) := by
  rw [foldl_filter_lines]
  exact impose_fold on cause add _ (fun u l h => if_pos h) fun u l h _ => if_neg (by rw [h]; nofun)

/-- A hold cause imposed on every line. -/
theorem impose_all_steps (s : State) (cause : Cause) (add : HoldSet → HoldSet) :
    LinesStep s (allLines.foldl (fun u l => imposeCause l cause add u) s)
      (fun l => { s.line l with
        live := (s.live l).map (fun v => if (fun _ : Context => true) v.ctx = true then v.imposed add else v) })
      (s.handedBy (fun _ v => if (fun _ : Context => true) v.ctx then leaving v.phase v.ctx else [])) := by
  refine impose_fold (fun _ => true) cause add _ (fun _ _ _ => rfl) fun u l h hlive => ?_
  have hnone : s.live l = none := by
    cases hv : s.live l with
    | none => rfl
    | some v =>
      unfold State.ctx at h
      rw [hv] at h
      cases h
  unfold imposeCause
  rw [hlive, hnone]

/-- The lines after a hold cause is imposed, as the rule states them. -/
theorem LinesStep.heldOn (h : LinesStep s u
      (fun l => { s.line l with live := (s.live l).map (fun v => if on v.ctx = true then v.imposed add else v) })
      (s.handedBy (fun _ v => if on v.ctx then leaving v.phase v.ctx else []))) : HeldOn s u on add := by
  have hlive (l : LineId) : u.live l = (s.live l).map (fun v => if on v.ctx = true then v.imposed add else v) := by
    rw [State.live, h.lines]
  refine ⟨fun l v hv hon hp => ?_, fun l v hv hon hp => ?_, fun l hkept => ?_, fun l => ?_, ?_, ?_⟩
  · rw [hlive, hv, Option.map_some, if_pos hon, Live.imposed_enters hp]
  · rw [hlive, hv, Option.map_some, if_pos hon, Live.imposed_adds hp]
  · rw [hlive]
    cases hv : s.live l with
    | none => rfl
    | some v =>
      rw [Option.map_some]
      by_cases hon : on v.ctx = true
      · rw [if_pos hon, Live.imposed_keeps (hkept v hv hon)]
      · rw [if_neg hon]
  · rw [hlive, h.lines]
  · rw [h.state]
  · rw [h.state]

end

end Sys2Proof.Machine
end

section
/-! PROOFS. Hold causes released, and lines drained, one after another (R70, R77, R129, R149, R151, R158, R171, R172). -/

namespace Sys2Proof.Machine

section
variable {s t u w : State} {k : TankId} {l : LineId} {v : Live} {c : Context} {on : Context → Bool} {cause : Cause}
  {rs : List Report} {hs : List Instr} {o : PassOutcome}

/-! ### A hold cause released (R70) -/

/-- A line in HOLD holds the cause. -/
def Live.holdsCause (v : Live) (cause : Cause) : Bool := v.phase == .hold && v.ctx.hold.holds cause

/-- What a line that loses its last cause enters (R70). -/
def State.entryWithout (s : State) (cause : Cause) (c : Context) : Phase × Context :=
  s.entry { c with hold := c.hold.drop cause } c.lastPe

/-- A line in HOLD from which a cause is released (R70). -/
def Live.released (s : State) (cause : Cause) (v : Live) : Live :=
  if (v.ctx.hold.drop cause).isEmpty = true then
    { phase := (s.entryWithout cause v.ctx).1, ctx := (s.entryWithout cause v.ctx).2, latch := v.latch }
  else { v with ctx := { v.ctx with hold := v.ctx.hold.drop cause } }

/-- What a line hands over when a cause is released from it: the request it raises where it leaves HOLD. -/
def State.releaseHands (s : State) (cause : Cause) (l : LineId) (v : Live) : List Instr :=
  if (v.ctx.hold.drop cause).isEmpty = true then raised l v.ctx (s.entryWithout cause v.ctx).2 else []

theorem releaseCauses_step (hv : s.live l = some v) (cause : Cause) (cond : Release) :
    ∃ rs, LineStep s (releaseCauses l (fun h => h.drop cause) (some cause) cond s) l
      { s.line l with live := some (v.released s cause) } (s.releaseHands cause l v) rs := by
  unfold Live.released State.releaseHands
  by_cases he : (v.ctx.hold.drop cause).isEmpty = true
  · rw [if_pos he, if_pos he]
    exact ⟨_, (LineStep.refl s l).release_leaves hv (fun h => h.drop cause) (some cause) cond rfl he rfl⟩
  · rw [if_neg he, if_neg he]
    exact ⟨_, (LineStep.refl s l).release_stays hv (fun h => h.drop cause) (some cause) cond rfl (Bool.not_eq_true _ ▸ he)⟩

/-- A line that stands where nothing but lines, hand-offs and link has moved enters the same. -/
theorem released_congr (hu : u = { s with lines := u.lines, handoffs := u.handoffs, link := u.link }) (cause : Cause) (v : Live) :
    v.released u cause = v.released s cause ∧ u.releaseHands cause l v = s.releaseHands cause l v := by
  have hentry : u.entryWithout cause v.ctx = s.entryWithout cause v.ctx := by rw [hu]; rfl
  unfold Live.released State.releaseHands
  rw [hentry]
  exact ⟨rfl, rfl⟩

/-- The line is one from which the cause is released: it holds the cause, and its context satisfies `on`. -/
def Live.loses (on : Context → Bool) (cause : Cause) (v : Live) : Bool := v.holdsCause cause && on v.ctx

theorem release_steps (s : State) (on : Context → Bool) (cause : Cause) (cond : Release) :
    LinesStep s
      ((allLines.filter (fun l => s.holdsCause l cause && (s.ctx l).any on)).foldl
        (fun u l => releaseCauses l (fun h => h.drop cause) (some cause) cond u) s)
      (fun l => { s.line l with
        live := (s.live l).map (fun v => if v.loses on cause = true then v.released s cause else v) })
      (s.handedBy (fun l v => if v.loses on cause then s.releaseHands cause l v else [])) := by
  rw [foldl_filter_lines]
  refine LinesStep.foldl _ fun u l hu hl => ?_
  have hlive : u.live l = s.live l := congrArg Line.live hl
  have hcond : (s.holdsCause l cause && (s.ctx l).any on) = (s.live l).any (Live.loses on cause) := by
    unfold State.holdsCause State.ctx Live.loses Live.holdsCause
    cases s.live l <;> rfl
  rw [hcond]
  cases hv : s.live l with
  | none =>
    refine ⟨[], ?_⟩
    have hsame : { s.line l with live := none } = u.line l := by rw [← hv, hl]; rfl
    show LineStep u u l { s.line l with live := none } [] []
    rw [hsame]
    exact LineStep.refl u l
  | some v =>
    rw [← hl]
    show ∃ rs, LineStep u (if v.loses on cause = true then _ else u) l
      { u.line l with live := some (if v.loses on cause = true then v.released s cause else v) }
      (if v.loses on cause = true then s.releaseHands cause l v else []) rs
    by_cases hon : v.loses on cause = true
    · rw [if_pos hon, if_pos hon, if_pos hon, ← (released_congr (l := l) hu cause v).1, ← (released_congr hu cause v).2]
      exact releaseCauses_step (hlive.trans hv) cause cond
    · rw [if_neg hon, if_neg hon, if_neg hon]
      exact ⟨[], (LineStep.refl u l).rewrite (hlive.trans hv)⟩

/-- The lines after a cause is released, as the rule states them. -/
theorem LinesStep.releasedOn (h : LinesStep s u
      (fun l => { s.line l with
        live := (s.live l).map (fun v => if v.loses on cause = true then v.released s cause else v) })
      (s.handedBy (fun l v => if v.loses on cause then s.releaseHands cause l v else []))) : ReleasedOn s u on cause := by
  have hlive (l : LineId) : u.live l = (s.live l).map (fun v => if v.loses on cause = true then v.released s cause else v) := by
    rw [State.live, h.lines]
  refine ⟨fun l v hv hon hp => ?_, fun l v hv hon hp hholds hne => ?_, fun l hkept => ?_, fun l => ?_, ?_, ?_⟩
  · unfold Live.holdsOnly at hp
    obtain ⟨hholds, hempty⟩ := Bool.and_eq_true_iff.1 hp
    have hloses : v.loses on cause = true := Bool.and_eq_true_iff.2 ⟨hholds, hon⟩
    rw [hlive, hv, Option.map_some, if_pos hloses, Live.released, if_pos hempty]
    rfl
  · have hloses : v.loses on cause = true := by
      unfold Live.loses Live.holdsCause
      simp [hp, hholds, hon]
    rw [hlive, hv, Option.map_some, if_pos hloses, Live.released, if_neg (by rw [hne]; nofun)]
  · rw [hlive]
    cases hv : s.live l with
    | none => rfl
    | some v =>
      have hno : ¬v.loses on cause = true := by
        unfold Live.loses Live.holdsCause
        rw [Bool.and_eq_true, Bool.and_eq_true, beq_iff_eq]
        rintro ⟨⟨hp, hholds⟩, hon⟩
        rw [hkept v hv hon hp] at hholds
        cases hholds
      rw [Option.map_some, if_neg hno]
  · rw [hlive, h.lines]
  · rw [h.state]
  · rw [h.state]
    refine congrArg (s.handoffs ++ ·) (congrArg s.handedBy (funext fun l => funext fun v => ?_))
    unfold Live.loses Live.holdsCause State.releaseHands Live.holdsOnly State.entryWithout
    cases on v.ctx <;> cases v.phase == .hold <;> cases v.ctx.hold.holds cause <;>
      cases (v.ctx.hold.drop cause).isEmpty <;> rfl

/-! ### The drain of the started lines (R77) -/

/-- A started line whose context satisfies `on`, drained. -/
def State.drainedLine (s : State) (on : Context → Bool) (o : PassOutcome) (l : LineId) : Line :=
  (s.live l).elim (s.line l) fun v => if (v.phase.started && on v.ctx) = true then (s.line l).drained s v o else s.line l

/-- What the drain of a line hands over, where the lines of `before` have been drained. -/
def State.drainHands (s : State) (on : Context → Bool) (before : LineId → Bool) (l : LineId) (v : Live) : List Instr :=
  if (v.phase.started && on v.ctx) = true then
    leaving v.phase v.ctx ++
      (if (s.queueWithout v.ctx.tank (fun x => before x && s.startedOn on x)).head?.any (fun q => q.1 == l) then
        [.headExamination v.ctx.tank] else [])
  else []

/-- From `s` to `u` the started lines of `ds` whose context satisfies `on` have been drained. -/
structure DrainedUpTo (s u : State) (on : Context → Bool) (o : PassOutcome) (ds : List LineId) : Prop where
  state : u = { s with lines := u.lines, tanks := u.tanks, handoffs := u.handoffs, link := u.link }
  lines : ∀ l, u.line l = if l ∈ ds then s.drainedLine on o l else s.line l
  tanks : ∀ k, u.tank k = { s.tank k with queue := s.queueWithout k (fun x => ds.contains x && s.startedOn on x) }
  handed : u.handoffs = s.handoffs ++
    ds.flatMap (fun l => (s.live l).elim [] (s.drainHands on (fun x => decide (x < l)) l))
  link : u.link = { s.link with reports := u.link.reports, missed := u.link.missed }
  grows : s.link.reports <+: u.link.reports

theorem startedOn_eq (hv : s.live l = some v) : s.startedOn on l = (v.phase.started && on v.ctx) := by
  unfold State.startedOn
  rw [hv]
  rfl

theorem queueWithout_congr {p q : LineId → Bool} (h : ∀ x, (s.ctx x).any (fun c => c.tank == k) = true → p x = q x) :
    s.queueWithout k p = s.queueWithout k q := by
  unfold State.queueWithout
  refine List.filter_congr fun e _ => ?_
  cases hb : (s.ctx e.1).any (fun c => c.tank == k) with
  | false => simp
  | true => rw [h e.1 hb]

/-- A line that is not drained moves nothing on. -/
theorem DrainedUpTo.skip {ds : List LineId} (h : DrainedUpTo s u on o ds) (hl : l ∉ ds) (hno : s.startedOn on l = false) :
    DrainedUpTo s u on o (ds ++ [l]) := by
  have hsame : s.drainedLine on o l = s.line l := by
    unfold State.drainedLine
    cases hv : s.live l with
    | none => rfl
    | some v =>
      rw [startedOn_eq hv] at hno
      exact if_neg (by rw [hno]; nofun)
  have hhands : (s.live l).elim [] (s.drainHands on (fun x => decide (x < l)) l) = [] := by
    cases hv : s.live l with
    | none => rfl
    | some v =>
      rw [startedOn_eq hv] at hno
      exact if_neg (by rw [hno]; nofun)
  refine ⟨h.state, fun p => ?_, fun k => ?_, ?_, h.link, h.grows⟩
  · rw [h.lines]
    by_cases he : p = l
    · subst he; simp [hl, hsame]
    · simp [he]
  · rw [h.tanks, queueWithout_congr fun x _ => ?_]
    by_cases he : x = l
    · subst he; simp [hno]
    · simp [he]
  · rw [h.handed, List.flatMap_append, List.flatMap_singleton, hhands, List.append_nil]

/-- The next line, drained. -/
theorem DrainedUpTo.drain {ds : List LineId} (h : DrainedUpTo s u on o ds) (hds : ∀ x, x ∈ ds ↔ x < l) (hv : s.live l = some v)
    (hgo : (v.phase.started && on v.ctx) = true) : DrainedUpTo s (drainLine l o u) on o (ds ++ [l]) := by
  have hnot : l ∉ ds := fun hin => lt_irrefl l ((hds l).1 hin)
  have hline : u.line l = s.line l := (h.lines l).trans (if_neg hnot)
  have hlive : u.live l = some v := (congrArg Line.live hline).trans hv
  have hup : u.uptime = s.uptime := by rw [h.state]; rfl
  have hctx : s.ctx l = some v.ctx := by unfold State.ctx; rw [hv]; rfl
  have hcontains : (fun x => ds.contains x && s.startedOn on x) = fun x => decide (x < l) && s.startedOn on x := by
    funext x
    congr 1
    rw [Bool.eq_iff_iff, List.contains_iff_mem, decide_eq_true_iff]
    exact hds x
  have hstep := drainLine_step hlive (Bool.and_eq_true_iff.1 hgo).1 o
  have hdrained : (u.line l).drained u v o = s.drainedLine on o l := by
    unfold State.drainedLine
    rw [hv, hline]
    show _ = if _ then _ else _
    rw [if_pos hgo]
    unfold Line.drained endLatch snapshotOf
    rw [hup]
  refine ⟨?_, fun p => ?_, fun k => ?_, ?_, ?_, h.grows.trans hstep.grows⟩
  · have hstate := hstep.state
    generalize drainLine l o u = b at hstate
    rw [hstate, h.state]
    rfl
  · have hp : (drainLine l o u).line p = if p = l then s.drainedLine on o l else u.line p := by
      rw [hstep.state, hdrained]
      split
      · next he => subst he; exact getElem_set_same ..
      · next he => exact getElem_set_other _ _ he
    rw [hp, h.lines]
    by_cases he : p = l
    · subst he; simp
    · simp [he]
  · have hk : (drainLine l o u).tank k = if k = v.ctx.tank then (u.tank v.ctx.tank).without l else u.tank k := by
      rw [hstep.state]
      split
      · next he => subst he; exact getElem_set_same ..
      · next he => exact getElem_set_other _ _ he
    rw [hk]
    split
    · next he =>
      subst he
      rw [h.tanks]
      unfold Tank.without State.queueWithout
      dsimp only
      rw [List.filter_filter]
      congr 1
      refine List.filter_congr fun q _ => ?_
      by_cases hq : q.1 = l
      · simp [hq, hctx, startedOn_eq hv, hgo]
      · simp [hq]
    · next he =>
      rw [h.tanks, queueWithout_congr fun x hx => ?_]
      by_cases hxl : x = l
      · subst hxl
        rw [hctx] at hx
        exact absurd (beq_iff_eq.1 hx).symm he
      · simp [hxl]
  · have hhands : leaving v.phase v.ctx ++ u.headLeaves l v.ctx.tank =
        (s.live l).elim [] (s.drainHands on (fun x => decide (x < l)) l) := by
      rw [hv]
      show _ = s.drainHands on (fun x => decide (x < l)) l v
      unfold State.drainHands State.headLeaves
      rw [if_pos hgo, h.tanks]
      dsimp only
      rw [hcontains]
    have hhanded : (drainLine l o u).handoffs = u.handoffs ++ (leaving v.phase v.ctx ++ u.headLeaves l v.ctx.tank) := by
      rw [hstep.state]
      rfl
    rw [hhanded, h.handed, hhands, List.flatMap_append, List.flatMap_singleton, List.append_assoc]
  · rw [hstep.link]
    show ({ u.link with reports := _, missed := _ } : Link) = _
    rw [h.link]

/-- A drain of the started lines whose context satisfies `on`, and of no other. -/
theorem drain_fold (on : Context → Bool) (o : PassOutcome) (op : State → LineId → State)
    (hacts : ∀ u l, s.startedOn on l = true → op u l = drainLine l o u)
    (hrests : ∀ u l, s.startedOn on l = false → u.live l = s.live l → op u l = u) :
    DrainedUpTo s (allLines.foldl op s) on o allLines := by
  refine foldl_lines (P := fun ds u => DrainedUpTo s u on o ds) _ ?_ fun ds l u hds hu => ?_
  · refine ⟨rfl, fun _ => (if_neg nofun).symm, fun k => ?_, (List.append_nil _).symm, rfl, List.prefix_rfl⟩
    have hall : s.queueWithout k (fun x => ([] : List LineId).contains x && s.startedOn on x) = (s.tank k).queue :=
      List.filter_eq_self.2 fun q _ => rfl
    rw [hall]
  · have hnot : l ∉ ds := fun hin => lt_irrefl l ((hds l).1 hin)
    have hline : u.line l = s.line l := (hu.lines l).trans (if_neg hnot)
    cases hgo : s.startedOn on l with
    | false =>
      rw [hrests u l hgo (congrArg Line.live hline)]
      exact hu.skip hnot hgo
    | true =>
      rw [hacts u l hgo]
      cases hv : s.live l with
      | none =>
        unfold State.startedOn at hgo
        rw [hv] at hgo
        cases hgo
      | some v => exact hu.drain hds hv ((startedOn_eq hv).symm.trans hgo)

/-- A drain of a line that is in no started state does nothing. -/
theorem drainLine_rests (hno : s.started l = false) : drainLine l o s = s := by
  unfold State.started at hno
  unfold drainLine
  cases hv : s.live l with
  | none => rfl
  | some v =>
    rw [phase_of_live hv] at hno
    exact if_neg (by rw [show v.phase.started = false from hno]; nofun)

/-- A line that is not among those drained, where its context satisfies `on`, is in no started state. -/
theorem started_of_startedOn (hno : s.startedOn on l = false) (hlive : u.live l = s.live l) (hon : (s.ctx l).any on = true) :
    u.started l = false := by
  unfold State.startedOn at hno
  unfold State.ctx at hon
  unfold State.started State.phase
  rw [hlive]
  cases hv : s.live l with
  | none => rfl
  | some v =>
    rw [hv] at hno hon
    have hboth : (v.phase.started && on v.ctx) = false := hno
    rw [show on v.ctx = true from hon, Bool.and_true] at hboth
    exact hboth

theorem drain_steps (s : State) (on : Context → Bool) (o : PassOutcome) :
    DrainedUpTo s ((allLines.filter (fun l => (s.ctx l).any on)).foldl (fun u l => drainLine l o u) s) on o allLines := by
  rw [foldl_filter_lines]
  refine drain_fold on o _ (fun u l hgo => if_pos ?_) fun u l hno hlive => ?_
  · unfold State.startedOn at hgo
    unfold State.ctx
    cases hv : s.live l with
    | none => rw [hv] at hgo; cases hgo
    | some v =>
      rw [hv] at hgo
      exact (Bool.and_eq_true_iff.1 hgo).2
  · split
    · next hon => exact drainLine_rests (started_of_startedOn hno hlive hon)
    · rfl

/-- A drain of every started line. -/
theorem drain_all_steps (s : State) (o : PassOutcome) :
    DrainedUpTo s (allLines.foldl (fun u l => drainLine l o u) s) (fun _ => true) o allLines := by
  refine drain_fold _ o _ (fun _ _ _ => rfl) fun u l hno hlive => drainLine_rests ?_
  cases hv : s.live l with
  | none =>
    unfold State.started State.phase
    rw [hlive, hv]
    rfl
  | some v => exact started_of_startedOn hno hlive (by unfold State.ctx; rw [hv]; rfl)

/-- The lines after a drain, as the rule states them. -/
theorem DrainedUpTo.drainedOn (h : DrainedUpTo s u on o allLines) (ho : o.snapshots = true) : DrainedOn s u on o := by
  have hline (l : LineId) : u.line l = s.drainedLine on o l := (h.lines l).trans (if_pos (mem_allLines l))
  refine ⟨fun l v hv hon hp => drained_of_line ho ?_, fun l hkept => ?_, fun l => ?_, fun k => ?_, ?_⟩
  · rw [hline, State.drainedLine, hv]
    exact if_pos (Bool.and_eq_true_iff.2 ⟨hp, hon⟩)
  · rw [hline, State.drainedLine]
    cases hv : s.live l with
    | none => rfl
    | some v =>
      refine if_neg fun hgo => ?_
      obtain ⟨hp, hon⟩ := Bool.and_eq_true_iff.1 hgo
      rw [hkept v hv hon] at hp
      cases hp
  · rw [hline, State.drainedLine]
    cases s.live l with
    | none => exact ⟨rfl, rfl, rfl, rfl⟩
    | some v =>
      dsimp only [Option.elim]
      split <;> exact ⟨rfl, rfl, rfl, rfl⟩
  · rw [h.tanks, queueWithout_congr fun x _ => ?_]
    rw [List.contains_iff_mem.2 (mem_allLines x), Bool.true_and]
  · exact h.handed

end

end Sys2Proof.Machine
end

section
/-! PROOFS. The close of an event that acts on the lines; the battery and the loop; the supervision of the site computer (R157 to R160,
R169 to R172). -/

namespace Sys2Proof.Machine

section
variable {s t u w : State} {l : LineId} {v : Live} {on : Context → Bool} {add : HoldSet → HoldSet} {cause : Cause}
  {rs qs : List Report} {r : Report} {f : State → State} {i : Instr} {o : PassOutcome} {k : Link}

/-! ### The close of an event -/

/-- From `u` to `t` the arbiter has acted at the close of an event: no more than the transmitter's next frame moves. -/
structure Closed (u t : State) : Prop where
  state : t = { u with link := t.link }
  link : LinkKept u t u.link.t1
  answers : t.answersOut = u.answersOut
  reports : t.reportsOut = u.reportsOut
  missed : t.link.missed = u.link.missed

theorem startFrame_closed (u : State) : Closed u (startFrame u) where
  state := startFrame_only_link u
  link := startFrame_linkKept u
  answers := startFrame_answersOut u
  reports := startFrame_reportsOut u
  missed := startFrame_missed u

/-- An event taken with the supply good. -/
theorem takeEvent_closed (good : s.supply.failed = false) (hexec : exec i s = takeEvent f s) (hf : f s = u) :
    ∃ t, exec i s = .next t ∧ Closed u t :=
  ⟨startFrame u, by rw [hexec, takeEvent_good _ _ good, hf], startFrame_closed u⟩

/-- An event without effect. -/
theorem event_same (good : s.supply.failed = false) (hexec : exec i s = takeEvent f s) (hf : f s = s) :
    ∃ t, exec i s = .next t ∧ t = { s with link := t.link } ∧ Reported s t [] := by
  obtain ⟨t, h1, h2⟩ := takeEvent_closed good hexec hf
  exact ⟨t, h1, h2.state, h2.link, h2.answers, h2.reports.trans (List.append_nil _).symm, h2.missed⟩

/-- An event that queues one report over what it writes. -/
theorem event_report (i : Instr) (good : s.supply.failed = false) (hexec : exec i s = takeEvent f s) (hf : f s = w.report r)
    (hw : w = { s with supply := w.supply }) (room : s.roomFor 1) :
    ∃ t, exec i s = .next t ∧ t = { w with link := t.link } ∧ Reported s t [r] := by
  have hlink : w.link = s.link := by rw [hw]
  have hq : Queued s (f s) [r] := by
    rw [hf]
    exact ((Queued.refl s).link_eq hlink).report r (room.lt Nat.zero_lt_one)
  obtain ⟨k, h1, h2⟩ := takeEvent_reported good hq
  refine ⟨_, hexec.trans h1, ?_, h2⟩
  rw [hf, State.report_eq]

/-- A report that finds room stands behind those before it, and those that follow stand behind it. -/
theorem reportsOut_first (room : s.roomFor 1) (hu : u.link.tx = s.link.tx) (hgrows : (s.report r).link.reports <+: u.link.reports) :
    ∃ rs, u.reportsOut = s.reportsOut ++ r :: rs := by
  obtain ⟨rest, hrest⟩ := hgrows
  have hlink : (s.report r).link.reports = s.link.reports ++ [r] := by
    rw [State.report_room _ _ (room.lt (m := 0) Nat.zero_lt_one)]
    rfl
  refine ⟨rest, ?_⟩
  unfold State.reportsOut
  rw [hu, ← hrest, hlink]
  simp

/-! ### The same before and after other changes -/

/-- What a drain leaves says nothing of what stands beside the lines, the tanks and the clock. -/
theorem DrainedOn.congr {s' t' : State} (h : DrainedOn s t on o) (hlines : s.lines = s'.lines) (htanks : s.tanks = s'.tanks)
    (hhanded : s.handoffs = s'.handoffs) (hup : s.uptime = s'.uptime) (hlines' : t.lines = t'.lines) (htanks' : t.tanks = t'.tanks)
    (hhanded' : t.handoffs = t'.handoffs) (hsupply' : t.supply = t'.supply) : DrainedOn s' t' on o := by
  cases s; cases s'; cases t; cases t'
  dsimp only at hlines htanks hhanded hlines' htanks' hhanded' hsupply'
  subst hlines htanks hhanded hlines' htanks' hhanded' hsupply'
  refine ⟨fun l v hv hon hp => ?_, h.kept, h.others, h.tanks, h.handed⟩
  obtain ⟨h1, h2, h3, h4⟩ := h.drained l v hv hon hp
  rw [hup] at h1
  exact ⟨h1, h2, h3, h4⟩

theorem HeldOn.congr {s' t' : State} (h : HeldOn s t on add) (hlines : s.lines = s'.lines) (htanks : s.tanks = s'.tanks)
    (hhanded : s.handoffs = s'.handoffs) (hlines' : t.lines = t'.lines) (htanks' : t.tanks = t'.tanks)
    (hhanded' : t.handoffs = t'.handoffs) : HeldOn s' t' on add := by
  cases s; cases s'; cases t; cases t'
  dsimp only at hlines htanks hhanded hlines' htanks' hhanded'
  subst hlines htanks hhanded hlines' htanks' hhanded'
  exact ⟨h.entered, h.added, h.kept, h.others, h.tanks, h.handed⟩

/-- What a release leaves reads the tanks and their reserves too. -/
theorem ReleasedOn.congr {s' t' : State} (h : ReleasedOn s t on cause) (hlines : s.lines = s'.lines) (htanks : s.tanks = s'.tanks)
    (hhanded : s.handoffs = s'.handoffs) (hreserve : s.store.reserve = s'.store.reserve) (hlines' : t.lines = t'.lines)
    (htanks' : t.tanks = t'.tanks) (hhanded' : t.handoffs = t'.handoffs) : ReleasedOn s' t' on cause := by
  have hentry (c : Context) (pe : Nat) : s.entry c pe = s'.entry c pe := by
    unfold State.entry State.reserve State.tank
    rw [hreserve, htanks]
  obtain ⟨h1, h2, h3, h4, h5, h6⟩ := h
  simp only [hentry] at h1 h6
  cases s; cases s'; cases t; cases t'
  dsimp only at hlines htanks hhanded hlines' htanks' hhanded'
  subst hlines htanks hhanded hlines' htanks' hhanded'
  exact ⟨h1, h2, h3, h4, h5, h6⟩

/-! ### The battery and the loop (R157 to R160) -/

/-- A line in no started state and not drained has its permit open. -/
theorem permit_of_loopOpen (h : t.supply.loopOpen = true) (l : LineId) : t.permit l = false := by
  unfold State.permit
  rw [h]
  cases t.phase l <;> simp

/-- Settles O55: a change is set and reported; an opening drains every started line. -/
theorem batteryAndLoopAreReported : Obligations.BatteryAndLoopAreReported := by
  intro s good report
  refine ⟨fun low hlow => ?_, fun low hlow room => ?_, fun low hlow hfull => ?_, fun hopen => ?_, fun hclosed => ?_,
    fun hclosed => ?_, fun hopen room => ?_⟩
  · exact event_same (f := evBattery low) good rfl (if_pos hlow)
  · obtain ⟨t, h1, h2, h3⟩ := event_report (f := evBattery low) (.batteryChange low)
      (w := { s with supply := { s.supply with batteryLow := low } }) good rfl
      (if_neg hlow) rfl room
    refine ⟨t, h1, h2, ?_⟩
    have hsupply : t.supply = { s.supply with batteryLow := low } := by rw [h2]
    have hreport : report t .battery 0 = .supply
        { uptime := s.uptime, event := .battery, failed := s.supply.failed, batteryLow := low, loopOpen := s.supply.loopOpen
          backupLost := s.supply.backupLost, converted := 0, restored := 0, drained := 0 } := by
      show Report.supply _ = _
      rw [hsupply, good]
    rw [hreport]
    exact h3
  · have hfull' : ¬s.link.reports.length < Config.maxReports := fun h => hfull h
    obtain ⟨t, h1, h2⟩ := takeEvent_closed (f := evBattery low) (i := .batteryChange low) good rfl
      ((if_neg hlow).trans (State.report_full _ _ hfull'))
    exact ⟨t, h1, h2.state, h2.missed, h2.reports, h2.answers⟩
  · exact event_same (f := evLoopOpen) good rfl (by unfold evLoopOpen; rw [hopen]; rfl)
  · obtain ⟨s0, hs0⟩ : ∃ s0 : State, { s with supply := { s.supply with loopOpen := true } } = s0 := ⟨_, rfl⟩
    have hreport : report s0 .loopOpen (lineMask s.started) = .supply
        { uptime := s0.uptime, event := .loopOpen, failed := s0.supply.failed, batteryLow := s0.supply.batteryLow
          loopOpen := s0.supply.loopOpen, backupLost := s0.supply.backupLost, converted := 0, restored := 0
          drained := lineMask s.started } := by
      rw [← hs0]
      show Report.supply _ = Report.supply { uptime := _, event := _, failed := s.supply.failed, .. }
      rw [good]
      rfl
    have hev : evLoopOpen s = allLines.foldl (fun u l => drainLine l .estop u) (s0.report (report s0 .loopOpen (lineMask s.started))) := by
      rw [hreport, ← hs0]
      unfold evLoopOpen
      rw [if_neg (by rw [hclosed]; nofun)]
      rfl
    obtain ⟨t, h1, h2⟩ := takeEvent_closed (f := evLoopOpen) (i := .loopOpen) good rfl hev
    have hdrain := drain_all_steps (s0.report (report s0 .loopOpen (lineMask s.started))) .estop
    generalize allLines.foldl (fun u l => drainLine l .estop u) (s0.report (report s0 .loopOpen (lineMask s.started))) = u at h2 hdrain
    obtain ⟨k1, hs1⟩ : ∃ k1, s0.report (report s0 .loopOpen (lineMask s.started)) = { s0 with link := k1 } := ⟨_, State.report_eq ..⟩
    have hstate := hdrain.state
    have hlink := hdrain.link
    have htx : u.link.tx = s.link.tx := by
      rw [hlink, State.report_eq, ← hs0]
    have hu : t = { s with
        supply := { s.supply with loopOpen := true }
        lines := t.lines, tanks := t.tanks, handoffs := t.handoffs, link := t.link } := by
      rw [h2.state, hstate, hs1, ← hs0]
    have hsupply : t.supply = { s.supply with loopOpen := true } := by rw [hu]
    refine ⟨t, h1, ?_, ?_, hu, ?_, permit_of_loopOpen (by rw [hsupply]), fun room => ?_⟩
    · obtain ⟨a1, a2, a3, a4, a5, a6⟩ := h2.link
      have hl : u.link = { s.link with reports := u.link.reports, missed := u.link.missed } := by
        rw [hlink, State.report_eq, ← hs0]
      rw [hl] at a1 a2 a3 a4 a5 a6
      exact ⟨a1, a2, a3, a4, a5, a6⟩
    · refine h2.answers.trans ?_
      unfold State.answersOut
      rw [hlink, State.report_eq, ← hs0]
    · have hon := hdrain.drainedOn rfl
      rw [hs1, ← hs0] at hon
      have ht := h2.state
      generalize t.link = k2 at ht
      subst ht
      exact hon.congr rfl rfl rfl rfl rfl rfl rfl rfl
    · obtain ⟨rest, hrest⟩ := reportsOut_first (s := s0) (r := report s0 .loopOpen (lineMask s.started)) (u := u)
        (by rw [← hs0]; exact room) (by rw [htx, ← hs0]) hdrain.grows
      have hsame : report t .loopOpen (lineMask s.started) = report s0 .loopOpen (lineMask s.started) := by
        show Report.supply _ = Report.supply _
        rw [hsupply, ← hs0]
      refine ⟨rest, h2.reports.trans (hrest.trans ?_)⟩
      rw [hsame, ← hs0]
      rfl
  · exact event_same (f := evLoopClosed) good rfl (by unfold evLoopClosed; rw [hclosed]; rfl)
  · obtain ⟨t, h1, h2, h3⟩ := event_report (f := evLoopClosed) .loopClosed
      (w := { s with supply := { s.supply with loopOpen := false } }) good rfl
      (by unfold evLoopClosed; rw [hopen]; rfl) rfl room
    refine ⟨t, h1, h2, ?_⟩
    have hsupply : t.supply = { s.supply with loopOpen := false } := by rw [h2]
    have hreport : report t .loopClosed 0 = .supply
        { uptime := s.uptime, event := .loopClosed, failed := s.supply.failed, batteryLow := s.supply.batteryLow, loopOpen := false
          backupLost := s.supply.backupLost, converted := 0, restored := 0, drained := 0 } := by
      show Report.supply _ = _
      rw [hsupply, good]
    rw [hreport]
    exact h3

end

end Sys2Proof.Machine
end

section
/-! PROOFS. The supervision of the site computer (R169 to R172). -/

namespace Sys2Proof.Machine

section
variable {s t u w : State} {l : LineId} {v : Live} {on : Context → Bool} {add : HoldSet → HoldSet} {cause : Cause}
  {rs qs : List Report} {r : Report} {f : State → State} {i : Instr} {o : PassOutcome} {k : Link}

/-! ### The framer moves beside the supervision -/

/-- What the supervision does says nothing of the framer. -/
theorem hunting_report (s : State) (r : Report) : (hunting s).report r = hunting (s.report r) := by
  by_cases hroom : s.link.reports.length < Config.maxReports
  · rw [State.report_room s r hroom, State.report_room (hunting s) r hroom]; rfl
  · rw [State.report_full s r hroom, State.report_full (hunting s) r hroom]; rfl

theorem hunting_releaseCauses (s : State) (l : LineId) (drop : HoldSet → HoldSet) (cause : Option Cause) (cond : Release) :
    releaseCauses l drop cause cond (hunting s) = hunting (releaseCauses l drop cause cond s) := by
  cases hv : s.live l with
  | none =>
    have hctx : s.modCtx l (fun c => { c with hold := drop c.hold }) = s := by
      unfold State.modCtx; rw [hv]
    have hctx' : (hunting s).modCtx l (fun c => { c with hold := drop c.hold }) = hunting s := by
      unfold State.modCtx; rw [show (hunting s).live l = none from hv]
    have hnone : s.ctx l = none := by unfold State.ctx; rw [hv]; rfl
    unfold releaseCauses
    rw [hctx, hctx']
    dsimp only
    rw [show (hunting s).ctx l = none from hnone, hnone]
  | some v =>
    have hs := releaseCauses_eq hv drop cause cond
    have hh := releaseCauses_eq (s := hunting s) hv drop cause cond
    generalize ({ v.ctx with hold := drop v.ctx.hold } : Context) = c at hs hh
    have hhunting : releaseCauses l drop cause cond (hunting s) =
        if c.hold.isEmpty = true then
          (hunting { s.setLive l { v with phase := (s.entry c c.lastPe).1, ctx := (s.entry c c.lastPe).2 } with
            handoffs := s.handoffs ++ raised l c (s.entry c c.lastPe).2 }).report
            (lineChange s l .hold (s.entry c c.lastPe).1 cause (s.entry c c.lastPe).2.hold (s.entry c c.lastPe).2.starve
              (some cond))
        else
          (hunting (s.setLive l { v with ctx := c })).report
            (lineChange s l .hold .hold cause c.hold c.starve (some cond)) := hh
    rw [hs, hhunting]
    dsimp only
    split
    · exact hunting_report _ _
    · exact hunting_report _ _

theorem hunting_superviseFrame (s : State) : superviseFrame (hunting s) = hunting (superviseFrame s) := by
  have hrestore (acts : List (LineId × LineAction)) : restoreLink acts (hunting s) = hunting (restoreLink acts s) :=
    hunting_report ((reloadT1 s).modLink fun k => { k with state := .ok, t2 := none }) _
  have hfold (ls : List LineId) (u : State) :
      ls.foldl (fun s l => releaseCauses l (fun h => h.drop .link) (some .link) .linkRestore s) (hunting u) =
        hunting (ls.foldl (fun s l => releaseCauses l (fun h => h.drop .link) (some .link) .linkRestore s) u) := by
    induction ls generalizing u with
    | nil => rfl
    | cons l rest ih => rw [List.foldl_cons, List.foldl_cons, hunting_releaseCauses, ih]
  unfold superviseFrame
  rw [show (hunting s).link.state = s.link.state from rfl]
  cases s.link.state with
  | ok => rfl
  | lost1 =>
    show s.linkHeld.foldl _ (restoreLink (s.linkHeld.map fun l => (l, .linkReleased)) (hunting s)) = _
    rw [hrestore]
    exact hfold _ _
  | lost2 => exact hrestore []

/-! ### The restore of the link (R172) -/

/-- The LINK report of a restore (R176). -/
def State.restoreReport (s : State) (acts : List (LineId × LineAction)) : Report :=
  .link { uptime := s.uptime, event := .restore, before := s.link.state, after := .ok, latch := s.link.safeLatch, lines := acts }

/-- The part before the restore is reported. -/
def State.linkUp (s : State) : State := (reloadT1 s).modLink (fun k => { k with state := .ok, t2 := none })

theorem restoreLink_eq (s : State) (acts : List (LineId × LineAction)) :
    restoreLink acts s = s.linkUp.report (s.restoreReport acts) := rfl

/-- The link as a restore leaves it, but for its reports (R172). -/
theorem restoreLink_only (s : State) (acts : List (LineId × LineAction)) :
    ∃ j : Link, restoreLink acts s = { s with link := j } ∧
      j = { s.link with t1 := some (s.store.linkCfg.t1 * 1000), state := .ok, t2 := none, reports := j.reports, missed := j.missed } := by
  rw [restoreLink_eq, State.report_eq]
  exact ⟨_, rfl, rfl⟩

theorem linkHeld_eq (s : State) :
    s.linkHeld = allLines.filter (fun l => s.holdsCause l .link && (s.ctx l).any (fun _ => true)) := by
  unfold State.linkHeld
  refine List.filter_congr fun l _ => ?_
  unfold State.holdsCause State.ctx
  cases s.live l with
  | none => rfl
  | some v => exact (Bool.and_true _).symm

/-- A valid frame that finds the link lost restores it (R172). -/
theorem superviseFrame_restored (hlost : s.link.state ≠ .ok) : Restored s (superviseFrame s) := by
  cases hstate : s.link.state with
  | ok => exact absurd hstate hlost
  | lost2 =>
    have hr : superviseFrame s = restoreLink [] s := by unfold superviseFrame; rw [hstate]
    obtain ⟨j, hj, hlink⟩ := restoreLink_only s []
    have hreports (room : s.roomFor 1) : (restoreLink [] s).reportsOut = s.reportsOut ++ [s.restoreReport []] := by
      rw [restoreLink_eq, State.report_room _ _ (State.roomFor.lt (s := s.linkUp) room (m := 0) Nat.zero_lt_one)]
      unfold State.reportsOut
      rw [List.append_assoc]
      rfl
    refine ⟨by rw [hr, hj], ?_, ?_, ?_, ?_, ?_, ?_, fun h => ?_, fun _ => by rw [hr, hj]; exact ⟨rfl, rfl⟩,
      fun room => ⟨[], fun _ => rfl, ?_⟩⟩
    · rw [hr, hj, hlink]
    · rw [hr, hj, hlink]
    · rw [hr, hj, hlink]
    · rw [hr, hj, hlink]
    · rw [hr, hj, hlink]; exact ⟨rfl, rfl⟩
    · rw [hr, hj, hlink]; exact ⟨rfl, rfl⟩
    · rw [hstate] at h; cases h
    · rw [hr, hreports room, if_neg (by rw [hstate]; nofun)]
      rfl
  | lost1 =>
    obtain ⟨acts, hacts⟩ : ∃ acts, s.linkHeld.map (fun l => (l, LineAction.linkReleased)) = acts := ⟨_, rfl⟩
    obtain ⟨j, hj, hlink⟩ := restoreLink_only s acts
    have hr : superviseFrame s =
        s.linkHeld.foldl (fun u l => releaseCauses l (fun h => h.drop .link) (some .link) .linkRestore u) (restoreLink acts s) := by
      unfold superviseFrame
      rw [hstate, ← hacts]
    have hsteps := release_steps (restoreLink acts s) (fun _ => true) .link .linkRestore
    have hheld : (allLines.filter fun l => (restoreLink acts s).holdsCause l .link && ((restoreLink acts s).ctx l).any fun _ => true) =
        s.linkHeld := by
      rw [linkHeld_eq, hj]
      rfl
    rw [hheld, ← hr] at hsteps
    generalize superviseFrame s = r at hsteps
    have hrlink : r.link = { s.link with
        t1 := some (s.store.linkCfg.t1 * 1000), state := .ok, t2 := none, reports := r.link.reports, missed := r.link.missed } := by
      rw [hsteps.link, hj, hlink]
    have hframe := hsteps.state
    rw [hj] at hframe
    refine ⟨?_, ?_, ?_, ?_, ?_, ?_, ?_, fun _ => ?_, fun h => ?_, fun room => ?_⟩
    · rw [hframe]
    · rw [hrlink]
    · rw [hrlink]
    · rw [hrlink]
    · rw [hrlink]
    · rw [hrlink]; exact ⟨rfl, rfl⟩
    · rw [hrlink]; exact ⟨rfl, rfl⟩
    · have hon := hsteps.releasedOn
      rw [hj] at hon
      exact hon.congr rfl rfl rfl rfl rfl rfl rfl
    · rw [hstate] at h; cases h
    · obtain ⟨rest, hrest⟩ := reportsOut_first (s := s.linkUp) (r := s.restoreReport acts) (u := r) room (by rw [hrlink]; rfl)
        hsteps.grows
      refine ⟨rest, fun h => (by rw [hstate] at h; cases h), ?_⟩
      rw [hrest, if_pos hstate, hacts]
      rfl

/-- A link that is OK with its T1 loaded has nothing to supervise. -/
theorem superviseFrame_rests (h : Restored s w) : superviseFrame w = w := by
  rw [superviseFrame_ok h.state]
  have hstore : w.store = s.store := by rw [h.frame]
  have ht1 := h.t1
  rw [← hstore] at ht1
  cases w
  dsimp only at ht1
  unfold reloadT1 State.modLink
  dsimp only
  rw [← ht1]

/-- A request that finds the link lost is taken as after the restore. -/
theorem exec_restored {kind : Byte} (good : s.supply.failed = false) (hlost : s.link.state ≠ .ok) (hk : requestKind i = some kind) :
    exec i s = exec i (superviseFrame s) := by
  have h := superviseFrame_restored hlost
  have hgood : (superviseFrame s).supply.failed = false := by rw [h.frame]; exact good
  rw [exec_request hk, exec_request hk, takeEvent_good _ _ good, takeEvent_good _ _ hgood]
  unfold takeRequest
  rw [superviseFrame_rests h]

/-! ### A frame that restores the link -/

/-- The second check byte of a frame in good form. -/
theorem evByte_frame {b n kind tag first : Byte} {body : List Byte}
    (hframer : s.link.framer = .check n (kind :: tag :: body) (some first))
    (hcrc : crcBytes (crc (n :: kind :: tag :: body)) = [first, b]) :
    evByte b false s = takeFrame kind tag body (hunting s) := by
  unfold evByte takeByte
  rw [if_neg nofun, hframer]
  dsimp only
  unfold judgeFrame
  rw [if_pos hcrc]

/-- A frame that finds the link lost is taken as after the restore. -/
theorem takeFrame_restored (hlost : s.link.state ≠ .ok) (kind tag : Byte) (body : List Byte) :
    takeFrame kind tag body (hunting s) = takeFrame kind tag body (hunting (superviseFrame s)) := by
  have h := superviseFrame_restored hlost
  have hsame : superviseFrame (hunting s) = superviseFrame (hunting (superviseFrame s)) := by
    rw [hunting_superviseFrame, hunting_superviseFrame, superviseFrame_rests h]
  unfold takeFrame takeRequest
  rw [hsame]

theorem byte_restored {b n kind tag first : Byte} {body : List Byte} (good : s.supply.failed = false) (hlost : s.link.state ≠ .ok)
    (hframer : s.link.framer = .check n (kind :: tag :: body) (some first))
    (hcrc : crcBytes (crc (n :: kind :: tag :: body)) = [first, b]) :
    exec (.byteArrival b false) s = exec (.byteArrival b false) (superviseFrame s) ∧
    (kind.toNat = 0 ∨ 64 ≤ kind.toNat →
      ∃ t, exec (.byteArrival b false) s = .next t ∧ Closed (hunting (superviseFrame s)) t) := by
  have h := superviseFrame_restored hlost
  have hgood : (superviseFrame s).supply.failed = false := by rw [h.frame]; exact good
  have hexec (u : State) : exec (.byteArrival b false) u = takeEvent (evByte b false) u := rfl
  have hframe := evByte_frame hframer hcrc
  have hframe' := evByte_frame (s := superviseFrame s) (h.framer.1.trans hframer) hcrc
  refine ⟨?_, fun hkind => ?_⟩
  · rw [hexec, hexec, takeEvent_good _ _ good, takeEvent_good _ _ hgood, hframe, hframe', takeFrame_restored hlost]
  · refine takeEvent_closed good (hexec s) ?_
    rw [hframe, takeFrame_restored hlost]
    unfold takeFrame
    rw [isRequestKind_false hkind, if_neg nofun, hunting_superviseFrame, superviseFrame_rests h]

/-! ### The two expiries (R170, R171) -/

/-- The link after T1's expiry, before its report. -/
def State.silent (s : State) : State :=
  s.modLink (fun k => { k with state := .lost1, t1 := none, t2 := some (s.store.linkCfg.t2 * 1000) })

/-- The link after T2's expiry, before its report. -/
def State.lost (s : State) : State := s.modLink (fun k => { k with state := .lost2, t2 := none, safeLatch := true })

def State.expiryReport (s : State) (e : LinkEvent) (before after : LinkState) (latch : Bool) (acts : List (LineId × LineAction)) :
    Report :=
  .link { uptime := s.uptime, event := e, before := before, after := after, latch := latch, lines := acts }

theorem t1Expiry_holds (good : s.supply.failed = false) (hok : s.link.state = .ok) :
    ∃ t, exec .t1Expiry s = .next t ∧ t.answersOut = s.answersOut ∧
      t = { s with lines := t.lines, handoffs := t.handoffs, link := t.link } ∧
      t.link.state = .lost1 ∧ t.link.t1 = none ∧ t.link.t2 = some (s.store.linkCfg.t2 * 1000) ∧
      t.link.safeLatch = s.link.safeLatch ∧ t.link.framer = s.link.framer ∧ t.link.gap = s.link.gap ∧
      HeldOn s t (fun _ => true) (fun h => { h with link := true }) ∧
      (s.roomFor 1 → ∃ rs, t.reportsOut = s.reportsOut ++
        s.expiryReport .t1Expiry .ok .lost1 s.link.safeLatch (s.actions linkAction) :: rs) := by
  obtain ⟨r, hr⟩ : ∃ r, s.expiryReport .t1Expiry .ok .lost1 s.link.safeLatch (s.actions linkAction) = r := ⟨_, rfl⟩
  have hev : evT1Expiry s = allLines.foldl (fun u l => imposeCause l .link (fun h => { h with link := true }) u) (s.silent.report r) := by
    unfold evT1Expiry
    rw [if_pos hok, ← hr]
    rfl
  have hsteps := impose_all_steps (s.silent.report r) .link (fun h => { h with link := true })
  rw [← hev] at hsteps
  obtain ⟨t, h1, h2⟩ := takeEvent_closed (f := evT1Expiry) (i := .t1Expiry) good rfl rfl
  generalize evT1Expiry s = u at hsteps h2
  have hlink : u.link = { s.link with
      state := .lost1, t1 := none, t2 := some (s.store.linkCfg.t2 * 1000), reports := u.link.reports, missed := u.link.missed } := by
    rw [hsteps.link, State.report_eq]
    rfl
  obtain ⟨a1, a2, a3, a4, a5, a6⟩ := h2.link
  rw [hlink] at a1 a2 a3 a4 a5 a6
  rw [hr]
  refine ⟨t, h1, ?_, ?_, a3, a4, a5, a6, a1, a2, ?_, fun room => ?_⟩
  · refine h2.answers.trans ?_
    unfold State.answersOut
    rw [hlink]
  · rw [h2.state, hsteps.state, State.report_eq]
    rfl
  · refine hsteps.heldOn.congr ?_ ?_ ?_ (by rw [h2.state]) (by rw [h2.state]) (by rw [h2.state]) <;> rw [State.report_eq] <;> rfl
  · obtain ⟨rest, hrest⟩ := reportsOut_first (s := s.silent) (r := r) (u := u) room (by rw [hlink]; rfl) hsteps.grows
    exact ⟨rest, h2.reports.trans hrest⟩

theorem t2Expiry_drains (good : s.supply.failed = false) (hlost : s.link.state = .lost1) :
    ∃ t, exec .t2Expiry s = .next t ∧ t.answersOut = s.answersOut ∧
      t = { s with lines := t.lines, tanks := t.tanks, handoffs := t.handoffs, link := t.link } ∧
      t.link.state = .lost2 ∧ t.link.t1 = s.link.t1 ∧ t.link.t2 = none ∧ t.link.safeLatch = true ∧
      t.link.framer = s.link.framer ∧ t.link.gap = s.link.gap ∧ DrainedOn s t (fun _ => true) .link ∧
      (s.roomFor 1 → ∃ rs, t.reportsOut = s.reportsOut ++
        s.expiryReport .t2Expiry .lost1 .lost2 true (s.actions (fun v => if v.phase.started then some .drain else none)) :: rs) := by
  obtain ⟨r, hr⟩ : ∃ r, s.expiryReport .t2Expiry .lost1 .lost2 true
      (s.actions (fun v => if v.phase.started then some .drain else none)) = r := ⟨_, rfl⟩
  have hev : evT2Expiry s = allLines.foldl (fun u l => drainLine l .link u) (s.lost.report r) := by
    unfold evT2Expiry
    rw [if_pos hlost, ← hr]
    rfl
  have hsteps := drain_all_steps (s.lost.report r) .link
  rw [← hev] at hsteps
  obtain ⟨t, h1, h2⟩ := takeEvent_closed (f := evT2Expiry) (i := .t2Expiry) good rfl rfl
  generalize evT2Expiry s = u at hsteps h2
  have hlink : u.link = { s.link with
      state := .lost2, t2 := none, safeLatch := true, reports := u.link.reports, missed := u.link.missed } := by
    rw [hsteps.link, State.report_eq]
    rfl
  obtain ⟨a1, a2, a3, a4, a5, a6⟩ := h2.link
  rw [hlink] at a1 a2 a3 a4 a5 a6
  rw [hr]
  refine ⟨t, h1, ?_, ?_, a3, a4, a5, a6, a1, a2, ?_, fun room => ?_⟩
  · refine h2.answers.trans ?_
    unfold State.answersOut
    rw [hlink]
  · rw [h2.state, hsteps.state, State.report_eq]
    rfl
  · refine (hsteps.drainedOn rfl).congr ?_ ?_ ?_ ?_ (by rw [h2.state]) (by rw [h2.state]) (by rw [h2.state]) (by rw [h2.state]) <;>
      rw [State.report_eq] <;> rfl
  · obtain ⟨rest, hrest⟩ := reportsOut_first (s := s.lost) (r := r) (u := u) room (by rw [hlink]; rfl) hsteps.grows
    exact ⟨rest, h2.reports.trans hrest⟩

/-! ### STATUS, which restores the link -/

theorem status_restores (tag : Byte) (good : s.supply.failed = false) (hlost : s.link.state ≠ .ok)
    (hroom : s.link.answers.length < Config.maxAnswers) :
    ∃ t body, exec (.status tag) s = .next t ∧ t = { superviseFrame s with link := t.link } ∧
      t.link.state = .ok ∧ t.link.t1 = some (s.store.linkCfg.t1 * 1000) ∧ t.link.t2 = none ∧
      t.link.safeLatch = s.link.safeLatch ∧
      t.answersOut = s.answersOut ++ [{ kind := 0xA8, tag := tag, reply := { result := .ok, body := body } }] ∧
      t.reportsOut = (superviseFrame s).reportsOut := by
  have h := superviseFrame_restored hlost
  obtain ⟨u, hu⟩ : ∃ u, (superviseFrame s).modLink (fun k => { k with missed := false }) = u := ⟨_, rfl⟩
  obtain ⟨a, ha⟩ : ∃ a : Answer, { kind := 0xA8, tag := tag, reply := { result := .ok, body := statusBytes (superviseFrame s) } } = a :=
    ⟨_, rfl⟩
  have hf : takeRequest 0x28 tag reqStatus s = u.answer a := by
    unfold takeRequest dispatch
    rw [if_pos (by rw [h.answers.1]; exact hroom), ← hu, ← ha]
    rfl
  obtain ⟨t, h1, h2⟩ := takeEvent_closed (f := takeRequest 0x28 tag reqStatus) (i := .status tag) good rfl hf
  obtain ⟨a1, a2, a3, a4, a5, a6⟩ := h2.link
  refine ⟨t, statusBytes (superviseFrame s), h1, ?_, ?_, ?_, ?_, ?_, ?_, ?_⟩
  · rw [h2.state, ← hu]
    rfl
  · rw [a3, ← hu]; exact h.state
  · rw [a4, ← hu]; exact h.t1
  · rw [a5, ← hu]; exact h.t2
  · rw [a6, ← hu]; exact h.safeLatch
  · rw [h2.answers, State.answer_answersOut, ha, ← hu]
    congr 1
    unfold State.answersOut
    show (superviseFrame s).answersOut = s.answersOut
    unfold State.answersOut
    rw [h.answers.1, h.answers.2]
  · rw [h2.reports, State.answer_reportsOut, ← hu]
    rfl

/-- Settles O54: the two expiries, the restore by any frame, and a STATUS that restores. -/
theorem silenceHoldsThenDrainsTheLines : Obligations.SilenceHoldsThenDrainsTheLines := by
  intro s good
  refine ⟨fun h => event_same (f := evT1Expiry) good rfl (if_neg h), fun h => event_same (f := evT2Expiry) good rfl (if_neg h),
    t1Expiry_holds good, t2Expiry_drains good, fun hlost => ?_, fun tag hlost hroom => ?_⟩
  · have h := superviseFrame_restored hlost
    refine ⟨superviseFrame s, h, fun i kind hk => exec_restored good hlost hk, fun b n kind tag body first hframer hcrc => ?_⟩
    obtain ⟨hsame, hother⟩ := byte_restored good hlost hframer hcrc
    refine ⟨hsame, fun hkind => ?_⟩
    obtain ⟨t, h1, h2⟩ := hother hkind
    obtain ⟨a1, a2, a3, a4, a5, a6⟩ := h2.link
    refine ⟨t, h1, h2.state, a1, a2, a3.trans h.state, a4, a5.trans h.t2, a6.trans h.safeLatch, h2.answers.trans ?_, h2.reports⟩
    unfold State.answersOut
    show _ = _
    rw [← h.answers.1, ← h.answers.2]
    rfl
  · have h := superviseFrame_restored hlost
    obtain ⟨t, body, h1, h2, h3, h4, h5, h6, h7, h8⟩ := status_restores tag good hlost hroom
    have hframe := h.frame
    have hlines : t.lines = (superviseFrame s).lines := by rw [h2]
    have htanks : t.tanks = (superviseFrame s).tanks := by rw [h2]
    have hhanded : t.handoffs = (superviseFrame s).handoffs := by rw [h2]
    refine ⟨t, h1, ?_, h3, h4, h5, h6, ⟨body, h7⟩, fun hl => ?_, fun hl => ?_, fun room => ?_⟩
    · rw [h2, hframe]
    · obtain ⟨b1, b2⟩ := h.fromLost2 hl
      exact ⟨hlines.trans b1, hhanded.trans b2⟩
    · exact (h.fromLost1 hl).congr rfl rfl rfl rfl hlines.symm htanks.symm hhanded.symm
    · obtain ⟨rest, _, hrest⟩ := h.reports room
      exact ⟨rest, h8.trans hrest⟩

end

end Sys2Proof.Machine
end

section
/-! PROOFS. The zones: what takes part in them, their judgement, and their reports (R138, R145, R146, R152). -/

namespace Sys2Proof.Machine

section
variable {s t u w before : State} {g : GaugeId} {z y : ZoneId} {d : Int} {n : Nat} {rs qs : List Report} {r : Report}
  {e : HeaveEvent} {acts : List (LineId × LineAction)} {c : Instr} {kind kind' : Byte} {reply : Reply}

/-! ### What takes part in a zone -/

theorem takesPart_iff : s.takesPart g = true ↔ ∃ d, s.takesPartAt (s.gaugeCfg g).zone g d := by
  unfold State.takesPart State.takesPartAt
  cases hr : (s.gauge g).reading with
  | none => simp
  | some r => simp

theorem mem_partGauges : g ∈ s.partGauges z ↔ ∃ d, s.takesPartAt z g d := by
  unfold State.partGauges State.gaugesOf
  rw [List.mem_filter, List.mem_filter, takesPart_iff, beq_iff_eq]
  constructor
  · rintro ⟨⟨_, rfl⟩, d, hd⟩
    exact ⟨d, hd⟩
  · rintro ⟨d, hd⟩
    obtain ⟨_, rfl, _⟩ := id hd
    exact ⟨⟨mem_allGauges g, rfl⟩, d, hd⟩

theorem displacement_of_takesPartAt (h : s.takesPartAt z g d) : s.displacement g = some d := by
  obtain ⟨_, _, _, r, hr, hd⟩ := h
  unfold State.displacement
  rw [hr, hd]
  rfl

theorem someAtOrBeyond_iff : s.someAtOrBeyond z n = true ↔ s.reaches z n := by
  unfold State.someAtOrBeyond State.reaches
  rw [List.any_eq_true]
  constructor
  · rintro ⟨g, hg, hd⟩
    obtain ⟨d, hpart⟩ := mem_partGauges.1 hg
    rw [displacement_of_takesPartAt hpart, Option.any_some, decide_eq_true_iff] at hd
    exact ⟨g, d, hpart, hd⟩
  · rintro ⟨g, d, hpart, hle⟩
    refine ⟨g, mem_partGauges.2 ⟨d, hpart⟩, ?_⟩
    rw [displacement_of_takesPartAt hpart, Option.any_some, decide_eq_true_iff]
    exact hle

/-! ### The judgement of zones (R145) -/

/-- The zones judged one after another. -/
def judgeZones (zs : List ZoneId) (s : State) : State := zs.foldl (fun x z => judgeWarn z x) s

theorem judgeZones_eq (zs : List ZoneId) (s : State) : judgeZones zs s = { s with zoneWarn := (judgeZones zs s).zoneWarn } := by
  unfold judgeZones
  induction zs generalizing s with
  | nil => rfl
  | cons z rest ih => rw [List.foldl_cons, ih, judgeWarn_eq]

theorem judgeWarn_other (h : y ≠ z) (s : State) : (judgeWarn z s).warned y = s.warned y := by
  unfold judgeWarn
  split
  · rfl
  · exact getElem_set_other _ _ h

theorem judgeWarn_latched (h : s.latched z = true) : judgeWarn z s = s := if_pos h

/-- The warn judgement of one zone reads nothing of the others' judgements. -/
theorem judgeZones_warned (zs : List ZoneId) (hn : zs.Nodup) (s : State) (z : ZoneId) :
    (judgeZones zs s).warned z = if z ∈ zs then (judgeWarn z s).warned z else s.warned z := by
  unfold judgeZones
  induction zs generalizing s with
  | nil => rfl
  | cons y rest ih =>
    obtain ⟨hy, hrest⟩ := List.nodup_cons.1 hn
    rw [List.foldl_cons, ih hrest]
    by_cases he : z = y
    · subst he
      rw [if_neg hy, if_pos (List.mem_cons_self ..)]
    · have hsame : (judgeWarn z (judgeWarn y s)).warned z = (judgeWarn z s).warned z := by
        have hlatch : (judgeWarn y s).latched z = s.latched z := by rw [judgeWarn_eq]; rfl
        have hwarn := judgeWarn_other he s
        have hbeyond (n : Nat) : (judgeWarn y s).someAtOrBeyond z n = s.someAtOrBeyond z n := by rw [judgeWarn_eq]; rfl
        have hcfg : (judgeWarn y s).zoneCfg z = s.zoneCfg z := by rw [judgeWarn_eq]; rfl
        cases hl : s.latched z with
        | true => rw [judgeWarn_latched hl, judgeWarn_latched (hlatch.trans hl), hwarn]
        | false => rw [judgeWarn_warned _ _ hl, judgeWarn_warned _ _ (hlatch.trans hl), hwarn, hbeyond, hbeyond, hcfg]
      rw [hsame, judgeWarn_other he]
      simp [he]

theorem judgeZones_judged (zs : List ZoneId) (hn : zs.Nodup) (s : State) : Judged s (judgeZones zs s) (· ∈ zs) := by
  have hbeyond (z : ZoneId) (n : Nat) : s.someAtOrBeyond z n = true ↔ (judgeZones zs s).reaches z n := by
    rw [← someAtOrBeyond_iff, judgeZones_eq]
    rfl
  have hcfg (z : ZoneId) : (judgeZones zs s).zoneCfg z = s.zoneCfg z := by rw [judgeZones_eq]; rfl
  refine ⟨fun z => ?_, fun z hz hl hw => ?_, fun z hz hl hw => ?_, fun z hz => ?_⟩
  · rw [judgeZones_eq]; rfl
  · rw [judgeZones_warned zs hn, if_pos hz, judgeWarn_warned _ _ hl, hw, if_neg nofun, hcfg]
    exact hbeyond z _
  · rw [judgeZones_warned zs hn, if_pos hz, judgeWarn_warned _ _ hl, hw, if_pos rfl, hcfg]
    exact hbeyond z _
  · rw [judgeZones_warned zs hn]
    split
    · next hin =>
      rw [judgeWarn_latched (hz.resolve_left (not_not.2 hin))]
    · rfl

/-- A judgement reads the latches and WARN before, and the gauges, the configuration and WARN after. -/
theorem Judged.congr {s' t' : State} {p q : ZoneId → Prop} (h : Judged s t p) (hp : ∀ z, q z ↔ p z)
    (hlatch : s.store.tripLatch = s'.store.tripLatch) (hwarn : s.zoneWarn = s'.zoneWarn) (hlatch' : t.store.tripLatch = t'.store.tripLatch)
    (hwarn' : t.zoneWarn = t'.zoneWarn) (hgauge' : t.gauges = t'.gauges) (hcfg' : t.store.gaugeCfg = t'.store.gaugeCfg)
    (hzone' : t.store.zoneCfg = t'.store.zoneCfg) : Judged s' t' q := by
  have hl (z : ZoneId) : s'.latched z = s.latched z := by unfold State.latched; rw [hlatch]
  have hw (z : ZoneId) : s'.warned z = s.warned z := by unfold State.warned; rw [hwarn]
  have hl' (z : ZoneId) : t'.latched z = t.latched z := by unfold State.latched; rw [hlatch']
  have hw' (z : ZoneId) : t'.warned z = t.warned z := by unfold State.warned; rw [hwarn']
  have hz' (z : ZoneId) : t'.zoneCfg z = t.zoneCfg z := by unfold State.zoneCfg; rw [hzone']
  have hr (z : ZoneId) (n : Nat) : t'.reaches z n ↔ t.reaches z n := by
    unfold State.reaches State.takesPartAt State.gauge State.gaugeCfg
    rw [hgauge', hcfg']
  refine ⟨fun z => ?_, fun z h1 h2 h3 => ?_, fun z h1 h2 h3 => ?_, fun z h1 => ?_⟩
  · rw [hl, hl']; exact h.latch z
  · rw [hl] at h2; rw [hw] at h3; rw [hw', hr, hz']; exact h.enters z ((hp z).1 h1) h2 h3
  · rw [hl] at h2; rw [hw] at h3; rw [hw', hr, hz']; exact h.leaves z ((hp z).1 h1) h2 h3
  · rw [hl] at h1; rw [hw', hw]; exact h.kept z (h1.imp_left fun h => mt (hp z).2 h)

/-! ### Reports, and nothing else -/

/-- From `s` to `u` no more than these reports were queued, where they find room. -/
structure Reports (s u : State) (rs : List Report) : Prop where
  state : u = { s with link := u.link }
  link : u.link = { s.link with reports := u.link.reports, missed := u.link.missed }
  queued : s.takes rs → Queued s u rs
  grows : s.link.reports <+: u.link.reports

theorem Reports.refl (s : State) : Reports s s [] := ⟨rfl, rfl, fun _ => .refl s, List.prefix_rfl⟩

theorem Reports.report (h : Reports s u rs) (r : Report) : Reports s (u.report r) (rs ++ [r]) where
  state := by
    rw [State.report_eq, h.state]
  link := by
    rw [State.report_eq, h.link]
  queued room := by
    have hroom := room (List.append_ne_nil_of_right_ne_nil rs (List.cons_ne_nil r []))
    rw [List.length_append] at hroom
    exact (h.queued room.left).report r (hroom.lt (Nat.lt_succ_self _))
  grows := h.grows.trans (State.report_grows u r)

theorem zoneChange_congr {s' t' : State} (hz : s'.zoneState z = s.zoneState z) (hup : s'.uptime = s.uptime)
    (hz' : t'.zoneState z = t.zoneState z) (hcfg : t'.store.gaugeCfg = t.store.gaugeCfg) (hzone : t'.store.zoneCfg = t.store.zoneCfg)
    (hgauges : t'.gauges = t.gauges) (e : HeaveEvent) (acts : List (LineId × LineAction)) :
    zoneChange s' t' z e acts = zoneChange s t z e acts := by
  have hlargest : t'.largest z = t.largest z := by
    unfold State.largest State.partGauges State.gaugesOf State.takesPart State.displacement State.gauge State.gaugeCfg
    rw [hcfg, hgauges]
  have hfaulted : t'.faultedGauges z = t.faultedGauges z := by
    unfold State.faultedGauges State.gaugesOf State.gauge State.gaugeCfg
    rw [hcfg, hgauges]
  unfold zoneChange State.zoneCfg
  rw [hz, hup, hz', hlargest, hfaulted, hzone]

/-- Nothing that a zone's report reads is moved by reports. -/
theorem Reports.zone_eq (h : Reports s u rs) : u.zoneState z = s.zoneState z ∧ ∀ before e acts,
    zoneChange before u z e acts = zoneChange before s z e acts := by
  have hstate : u.zoneState z = s.zoneState z := by rw [h.state]; rfl
  refine ⟨hstate, fun before e acts => zoneChange_congr rfl rfl hstate ?_ ?_ ?_ e acts⟩ <;> rw [h.state]

theorem Reports.zoneReport (h : Reports s u rs) (hup : before.uptime = s.uptime) (z : ZoneId) (e : HeaveEvent)
    (acts : List (LineId × LineAction)) :
    Reports s (Sys2Proof.Machine.zoneReport z e before acts u)
      (rs ++ if before.zoneState z = s.zoneState z then [] else [zoneChange before s z e acts]) := by
  obtain ⟨hstate, hchange⟩ := h.zone_eq (z := z)
  have hreport : Sys2Proof.Machine.zoneReport z e before acts u =
      if before.zoneState z = u.zoneState z then u else u.report (zoneChange before u z e acts) := by
    have huptime : u.uptime = before.uptime := by rw [hup, h.state]; rfl
    unfold Sys2Proof.Machine.zoneReport zoneChange
    rw [huptime]
  rw [hreport, hstate, hchange]
  split
  · rw [List.append_nil]; exact h
  · exact h.report _

theorem zoneChanges_cons (zs : List ZoneId) (acts : ZoneId → List (LineId × LineAction)) :
    zoneChanges before s (z :: zs) e acts =
      (if before.zoneState z = s.zoneState z then [] else [zoneChange before s z e (acts z)]) ++ zoneChanges before s zs e acts := by
  unfold zoneChanges
  rw [List.filter_cons]
  by_cases he : before.zoneState z = s.zoneState z
  · rw [if_pos he, if_neg (by rw [he]; simp), List.nil_append]
  · rw [if_neg he, if_pos (by simpa using he)]
    rfl

/-- The reports of zones, one after another. -/
theorem Reports.zoneReports (h : Reports s u rs) (hup : before.uptime = s.uptime) (zs : List ZoneId) (e : HeaveEvent)
    (acts : ZoneId → List (LineId × LineAction)) :
    Reports s (zs.foldl (fun x z => Sys2Proof.Machine.zoneReport z e before (acts z) x) u) (rs ++ zoneChanges before s zs e acts) := by
  induction zs generalizing u rs with
  | nil => rw [show zoneChanges before s [] e acts = [] from rfl, List.append_nil]; exact h
  | cons z rest ih =>
    rw [List.foldl_cons, zoneChanges_cons, ← List.append_assoc]
    exact ih (h.zoneReport hup z e (acts z))

theorem zoneChanges_congr {s' t' : State} (zs : List ZoneId) (hz : ∀ z, s'.zoneState z = s.zoneState z) (hup : s'.uptime = s.uptime)
    (hz' : ∀ z, t'.zoneState z = t.zoneState z) (hcfg : t'.store.gaugeCfg = t.store.gaugeCfg)
    (hzone : t'.store.zoneCfg = t.store.zoneCfg) (hgauges : t'.gauges = t.gauges) (e : HeaveEvent)
    (acts : ZoneId → List (LineId × LineAction)) : zoneChanges s' t' zs e acts = zoneChanges s t zs e acts := by
  unfold zoneChanges
  simp only [hz, hz']
  exact List.map_congr_left fun z _ => zoneChange_congr (hz z) hup (hz' z) hcfg hzone hgauges e (acts z)

theorem zoneChanges_length (zs : List ZoneId) (acts : ZoneId → List (LineId × LineAction)) :
    (zoneChanges s t zs e acts).length ≤ zs.length := by
  unfold zoneChanges
  rw [List.length_map]
  exact List.length_filter_le ..

/-! ### A request of the monitor -/

/-- A request taken while the part listens: it is answered, and what its block has queued stands. -/
theorem request_closed (hl : s.Listening) (hk : requestKind c = some kind') (hkind : kind = kind' + 0x80)
    (hf : handle c (reloadT1 s) = (u, reply))
    (hu : u.link = { (reloadT1 s).link with reports := u.link.reports, missed := u.link.missed }) :
    ∃ t, exec c s = .next t ∧ t = { u with link := t.link } ∧ AnsweredBy s t kind (requestTag c) reply.result reply.body ∧
      t.reportsOut = u.reportsOut ∧
      ∀ rs, Queued (reloadT1 s) u rs → Answered s t kind (requestTag c) reply.result reply.body rs := by
  subst hkind
  obtain ⟨k, h1, h2, h3⟩ := takeRequest_answeredBy (kind := kind') (tag := requestTag c) hl hf hu
  refine ⟨_, (exec_request hk s).trans h1, rfl, h2, h3, fun rs hq => ?_⟩
  obtain ⟨k', h1', h2'⟩ := takeRequest_answered (kind := kind') (tag := requestTag c) hl hf hq
  obtain rfl : k = k' := by
    have hsame := h1.symm.trans h1'
    injection hsame with hstate
    exact congrArg State.link hstate
  exact h2'

end

end Sys2Proof.Machine
end

section
/-! PROOFS. ZERO and HCLEAR (R142, R148). -/

namespace Sys2Proof.Machine

section
variable {s t u w before : State} {g : GaugeId} {z y : ZoneId} {d : Int} {n : Nat} {rs qs : List Report} {r : Report}
  {e : HeaveEvent} {acts : List (LineId × LineAction)} {c : Instr} {kind kind' : Byte} {reply : Reply}

/-! ### A request that judges one zone -/

theorem zoneStarted_iff : s.zoneStarted z = true ↔
    ∃ l v, s.live l = some v ∧ v.phase.started = true ∧ hasZone v.ctx.zones z = true := by
  unfold State.zoneStarted State.linesOf
  rw [List.any_eq_true]
  constructor
  · rintro ⟨l, hl, hs⟩
    have hzone := (List.mem_filter.1 hl).2
    unfold State.started State.phase at hs
    unfold State.ctx at hzone
    cases hv : s.live l with
    | none => rw [hv] at hs; cases hs
    | some v =>
      rw [hv] at hs hzone
      exact ⟨l, v, hv, hs, hzone⟩
  · rintro ⟨l, v, hv, hp, hz⟩
    refine ⟨l, List.mem_filter.2 ⟨mem_allLines l, ?_⟩, ?_⟩
    · unfold State.ctx; rw [hv]; exact hz
    · unfold State.started State.phase; rw [hv]; exact hp

/-- What the zone's judgement and its report leave of the part over what the request has written. -/
theorem judge_and_report (hlink : w.link = (reloadT1 s).link) (hup : w.uptime = s.uptime) (z : ZoneId) (e : HeaveEvent) :
    Reports (judgeWarn z w) (zoneReport z e (reloadT1 s) [] (judgeWarn z w))
        (zoneChanges (reloadT1 s) (judgeWarn z w) [z] e (fun _ => [])) ∧
      Judged w (judgeWarn z w) (fun y => y = z) ∧ (judgeWarn z w).link = (reloadT1 s).link := by
  refine ⟨(Reports.refl _).zoneReports ?_ [z] e fun _ => [], ?_, ?_⟩
  · rw [judgeWarn_eq]; exact hup.symm
  · exact (judgeZones_judged [z] (List.nodup_singleton z) w).congr (fun y => List.mem_singleton.symm) rfl rfl rfl rfl rfl rfl rfl
  · rw [judgeWarn_eq]; exact hlink

/-- A request that writes, judges one zone, and reports it where its state changes. -/
theorem judging_request (hl : s.Listening) (hk : requestKind c = some kind') (hkind : kind = kind' + 0x80)
    (hf : handle c (reloadT1 s) = (zoneReport z e (reloadT1 s) [] (judgeWarn z w), reply)) (hlink : w.link = (reloadT1 s).link)
    (hup : w.uptime = s.uptime) (hlatch : w.store.tripLatch = s.store.tripLatch) (hwarn : w.zoneWarn = s.zoneWarn) :
    ∃ t, exec c s = .next t ∧ t = { w with zoneWarn := t.zoneWarn, link := t.link } ∧
      AnsweredBy s t kind (requestTag c) reply.result reply.body ∧ Judged s t (fun y => y = z) ∧
      (s.roomFor 1 → Answered s t kind (requestTag c) reply.result reply.body (zoneChanges s t [z] e (fun _ => []))) := by
  obtain ⟨hreports, hjudged, hjlink⟩ := judge_and_report hlink hup z e
  obtain ⟨t, h1, h2, h3, h4, h5⟩ := request_closed hl hk hkind hf (by rw [hreports.link, hjlink])
  have hstate := hreports.state
  have hw := judgeWarn_eq z w
  generalize judgeWarn z w = v at *
  generalize zoneReport z e (reloadT1 s) [] v = u at *
  have ht : t = { v with link := t.link } := by rw [h2, hstate]
  refine ⟨t, h1, by rw [ht, hw], h3, ?_, fun room => ?_⟩
  · refine hjudged.congr (fun _ => Iff.rfl) hlatch hwarn ?_ ?_ ?_ ?_ ?_ <;> rw [ht]
  · have hqueued := hreports.queued (State.roomFor.takes (show v.roomFor 1 by unfold State.roomFor; rw [hjlink]; exact room)
      (zoneChanges_length ..))
    have hans := h5 _ (show Queued (reloadT1 s) u _ by unfold Queued at hqueued ⊢; rw [hqueued, hjlink])
    have hsame := zoneChanges_congr (s := s) (s' := reloadT1 s) (t := t) (t' := v) [z] (fun _ => rfl) rfl
      (fun y => by rw [ht]; rfl) (by rw [ht]) (by rw [ht]) (by rw [ht]) e (fun _ => [])
    rw [hsame] at hans
    exact hans

/-! ### ZERO (R142) -/

theorem zeroGauge_reading {v : Int} (hr : (s.gauge g).reading = some v) :
    zeroGauge g s = (s.setGaugeCfg g { s.gaugeCfg g with baseline := v }).setGauge g { s.gauge g with trips := 0 } := by
  unfold zeroGauge
  rw [hr]

theorem zeroGauge_eq (g : GaugeId) (s : State) : zeroGauge g s = { s with
    store := { s.store with gaugeCfg := (zeroGauge g s).store.gaugeCfg }, gauges := (zeroGauge g s).gauges } := by
  unfold zeroGauge
  split <;> rfl

theorem zeroGauge_other {k : GaugeId} (h : k ≠ g) (s : State) :
    (zeroGauge g s).gaugeCfg k = s.gaugeCfg k ∧ (zeroGauge g s).gauge k = s.gauge k := by
  unfold zeroGauge
  split
  · exact ⟨rfl, rfl⟩
  · exact ⟨getElem_set_other _ _ h, getElem_set_other _ _ h⟩

/-- The gauges of a zone set to zero, one after another. -/
theorem zeroGauges_spec (gs : List GaugeId) (hn : gs.Nodup) (s : State) :
    let u := gs.foldl (fun s g => zeroGauge g s) s
    u = { s with store := { s.store with gaugeCfg := u.store.gaugeCfg }, gauges := u.gauges } ∧
      (∀ g v, g ∈ gs → (s.gauge g).reading = some v →
        u.gaugeCfg g = { s.gaugeCfg g with baseline := v } ∧ u.gauge g = { s.gauge g with trips := 0 }) ∧
      ∀ g, g ∉ gs → u.gaugeCfg g = s.gaugeCfg g ∧ u.gauge g = s.gauge g := by
  induction gs generalizing s with
  | nil => exact ⟨rfl, nofun, fun _ _ => ⟨rfl, rfl⟩⟩
  | cons k rest ih =>
    obtain ⟨hk, hrest⟩ := List.nodup_cons.1 hn
    obtain ⟨h1, h2, h3⟩ := ih hrest (zeroGauge k s)
    rw [List.foldl_cons]
    refine ⟨?_, fun g v hg hv => ?_, fun g hg => ?_⟩
    · refine h1.trans ?_
      have hstep := zeroGauge_eq k s
      generalize zeroGauge k s = a at hstep
      rw [hstep]
    · rcases List.mem_cons.1 hg with rfl | hg
      · obtain ⟨a, b⟩ := h3 g hk
        rw [a, b, zeroGauge_reading hv]
        exact ⟨getElem_set_same .., getElem_set_same ..⟩
      · have hne : g ≠ k := fun he => hk (he ▸ hg)
        obtain ⟨a, b⟩ := zeroGauge_other hne s
        obtain ⟨a', b'⟩ := h2 g v hg (by rw [b]; exact hv)
        rw [a', b', a, b]
        exact ⟨rfl, rfl⟩
    · obtain ⟨hne, hout⟩ := not_or.1 fun h => hg (List.mem_cons.2 h)
      obtain ⟨a, b⟩ := zeroGauge_other hne s
      obtain ⟨a', b'⟩ := h3 g hout
      exact ⟨a'.trans a, b'.trans b⟩

theorem allGauges_nodup : allGauges.Nodup := by decide

theorem partGauges_nodup (s : State) (z : ZoneId) : (s.partGauges z).Nodup := by
  unfold State.partGauges State.gaugesOf
  exact (allGauges_nodup.filter _).filter _

/-! ### HCLEAR (R148) -/

theorem zeroTrips_spec (gs : List GaugeId) (hn : gs.Nodup) (s : State) :
    zeroTrips gs s = { s with gauges := (zeroTrips gs s).gauges } ∧
      ∀ g, (zeroTrips gs s).gauge g = if g ∈ gs then { s.gauge g with trips := 0 } else s.gauge g := by
  unfold zeroTrips
  induction gs generalizing s with
  | nil => exact ⟨rfl, fun _ => rfl⟩
  | cons k rest ih =>
    obtain ⟨hk, hrest⟩ := List.nodup_cons.1 hn
    obtain ⟨h1, h2⟩ := ih hrest (s.setGauge k { s.gauge k with trips := 0 })
    rw [List.foldl_cons]
    refine ⟨h1, fun g => (h2 g).trans ?_⟩
    by_cases he : g = k
    · subst he
      rw [if_neg hk, if_pos (List.mem_cons_self ..)]
      exact getElem_set_same ..
    · have hother : (s.setGauge k { s.gauge k with trips := 0 }).gauge g = s.gauge g := getElem_set_other _ _ he
      rw [hother]
      simp [he]

/-- HCLEAR of a zone that no gauge stands against: its latch and the trip counts of its gauges are cleared, and it is judged. -/
theorem clearLatch_spec (z : ZoneId) (s : State) :
    clearLatch z s = { s with
        store := { s.store with tripLatch := s.store.tripLatch.set z false }, gauges := (clearLatch z s).gauges
        zoneWarn := s.zoneWarn.set z (s.someAtOrBeyond z (warnRelease (s.zoneCfg z).warn)) } ∧
      ∀ g, (clearLatch z s).gauge g = if g ∈ s.partGauges z then { s.gauge g with trips := 0 } else s.gauge g := by
  obtain ⟨h1, h2⟩ := zeroTrips_spec (s.partGauges z) (partGauges_nodup s z)
    ((s.setLatch z false).setWarned z (s.someAtOrBeyond z (warnRelease (s.zoneCfg z).warn)))
  exact ⟨h1, h2⟩

/-! ### The statement -/

theorem reqZero_gauge (g : GaugeId) (s : State) : reqZero 1 (g.val + 1) s = zeroOne g s := by
  unfold reqZero
  rw [gaugeOf_val]
  rfl

theorem reqZero_zone (z : ZoneId) (s : State) : reqZero 2 (z.val + 1) s = zeroZone z s := by
  unfold reqZero
  rw [zoneOf_val]
  rfl

theorem reqZero_range {kind number : Nat} (h1 : ¬(kind = 1 ∧ 1 ≤ number ∧ number ≤ 16))
    (h2 : ¬(kind = 2 ∧ 1 ≤ number ∧ number ≤ 4)) : reqZero kind number s = deny s .range := by
  unfold reqZero
  split
  · rw [gaugeOf_none (not_inRange_iff.2 fun h => h1 ⟨rfl, h⟩)]
  · rw [zoneOf_none (not_inRange_iff.2 fun h => h2 ⟨rfl, h⟩)]
  · rfl

/-- A gauge set to zero, answered and judged (R142). -/
theorem zero_one (hl : s.Listening) (tag : Byte) (hpart : s.takesPartAt z g d) {v : Int} (hv : (s.gauge g).reading = some v)
    (hfree : ¬s.zoneStarted z = true) :
    ∃ t, exec (.zero tag 1 (g.val + 1)) s = .next t ∧ AnsweredBy s t 0xA4 tag .ok (s16 v) ∧ Judged s t (fun y => y = z) ∧
      (s.roomFor 1 → Answered s t 0xA4 tag .ok (s16 v) (zoneChanges s t [z] .zero (fun _ => []))) ∧
      t = { s with
        store := { s.store with gaugeCfg := s.store.gaugeCfg.set g { s.gaugeCfg g with baseline := v } }
        gauges := s.gauges.set g { s.gauge g with trips := 0 }
        zoneWarn := t.zoneWarn, link := t.link } := by
  obtain ⟨_, rfl, _⟩ := id hpart
  have htakes : (reloadT1 s).takesPart g = true := takesPart_iff.2 ⟨d, hpart⟩
  obtain ⟨w, hw⟩ : ∃ w, ((reloadT1 s).setGaugeCfg g { s.gaugeCfg g with baseline := v }).setGauge g { s.gauge g with trips := 0 } = w :=
    ⟨_, rfl⟩
  have hzero : zeroGauge g (reloadT1 s) = w := (zeroGauge_reading (s := reloadT1 s) hv).trans hw
  have hcfg : (zoneReport (s.gaugeCfg g).zone .zero (reloadT1 s) [] (judgeWarn (s.gaugeCfg g).zone w)).gaugeCfg g =
      { s.gaugeCfg g with baseline := v } := by
    have hjudge := judgeWarn_eq (s.gaugeCfg g).zone w
    have hreport := ((Reports.refl (judgeWarn (s.gaugeCfg g).zone w)).zoneReport (before := reloadT1 s)
      (by rw [hjudge, ← hw]; rfl) (s.gaugeCfg g).zone .zero []).state
    rw [hreport, hjudge, ← hw]
    exact getElem_set_same ..
  have hf : handle (.zero tag 1 (g.val + 1)) (reloadT1 s) =
      (zoneReport (s.gaugeCfg g).zone .zero (reloadT1 s) [] (judgeWarn (s.gaugeCfg g).zone w), { result := .ok, body := s16 v }) := by
    show reqZero 1 (g.val + 1) (reloadT1 s) = _
    rw [reqZero_gauge, zeroOne, htakes, if_neg nofun, if_neg (show ¬(reloadT1 s).zoneStarted ((reloadT1 s).gaugeCfg g).zone = true from hfree)]
    show accept (zoneReport (s.gaugeCfg g).zone .zero (reloadT1 s) [] (judgeWarn (s.gaugeCfg g).zone (zeroGauge g (reloadT1 s)))) _ = _
    rw [hzero, show (reloadT1 s).gaugeCfg g = s.gaugeCfg g from rfl, hcfg]
    rfl
  obtain ⟨t, h1, h2, h3, h4, h5⟩ := judging_request (kind := 0xA4) hl rfl rfl hf (by rw [← hw]; rfl) (by rw [← hw]; rfl)
    (by rw [← hw]; rfl) (by rw [← hw]; rfl)
  refine ⟨t, h1, h3, h4, h5, ?_⟩
  rw [h2, ← hw]
  rfl

/-- The gauges of a zone set to zero, answered and judged (R142). -/
theorem zero_zone (hl : s.Listening) (tag : Byte) (z : ZoneId) (hfree : ¬s.zoneStarted z = true) :
    ∃ t, exec (.zero tag 2 (z.val + 1)) s = .next t ∧
      AnsweredBy s t 0xA4 tag .ok (counted (fun g => u8 (g.val + 1) ++ s16 (t.gaugeCfg g).baseline) (s.partGauges z)) ∧
      Judged s t (fun y => y = z) ∧
      (s.roomFor 1 → Answered s t 0xA4 tag .ok
        (counted (fun g => u8 (g.val + 1) ++ s16 (t.gaugeCfg g).baseline) (s.partGauges z))
        (zoneChanges s t [z] .zero (fun _ => []))) ∧
      t = { s with
        store := { s.store with gaugeCfg := t.store.gaugeCfg }, gauges := t.gauges, zoneWarn := t.zoneWarn, link := t.link } ∧
      (∀ g d r, s.takesPartAt z g d → (s.gauge g).reading = some r →
        t.gaugeCfg g = { s.gaugeCfg g with baseline := r } ∧ t.gauge g = { s.gauge g with trips := 0 }) ∧
      ∀ g, (∀ d, ¬s.takesPartAt z g d) → t.gaugeCfg g = s.gaugeCfg g ∧ t.gauge g = s.gauge g := by
  obtain ⟨hstate, hzeroed, hothers⟩ := zeroGauges_spec (s.partGauges z) (partGauges_nodup s z) (reloadT1 s)
  obtain ⟨w, hw⟩ : ∃ w, (s.partGauges z).foldl (fun s g => zeroGauge g s) (reloadT1 s) = w := ⟨_, rfl⟩
  rw [hw] at hstate hzeroed hothers
  have hjudge := judgeWarn_eq z w
  have hreport := ((Reports.refl (judgeWarn z w)).zoneReport (before := reloadT1 s) (by rw [hjudge, hstate]; rfl) z .zero []).state
  have hf : handle (.zero tag 2 (z.val + 1)) (reloadT1 s) = (zoneReport z .zero (reloadT1 s) [] (judgeWarn z w),
      { result := .ok, body := counted (fun g => u8 (g.val + 1) ++ s16 (w.gaugeCfg g).baseline) (s.partGauges z) }) := by
    have hcfg (g : GaugeId) : (zoneReport z .zero (reloadT1 s) [] (judgeWarn z w)).gaugeCfg g = w.gaugeCfg g := by
      rw [hreport, hjudge]
      rfl
    show reqZero 2 (z.val + 1) (reloadT1 s) = _
    rw [reqZero_zone, zeroZone, if_neg (show ¬(reloadT1 s).zoneStarted z = true from hfree)]
    have hfold : ((reloadT1 s).partGauges z).foldl (fun s g => zeroGauge g s) (reloadT1 s) = w := hw
    dsimp only
    rw [hfold]
    simp only [hcfg]
    rfl
  obtain ⟨t, h1, h2, h3, h4, h5⟩ := judging_request (kind := 0xA4) hl rfl rfl hf (by rw [hstate]) (by rw [hstate]; rfl)
    (by rw [hstate]; rfl) (by rw [hstate]; rfl)
  have hcfg (g : GaugeId) : w.gaugeCfg g = t.gaugeCfg g := by rw [h2]; rfl
  have hgauge (g : GaugeId) : w.gauge g = t.gauge g := by rw [h2]; rfl
  simp only [hcfg] at h3 h5 hzeroed hothers
  simp only [hgauge] at hzeroed hothers
  refine ⟨t, h1, h3, h4, h5, ?_, fun g d v hpart hv => ?_, fun g hno => ?_⟩
  · rw [h2, hstate]
    rfl
  · exact hzeroed g v (mem_partGauges.2 ⟨d, hpart⟩) hv
  · exact hothers g fun hin => (mem_partGauges.1 hin).elim hno

/-- A trip latch cleared, and the zone judged by its readings (R148). -/
theorem hclear_clears (hl : s.Listening) (tag : Byte) (z : ZoneId) (hlatch : s.latched z = true)
    (hno : ¬s.reaches z (s.zoneCfg z).trip) (room : s.roomFor 1) :
    ∃ t warned, exec (.hclear tag (z.val + 1)) s = .next t ∧
      (warned = true ↔ s.reaches z ((s.zoneCfg z).warn - (s.zoneCfg z).warn / 10)) ∧
      t = { s with
        store := { s.store with tripLatch := s.store.tripLatch.set z false }
        gauges := t.gauges, zoneWarn := s.zoneWarn.set z warned, link := t.link } ∧
      (∀ g, (∃ d, s.takesPartAt z g d) → t.gauge g = { s.gauge g with trips := 0 }) ∧
      (∀ g, (∀ d, ¬s.takesPartAt z g d) → t.gauge g = s.gauge g) ∧
      Answered s t 0xA5 tag .ok [if warned then 1 else 0] [zoneChange s t z .hclear []] := by
  obtain ⟨warned, hwarned⟩ : ∃ b, s.someAtOrBeyond z (warnRelease (s.zoneCfg z).warn) = b := ⟨_, rfl⟩
  obtain ⟨hstate, hgauges⟩ := clearLatch_spec z (reloadT1 s)
  obtain ⟨w, hw⟩ : ∃ w, clearLatch z (reloadT1 s) = w := ⟨_, rfl⟩
  rw [hw] at hstate hgauges
  rw [show (reloadT1 s).someAtOrBeyond z (warnRelease ((reloadT1 s).zoneCfg z).warn) = warned from hwarned] at hstate
  have hlatched : w.latched z = false := by rw [hstate]; exact getElem_set_same ..
  have hwarn : w.warned z = warned := by rw [hstate]; exact getElem_set_same ..
  have hafter : w.zoneState z = if warned then .warn else .normal := by
    unfold State.zoneState
    rw [hlatched, hwarn]
    rfl
  have hbefore : (reloadT1 s).zoneState z = .trip := if_pos hlatch
  have hup : (reloadT1 s).uptime = w.uptime := by rw [hstate]; rfl
  have hreports := (Reports.refl w).zoneReport hup z .hclear []
  have hdiffer : ¬ZoneState.trip = w.zoneState z := by rw [hafter]; cases warned <;> nofun
  rw [List.nil_append, hbefore, if_neg hdiffer] at hreports
  have hbody : u8 ((zoneReport z .hclear (reloadT1 s) [] w).zoneState z).code = [if warned then 1 else 0] := by
    rw [show (zoneReport z .hclear (reloadT1 s) [] w).zoneState z = w.zoneState z by rw [hreports.state]; rfl, hafter]
    cases warned <;> rfl
  have hf : handle (.hclear tag (z.val + 1)) (reloadT1 s) =
      (zoneReport z .hclear (reloadT1 s) [] w, { result := .ok, body := [if warned then 1 else 0] }) := by
    show reqHclear .. = _
    unfold reqHclear
    rw [zoneOf_val]
    dsimp only
    rw [show (reloadT1 s).latched z = true from hlatch, if_neg nofun,
      if_neg (show ¬(reloadT1 s).someAtOrBeyond z ((reloadT1 s).zoneCfg z).trip = true
        from mt someAtOrBeyond_iff.1 hno), hw, hbody]
    rfl
  have hlink : w.link = (reloadT1 s).link := by rw [hstate]
  have hqueued := hreports.queued (State.roomFor.takes (show w.roomFor 1 by unfold State.roomFor; rw [hlink]; exact room))
  obtain ⟨k, h1, h2⟩ := exec_answered (kind := 0xA5) hl rfl rfl hf (by unfold Queued at hqueued ⊢; rw [hqueued, hlink])
  have hu := hreports.state
  generalize zoneReport z .hclear (reloadT1 s) [] w = u at h1 h2 hu
  have ht (g : GaugeId) : ({ u with link := k } : State).gauge g = w.gauge g := by rw [hu]; rfl
  refine ⟨_, warned, h1, ?_, ?_, fun g hg => ?_, fun g hg => ?_, ?_⟩
  · rw [← hwarned]
    exact someAtOrBeyond_iff
  · rw [hu, hstate]
    rfl
  · rw [ht, hgauges, if_pos (show g ∈ (reloadT1 s).partGauges z from mem_partGauges.2 hg)]
    rfl
  · rw [ht, hgauges, if_neg fun hin : g ∈ (reloadT1 s).partGauges z => (mem_partGauges.1 hin).elim hg]
    rfl
  · have hsame := zoneChange_congr (z := z) (s := s) (s' := reloadT1 s) (t := { u with link := k }) (t' := w) rfl rfl (by rw [hu]; rfl)
      (by rw [hu]) (by rw [hu]) (by rw [hu]) .hclear []
    rw [← hsame]
    exact h2

/-- Settles O50: ZERO of a gauge and of a zone, and HCLEAR, each refused or judging its zone. -/
theorem zeroAndHclearJudgeTheZone : Obligations.ZeroAndHclearJudgeTheZone := by
  intro s tag hl startedIn
  have hstarted (z : ZoneId) : startedIn z ↔ s.zoneStarted z = true := zoneStarted_iff.symm
  refine ⟨fun kind number h1 h2 => .denied hl rfl rfl (reqZero_range h1 h2), fun g hno => .denied hl rfl rfl ?_,
    fun g z d hpart hz => .denied hl rfl rfl ?_, fun g z d v hpart hv hfree => zero_one hl tag hpart hv (mt (hstarted z).2 hfree),
    fun z hz => .denied hl rfl rfl ?_, fun z hfree => zero_zone hl tag z (mt (hstarted z).2 hfree),
    fun zone hzone => .denied hl rfl rfl ?_, fun z hlatch => .denied hl rfl rfl ?_, fun z hlatch hreach => .denied hl rfl rfl ?_,
    fun z hlatch hno room => hclear_clears hl tag z hlatch hno room⟩
  · have htakes : (reloadT1 s).takesPart g = false := Bool.eq_false_iff.2 fun h => (takesPart_iff.1 h).elim fun d hd => hno _ d hd
    show reqZero 1 (g.val + 1) (reloadT1 s) = _
    rw [reqZero_gauge, zeroOne, htakes]
    rfl
  · obtain ⟨_, rfl, _⟩ := id hpart
    have htakes : (reloadT1 s).takesPart g = true := takesPart_iff.2 ⟨d, hpart⟩
    show reqZero 1 (g.val + 1) (reloadT1 s) = _
    rw [reqZero_gauge, zeroOne, htakes, if_neg nofun]
    exact if_pos ((hstarted _).1 hz)
  · show reqZero 2 (z.val + 1) (reloadT1 s) = _
    rw [reqZero_zone, zeroZone]
    exact if_pos ((hstarted z).1 hz)
  · show reqHclear .. = _
    unfold reqHclear
    rw [zoneOf_none (not_inRange_iff.2 hzone)]
  · show reqHclear .. = _
    unfold reqHclear
    rw [zoneOf_val]
    dsimp only
    rw [show (reloadT1 s).latched z = false from hlatch]
    rfl
  · show reqHclear .. = _
    unfold reqHclear
    rw [zoneOf_val]
    dsimp only
    rw [show (reloadT1 s).latched z = true from hlatch, if_neg nofun]
    exact if_pos (someAtOrBeyond_iff.2 hreach)

end

end Sys2Proof.Machine
end

section
/-! PROOFS. A routing that acts on the lines of its zone, and ZONECFG (R144, R149). -/

namespace Sys2Proof.Machine

section
variable {s t u w before : State} {z y : ZoneId} {rs qs : List Report} {r : Routing} {e : HeaveEvent}
  {acts : List (LineId × LineAction)} {x : LineId → Line} {hs : List Instr} {on : Context → Bool} {o : PassOutcome}

/-! ### What an action on the lines leaves of the rest -/

/-- From `s` to `u` nothing has moved but lines, tanks, hand-offs and the report queue, which has lost nothing. -/
structure LinesActed (s u : State) : Prop where
  state : u = { s with lines := u.lines, tanks := u.tanks, handoffs := u.handoffs, link := u.link }
  link : u.link = { s.link with reports := u.link.reports, missed := u.link.missed }
  grows : s.link.reports <+: u.link.reports

theorem LinesActed.refl (s : State) : LinesActed s s := ⟨rfl, rfl, List.prefix_rfl⟩

theorem LinesActed.trans (h : LinesActed s u) (h' : LinesActed u w) : LinesActed s w where
  state := by
    refine h'.state.trans ?_
    rw [h.state]
  link := by
    refine h'.link.trans ?_
    rw [h.link]
  grows := h.grows.trans h'.grows

theorem LinesStep.acted (h : LinesStep s u x hs) : LinesActed s u where
  state := by
    have hstate := h.state
    generalize u.lines = ls at hstate ⊢
    rw [hstate]
  link := h.link
  grows := h.grows

theorem DrainedUpTo.acted {ds : List LineId} (h : DrainedUpTo s u on o ds) : LinesActed s u := ⟨h.state, h.link, h.grows⟩

theorem Reports.acted (h : Reports s u rs) : LinesActed s u where
  state := by
    have hstate := h.state
    generalize u.link = k at hstate ⊢
    rw [hstate]
  link := h.link
  grows := h.grows

/-! ### The routing of a zone in TRIP (R149) -/

theorem linesOf_eq (s : State) (z : ZoneId) : s.linesOf z = allLines.filter (fun l => (s.ctx l).any (fun c => hasZone c.zones z)) := rfl

theorem routeTrip_routed (z : ZoneId) (s : State) :
    LinesActed s (routeTrip z s) ∧ Routed s (routeTrip z s) z (s.zoneCfg z).routing := by
  unfold routeTrip
  rw [linesOf_eq]
  cases (s.zoneCfg z).routing with
  | stop =>
    have hsteps := drain_steps s (fun c => hasZone c.zones z) .heave
    exact ⟨hsteps.acted, hsteps.drainedOn rfl⟩
  | hold =>
    have hsteps := impose_steps s (fun c => hasZone c.zones z) .heave (fun h => h.addHeave z)
    exact ⟨hsteps.acted, hsteps.heldOn⟩
  | report => exact ⟨.refl s, rfl, rfl, rfl⟩

theorem Routed.congr {s' t' : State} (h : Routed s t z r) (hlines : s.lines = s'.lines) (htanks : s.tanks = s'.tanks)
    (hhanded : s.handoffs = s'.handoffs) (hup : s.uptime = s'.uptime) (hlines' : t.lines = t'.lines) (htanks' : t.tanks = t'.tanks)
    (hhanded' : t.handoffs = t'.handoffs) (hsupply' : t.supply = t'.supply) : Routed s' t' z r := by
  cases r with
  | stop => exact DrainedOn.congr h hlines htanks hhanded hup hlines' htanks' hhanded' hsupply'
  | hold => exact HeldOn.congr h hlines htanks hhanded hlines' htanks' hhanded'
  | report =>
    obtain ⟨h1, h2, h3⟩ := h
    exact ⟨hlines' ▸ hlines ▸ h1, htanks' ▸ htanks ▸ h2, hhanded' ▸ hhanded ▸ h3⟩

/-! ### A re-routing from HOLD to REPORT (R149) -/

/-- A hold cause set without the zone in its HEAVE cause. -/
def HoldSet.unrouted (z : ZoneId) (h : HoldSet) : HoldSet := { h with heave := h.heave.map (fun zs => zs &&& ~~~(oneZone z)) }

theorem unrouteHold_steps (z : ZoneId) (s : State) :
    LinesStep s (unrouteHold z s)
      (fun l => { s.line l with
        live := (s.live l).map (fun v => { v with ctx := { v.ctx with hold := v.ctx.hold.unrouted z } }) }) [] := by
  have hnone : allLines.flatMap (fun _ : LineId => ([] : List Instr)) = [] := by simp
  rw [← hnone]
  refine LinesStep.foldl _ fun u l _ hl => ?_
  have hlive : u.live l = s.live l := congrArg Line.live hl
  cases hv : s.live l with
  | none =>
    refine ⟨[], ?_⟩
    have hsame : { s.line l with live := none } = u.line l := by rw [← hv, hl]; rfl
    have hstill : u.modCtx l (fun c => { c with hold := { c.hold with heave := c.hold.heave.map (fun zs => zs &&& ~~~(oneZone z)) } }) =
        u := by
      unfold State.modCtx
      rw [hlive, hv]
    rw [hstill]
    show LineStep u u l { s.line l with live := none } [] []
    rw [hsame]
    exact LineStep.refl u l
  | some v =>
    rw [← hl]
    exact ⟨[], (LineStep.refl u l).modCtx (hlive.trans hv) _⟩

/-! ### ZONECFG (R144) -/

theorem zoneCfg_clamped (warn trip derate : Nat) (r : Routing) :
    ZoneCfg.clamped warn trip derate r =
      { warn := max 10 (min warn 2000), trip := max (max 11 (min trip 10000)) (max 10 (min warn 2000) + 1)
        derate := max 30 (min derate 100), routing := r } := by
  unfold ZoneCfg.clamped
  rw [clampN_eq (by decide), clampN_eq (by decide), clampN_eq (by decide)]

theorem routing_code {n : Nat} (h : routingOf n = some r) : r.code = n := by
  unfold routingOf at h
  split at h <;> cases h <;> rfl

theorem routingOf_none {n : Nat} (h : ¬(1 ≤ n ∧ n ≤ 3)) : routingOf n = none := by
  unfold routingOf
  split
  · exact absurd (by decide) h
  · exact absurd (by decide) h
  · exact absurd (by decide) h
  · rfl

theorem reqZonecfg_range {zone warn trip derate routing : Nat} (h : ¬(1 ≤ zone ∧ zone ≤ 4 ∧ 1 ≤ routing ∧ routing ≤ 3)) :
    reqZonecfg zone warn trip derate routing s = deny s .range := by
  unfold reqZonecfg
  by_cases hz : 1 ≤ zone ∧ zone ≤ 4
  · rw [routingOf_none fun hr => h ⟨hz.1, hz.2, hr⟩]
    cases zoneOf zone <;> rfl
  · rw [zoneOf_none (not_inRange_iff.2 hz)]

/-- A configuration stored is the one asked for where nothing was clamped. -/
theorem clamped_asked {warn trip derate w p d : Nat} {r : Routing} :
    (if decide (({ warn := w, trip := p, derate := d, routing := r } : ZoneCfg) ≠
        { warn := warn, trip := trip, derate := derate, routing := r }) = true then Result.okAdjusted else .ok) =
      if w = warn ∧ p = trip ∧ d = derate then .ok else .okAdjusted := by
  by_cases h : w = warn ∧ p = trip ∧ d = derate
  · obtain ⟨rfl, rfl, rfl⟩ := h
    simp
  · rw [if_neg h, if_pos]
    rw [decide_eq_true_iff]
    intro he
    injection he with h1 h2 h3
    exact h ⟨h1, h2, h3⟩

/-- The action of a new routing, on the lines of a zone in TRIP (R144, R149). -/
theorem reroute_cases (hr : (w.zoneCfg z).routing = r) (old : Routing) :
    LinesActed w (reroute z old w) ∧
      (¬(w.latched z = true ∧ old ≠ r) → reroute z old w = w) ∧
      (w.latched z = true ∧ old ≠ r → ¬(old = .hold ∧ r = .report) → Routed w (reroute z old w) z r) ∧
      (w.latched z = true ∧ old ≠ r → old = .hold → r = .report → reroute z old w = unrouteHold z w) := by
  obtain ⟨hacted, hrouted⟩ := routeTrip_routed z w
  rw [hr] at hrouted
  have hcond : (old = r ∨ (!w.latched z) = true) ↔ ¬(w.latched z = true ∧ old ≠ r) := by
    cases w.latched z <;> simp
  unfold reroute
  rw [hr]
  by_cases hacts : w.latched z = true ∧ old ≠ r
  · rw [if_neg (mt hcond.1 (not_not.2 hacts))]
    by_cases hun : old = .hold ∧ r = .report
    · rw [if_pos hun]
      exact ⟨(unrouteHold_steps z w).acted, fun h => absurd hacts h, fun _ h => absurd hun h, fun _ _ _ => rfl⟩
    · rw [if_neg hun]
      exact ⟨hacted, fun h => absurd hacts h, fun _ _ => hrouted, fun _ h1 h2 => absurd ⟨h1, h2⟩ hun⟩
  · rw [if_pos (hcond.2 hacts)]
    exact ⟨.refl w, fun _ => rfl, fun h => absurd h hacts, fun h => absurd h hacts⟩

/-- Settles O49: the record stored, the zone judged and reported, and a new routing acting at once. -/
theorem zonecfgStoresTheThresholds : Obligations.ZonecfgStoresTheThresholds := by
  intro s tag zone warn trip derate routing hl i w p d
  refine ⟨fun h => .denied hl rfl rfl (reqZonecfg_range h), fun z r hzone hrouting => ?_⟩
  subst hzone
  intro old acts
  obtain ⟨new, hnew⟩ : ∃ new : ZoneCfg, { warn := w, trip := p, derate := d, routing := r } = new := ⟨_, rfl⟩
  have hclamped : ZoneCfg.clamped warn trip derate r = new := (zoneCfg_clamped ..).trans hnew
  obtain ⟨x, hx⟩ : ∃ x, (reloadT1 s).setZoneCfg z new = x := ⟨_, rfl⟩
  obtain ⟨hreports, hjudged, hjlink⟩ := judge_and_report (s := s) (w := x) (by rw [← hx]; rfl) (by rw [← hx]; rfl) z .zonecfg
  have hjudge := judgeWarn_eq z x
  have hf : handle i (reloadT1 s) = (reroute z old (zoneReport z .zonecfg (reloadT1 s) [] (judgeWarn z x)),
      { result := if w = warn ∧ p = trip ∧ d = derate then .ok else .okAdjusted, body := u16 w ++ u16 p ++ u8 d ++ u8 routing }) := by
    show reqZonecfg (z.val + 1) warn trip derate routing (reloadT1 s) = _
    unfold reqZonecfg
    rw [zoneOf_val, hrouting]
    dsimp only
    rw [hclamped, hx, ← hnew, ← clamped_asked, ← routing_code hrouting]
    rfl
  generalize judgeWarn z x = v at hreports hjudged hjlink hjudge hf
  have hvlatch : v.latched z = s.latched z := by rw [hjudge, ← hx]; rfl
  generalize zoneReport z .zonecfg (reloadT1 s) [] v = u2 at hreports hf
  have hu2 := hreports.state
  have hrouted : (u2.zoneCfg z).routing = r := by
    have hcfg : u2.zoneCfg z = new := by rw [hu2, hjudge, ← hx]; exact getElem_set_same ..
    rw [hcfg, ← hnew]
  have hlatch : u2.latched z = s.latched z := by rw [hu2]; exact hvlatch
  obtain ⟨hacted, hsame, hroute, hunroute⟩ := reroute_cases hrouted old
  rw [hlatch] at hsame hroute hunroute
  obtain ⟨t, h1, h2, h3, h4, h5⟩ := request_closed (kind := 0x93) hl rfl rfl hf (by
    rw [hacted.link, hreports.link, hjlink])
  have hstate := hacted.state
  generalize reroute z old u2 = u at *
  have hstore : t.store = x.store ∧ t.gauges = s.gauges ∧ t.zoneWarn = v.zoneWarn := by
    rw [h2, hstate, hu2, hjudge, ← hx]
    exact ⟨rfl, rfl, rfl⟩
  obtain ⟨ht1, ht2, ht3⟩ := hstore
  have hvstore : v.store = x.store ∧ v.gauges = s.gauges := by
    rw [hjudge, ← hx]
    exact ⟨rfl, rfl⟩
  have hframe : t = { s with
      store := { s.store with zoneCfg := s.store.zoneCfg.set z new }
      zoneWarn := t.zoneWarn, lines := t.lines, tanks := t.tanks, handoffs := t.handoffs, link := t.link } := by
    rw [h2, hstate, hu2, hjudge, ← hx]
    rfl
  have hlines : u2.lines = s.lines ∧ u2.tanks = s.tanks ∧ u2.handoffs = s.handoffs ∧ u2.uptime = s.uptime := by
    rw [hu2, hjudge, ← hx]
    exact ⟨rfl, rfl, rfl, rfl⟩
  obtain ⟨hl1, hl2, hl3, hl4⟩ := hlines
  have htu : t.lines = u.lines ∧ t.tanks = u.tanks ∧ t.handoffs = u.handoffs ∧ t.supply = u.supply := by
    rw [h2]
    exact ⟨rfl, rfl, rfl, rfl⟩
  obtain ⟨hu1, hu2', hu3, hu4⟩ := htu
  refine ⟨t, h1, h3, by rw [hnew]; exact hframe, ?_, fun hno => ?_, fun ha hnot => ?_, fun ha hhold hreport => ?_⟩
  · refine hjudged.congr (fun _ => Iff.rfl) ?_ ?_ ?_ ht3.symm ?_ ?_ ?_
    · rw [← hx]; rfl
    · rw [← hx]; rfl
    · rw [ht1, hvstore.1]
    · rw [ht2, hvstore.2]
    · rw [ht1, hvstore.1]
    · rw [ht1, hvstore.1]
  · have hu := hsame hno
    refine ⟨by rw [hu1, hu, hl1], by rw [hu2', hu, hl2], by rw [hu3, hu, hl3], fun room => ?_⟩
    have hqueued := hreports.queued (State.roomFor.takes (show v.roomFor 1 by unfold State.roomFor; rw [hjlink]; exact room)
      (zoneChanges_length ..))
    have hreported := (h5 _ (show Queued (reloadT1 s) u _ by unfold Queued at hqueued ⊢; rw [hu, hqueued, hjlink])).reports
    rw [hreported, zoneChanges_cons]
    have htz : v.zoneState z = t.zoneState z := by
      unfold State.zoneState State.latched State.warned
      rw [ht1, hvstore.1, ht3]
    rw [zoneChange_congr (s := s) (s' := reloadT1 s) (t := t) (t' := v) rfl rfl htz
      (by rw [ht1, hvstore.1]) (by rw [ht1, hvstore.1]) (by rw [ht2, hvstore.2]),
      htz]
    exact congrArg (s.reportsOut ++ ·) (List.append_nil _)
  · exact (hroute ha hnot).congr hl1 hl2 hl3 hl4 hu1.symm hu2'.symm hu3.symm hu4.symm
  · have hu := hunroute ha hhold hreport
    have hsteps := unrouteHold_steps z u2
    rw [← hu] at hsteps
    have hline (l : LineId) : u2.line l = s.line l := by unfold State.line; rw [hl1]
    refine ⟨?_, ?_, fun l => ?_⟩
    · rw [hu2', hsteps.state, hl2]
    · rw [hu3, hsteps.state, hl3, List.append_nil]
    · have htl : t.line l = u.line l := by unfold State.line; rw [hu1]
      rw [htl, hsteps.lines]
      unfold State.live
      rw [hline]
      rfl

end

end Sys2Proof.Machine
end

section
/-! PROOFS. The scanner, the reports of gauges, and what a change of a gauge's fault does to the lines (R140, R151, R152). -/

namespace Sys2Proof.Machine

section
variable {s t u w before : State} {g : GaugeId} {z y : ZoneId} {rs qs : List Report} {e : HeaveEvent} {l : LineId} {v : Live}
  {acts : List (LineId × LineAction)}

/-! ### The scanner (R140) -/

/-- The gauges in the order in which the scanner comes to them from gauge `g`. -/
def scanOrder (g : GaugeId) : List GaugeId :=
  allGauges.filter (fun x => decide (g < x)) ++ allGauges.filter (fun x => decide (x ≤ g))

theorem mem_scanOrder (g x : GaugeId) : x ∈ scanOrder g := by
  unfold scanOrder
  rcases lt_or_ge g x with h | h
  · exact List.mem_append_left _ (List.mem_filter.2 ⟨mem_allGauges x, decide_eq_true h⟩)
  · exact List.mem_append_right _ (List.mem_filter.2 ⟨mem_allGauges x, decide_eq_true h⟩)

theorem scanOrder_sorted : ∀ g : GaugeId, (scanOrder g).Pairwise (fun a b => (a - g - 1).val ≤ (b - g - 1).val) := by
  decide

/-- The first of a sorted list that satisfies `p` is the least. -/
theorem find_least {α : Type} {r : α → α → Prop} (hr : ∀ a, r a a) (p : α → Bool) {n : α} (as : List α) (hs : as.Pairwise r)
    (hn : as.find? p = some n) : p n = true ∧ ∀ m ∈ as, p m = true → r n m := by
  induction as with
  | nil => cases hn
  | cons a rest ih =>
    obtain ⟨ha, hrest⟩ := List.pairwise_cons.1 hs
    rw [List.find?_cons] at hn
    cases hp : p a with
    | true =>
      rw [hp] at hn
      cases hn
      refine ⟨hp, fun m hm _ => ?_⟩
      rcases List.mem_cons.1 hm with rfl | hm
      · exact hr _
      · exact ha m hm
    | false =>
      rw [hp] at hn
      obtain ⟨h1, h2⟩ := ih hrest hn
      refine ⟨h1, fun m hm hpm => ?_⟩
      rcases List.mem_cons.1 hm with rfl | hm
      · rw [hp] at hpm; cases hpm
      · exact h2 m hm hpm

theorem movedOn_of_scan (h : t.scan = dwellOn (t.nextGauge g)) : t.movedOn g := by
  have hnext : t.nextGauge g = (scanOrder g).find? (fun x => (t.gaugeCfg x).enabled) := rfl
  rw [hnext] at h
  cases hn : (scanOrder g).find? (fun x => (t.gaugeCfg x).enabled) with
  | none =>
    rw [hn] at h
    refine .inl ⟨h, fun n => ?_⟩
    exact Bool.eq_false_iff.2 (List.find?_eq_none.1 hn n (mem_scanOrder g n))
  | some n =>
    rw [hn] at h
    obtain ⟨h1, h2⟩ := find_least (fun a => le_refl (a - g - 1).val) _ _ (scanOrder_sorted g) hn
    exact .inr ⟨n, h, h1, fun m hm => h2 m (mem_scanOrder g m) hm⟩

/-! ### The reports of gauges (R152) -/

theorem gaugeChange_congr {s' t' : State} (hup : s'.uptime = s.uptime) (hgauge : t'.gauge g = t.gauge g) (z : ZoneId) (e : HeaveEvent)
    (acts : List (LineId × LineAction)) : gaugeChange s' t' g z e acts = gaugeChange s t g z e acts := by
  unfold gaugeChange
  rw [hup, hgauge]

theorem Reports.gaugeReport (h : Reports s u rs) (hup : before.uptime = s.uptime) (g : GaugeId) (z : ZoneId) (e : HeaveEvent)
    (acts : List (LineId × LineAction)) :
    Reports s (Sys2Proof.Machine.gaugeReport g e z before acts u)
      (rs ++ if (before.gauge g).fault = (s.gauge g).fault then [] else [gaugeChange before s g z e acts]) := by
  have hgauge : u.gauge g = s.gauge g := by rw [h.state]; rfl
  have hreport : Sys2Proof.Machine.gaugeReport g e z before acts u =
      if (before.gauge g).fault = (s.gauge g).fault then u else u.report (gaugeChange before s g z e acts) := by
    have huptime : u.uptime = before.uptime := by rw [hup, h.state]; rfl
    unfold Sys2Proof.Machine.gaugeReport gaugeChange
    rw [huptime, hgauge]
  rw [hreport]
  split
  · rw [List.append_nil]; exact h
  · exact h.report _

/-! ### What is queued, and what follows it -/

/-- Reports queued stand behind those before, and whatever the lines then report stands behind them. -/
theorem LinesActed.reportsOut (h : LinesActed u w) (hq : Queued s u rs) : ∃ qs, w.reportsOut = s.reportsOut ++ rs ++ qs := by
  obtain ⟨qs, hqs⟩ := h.grows
  refine ⟨qs, ?_⟩
  unfold Queued at hq
  unfold State.reportsOut
  rw [h.link, hq, ← hqs, hq]
  simp

/-! ### A change of a gauge's fault (R151) -/

theorem gaugeClear_eq (s : State) :
    s.gaugeClear = allLines.filter (fun l => s.holdsCause l .gauge && (s.ctx l).any s.faultFree) := by
  unfold State.gaugeClear
  refine List.filter_congr fun l _ => ?_
  congr 2
  funext c
  unfold State.faultFree
  rw [List.all_eq_not_any_not]
  simp only [Bool.not_not]

/-- The lines that a cleared fault releases, named by zone. -/
theorem onZone_gaugeClear (s : State) (z : ZoneId) :
    s.onZone z (s.gaugeClear.map (fun l => (l, LineAction.gaugeReleased))) = s.gaugeReleases s z := by
  unfold State.onZone State.gaugeReleases
  rw [gaugeClear_eq, List.filter_map, List.filter_filter]
  congr 1
  refine List.filter_congr fun l _ => ?_
  dsimp only [Function.comp]
  cases s.ctx l with
  | none => simp
  | some c =>
    simp only [Option.any_some]
    cases hasZone c.zones z <;> cases s.holdsCause l .gauge <;> simp

theorem gaugeReleases_congr {s' t' : State} (hlines : s'.lines = s.lines) (hcfg : t'.store.gaugeCfg = t.store.gaugeCfg)
    (hgauges : t'.gauges = t.gauges) (z : ZoneId) : s'.gaugeReleases t' z = s.gaugeReleases t z := by
  have hfree (c : Context) : t'.faultFree c = t.faultFree c := by
    unfold State.faultFree State.zoneFault State.faultedGauges State.gaugesOf State.gauge State.gaugeCfg
    rw [hcfg, hgauges]
  have hlive (l : LineId) : s'.live l = s.live l := by unfold State.live State.line; rw [hlines]
  unfold State.gaugeReleases State.holdsCause State.ctx
  simp only [hlive, hfree]

/-- The lines of a zone are all its actions name. -/
theorem onZone_linesOf (s : State) (z : ZoneId) (f : LineId → Option LineAction) :
    s.onZone z ((s.linesOf z).filterMap (fun l => (f l).map (fun a => (l, a)))) =
      (s.linesOf z).filterMap (fun l => (f l).map (fun a => (l, a))) := by
  unfold State.onZone
  refine List.filter_eq_self.2 fun p hp => ?_
  obtain ⟨l, hl, hmap⟩ := List.mem_filterMap.1 hp
  cases hf : f l with
  | none => rw [hf] at hmap; cases hmap
  | some a =>
    rw [hf] at hmap
    cases hmap
    exact (List.mem_filter.1 hl).2

/-- What a change of a gauge's fault does to the lines. -/
theorem actOnFaultChange_cases (g : GaugeId) (z : ZoneId) (before s : State) :
    LinesActed s (actOnFaultChange g z before s) ∧
      ((before.gauge g).fault = (s.gauge g).fault → actOnFaultChange g z before s = s) ∧
      ((s.gauge g).fault = true → (before.gauge g).fault = false →
        HeldOn s (actOnFaultChange g z before s) (fun c => hasZone c.zones z) (fun h => { h with gauge := true })) ∧
      ((s.gauge g).fault = false → (before.gauge g).fault = true →
        ReleasedOn s (actOnFaultChange g z before s) s.faultFree .gauge) := by
  unfold actOnFaultChange
  by_cases hsame : (before.gauge g).fault = (s.gauge g).fault
  · rw [if_pos hsame]
    refine ⟨.refl s, fun _ => rfl, fun h1 h2 => ?_, fun h1 h2 => ?_⟩
    · rw [h1, h2] at hsame; cases hsame
    · rw [h1, h2] at hsame; cases hsame
  · rw [if_neg hsame]
    cases hfault : (s.gauge g).fault with
    | true =>
      have hsteps := impose_steps s (fun c => hasZone c.zones z) .gauge (fun h => { h with gauge := true })
      rw [← linesOf_eq] at hsteps
      exact ⟨hsteps.acted, fun h => absurd (h.trans hfault.symm) hsame, fun _ _ => hsteps.heldOn, nofun⟩
    | false =>
      have hsteps := release_steps s s.faultFree .gauge .gaugeClear
      rw [← gaugeClear_eq] at hsteps
      exact ⟨hsteps.acted, fun h => absurd (h.trans hfault.symm) hsame, nofun, fun _ _ => hsteps.releasedOn⟩

end

end Sys2Proof.Machine
end

section
/-! PROOFS. GAUGECFG (R139, R140, R146, R151, R152). -/

namespace Sys2Proof.Machine

section
variable {s t u w v before : State} {g : GaugeId} {y z : ZoneId} {rs qs : List Report} {new : GaugeCfg} {zs : List ZoneId}

/-! ### The zones judged -/

theorem zonesToJudge_nodup (y z : ZoneId) : (zonesToJudge y z).Nodup := (by decide : allZones.Nodup).filter _

theorem zonesToJudge_length : ∀ y z : ZoneId, (zonesToJudge y z).length ≤ 2 := by decide

theorem mem_zonesToJudge {x : ZoneId} : x ∈ zonesToJudge y z ↔ x = y ∨ x = z := by
  unfold zonesToJudge
  rw [List.mem_filter, Bool.or_eq_true_iff, beq_iff_eq, beq_iff_eq]
  exact and_iff_right (mem_allZones x)

theorem zonesStarted_iff : s.zonesStarted y z = true ↔ ∃ l v, s.live l = some v ∧ v.phase.started = true ∧
    (hasZone v.ctx.zones y = true ∨ hasZone v.ctx.zones z = true) := by
  unfold State.zonesStarted
  rw [Bool.or_eq_true_iff, zoneStarted_iff, zoneStarted_iff]
  constructor
  · rintro (⟨l, v, hv, hp, hz⟩ | ⟨l, v, hv, hp, hz⟩)
    · exact ⟨l, v, hv, hp, .inl hz⟩
    · exact ⟨l, v, hv, hp, .inr hz⟩
  · rintro ⟨l, v, hv, hp, hz | hz⟩
    · exact .inl ⟨l, v, hv, hp, hz⟩
    · exact .inr ⟨l, v, hv, hp, hz⟩

theorem zoneChanges_nil {e : HeaveEvent} {acts : ZoneId → List (LineId × LineAction)}
    (h : ∀ z, s.zoneState z = t.zoneState z) (zs : List ZoneId) : zoneChanges s t zs e acts = [] := by
  unfold zoneChanges
  simp [h]

/-! ### What GAUGECFG makes of the gauge -/

/-- The part with the gauge's record and measurements written, and the scanner following (R139, R140). -/
def State.rewritten (s : State) (g : GaugeId) (new : GaugeCfg) : State :=
  { s with
    store := { s.store with gaugeCfg := s.store.gaugeCfg.set g new }
    gauges := s.gauges.set g ((s.gauge g).reconfigured (s.gaugeCfg g) new)
    scan := ((s.setGaugeCfg g new).setGauge g ((s.gauge g).reconfigured (s.gaugeCfg g) new)).rescan g }

theorem rewritten_gauge : (s.rewritten g new).gauge g = (s.gauge g).reconfigured (s.gaugeCfg g) new := getElem_set_same ..

/-- A fault stays as it is, or is cleared. -/
theorem reconfigured_fault (x : Gauge) (old new : GaugeCfg) :
    (x.reconfigured old new).fault = x.fault ∨ ((x.reconfigured old new).fault = false ∧ x.fault = true) := by
  unfold Gauge.reconfigured
  split
  · cases h : x.fault with
    | false => exact .inl rfl
    | true => exact .inr ⟨rfl, rfl⟩
  · exact .inl rfl

theorem reconfigured_write (x : Gauge) (old : GaugeCfg) (en : Bool) (z : ZoneId) (sp : Nat) :
    x.reconfigured old (old.write en z sp) =
      if old.zone ≠ z ∨ old.span ≠ sp ∨ old.enabled = true ∧ en = false then
        { reading := none, fault := false, rail := 0, trips := 0 }
      else x := by
  unfold Gauge.reconfigured GaugeCfg.write
  simp only [Bool.not_eq_true']
  rfl

theorem rewritten_scan (s : State) (g : GaugeId) (new : GaugeCfg) :
    (s.scan = none → (s.rewritten g new).scan = if new.enabled then some { gauge := g, left := Config.dwellTime } else none) ∧
      (∀ x, s.scan = some x → x.gauge = g → new.enabled = false → (s.rewritten g new).movedOn g) ∧
      ∀ x, s.scan = some x → (x.gauge ≠ g ∨ new.enabled = true) → (s.rewritten g new).scan = some x := by
  obtain ⟨w, hw⟩ : ∃ w, (s.setGaugeCfg g new).setGauge g ((s.gauge g).reconfigured (s.gaugeCfg g) new) = w := ⟨_, rfl⟩
  have hcfg : w.gaugeCfg g = new := by rw [← hw]; exact getElem_set_same ..
  have hscan : w.scan = s.scan := by rw [← hw]; rfl
  have hrescan : (s.rewritten g new).scan = w.rescan g := by rw [← hw]; rfl
  have hnext : (s.rewritten g new).nextGauge g = w.nextGauge g := by rw [← hw]; rfl
  unfold State.rescan at hrescan
  rw [hcfg, hscan] at hrescan
  refine ⟨fun h => ?_, fun x h hx hen => ?_, fun x h hx => ?_⟩
  · rw [hrescan, h]
    rfl
  · rw [h] at hrescan
    dsimp only at hrescan
    rw [if_pos ⟨hx, by rw [hen]; rfl⟩] at hrescan
    exact movedOn_of_scan (hrescan.trans (by rw [hnext]))
  · rw [h] at hrescan
    dsimp only at hrescan
    rw [if_neg] at hrescan
    · exact hrescan
    · rintro ⟨hgauge, hen⟩
      rcases hx with hx | hx
      · exact hx hgauge
      · rw [hx] at hen
        cases hen

/-! ### Its reports and the lines it acts on -/

theorem faultChangeActions_same (h : (before.gauge g).fault = (s.gauge g).fault) : faultChangeActions g z before s = [] := if_pos h

theorem faultChangeActions_cleared (h : (s.gauge g).fault = false) (h' : (before.gauge g).fault = true) :
    faultChangeActions g z before s = s.gaugeClear.map (fun l => (l, .gaugeReleased)) := by
  unfold faultChangeActions
  rw [h, h', if_neg nofun, if_neg nofun]

theorem Reports.gauge_eq (h : Reports s u rs) : u.gauge g = s.gauge g := by rw [h.state]; rfl

/-- What stands when GAUGECFG has written the record and judged the zones: their reports and the release of GAUGE follow. -/
theorem configured_acts (hup : before.uptime = v.uptime) (y : ZoneId) (zs : List ZoneId)
    (hu : actOnFaultChange g y before
      (zs.foldl (fun x z => zoneReport z .gaugecfg before (v.onZone z (faultChangeActions g y before v)) x)
        (gaugeReport g .gaugecfg y before (v.onZone y (faultChangeActions g y before v)) v)) = u) :
    LinesActed v u ∧
      ((v.gauge g).fault = (before.gauge g).fault → Reports v u (zoneChanges before v zs .gaugecfg (fun _ => []))) ∧
      ((v.gauge g).fault = false → (before.gauge g).fault = true →
        ReleasedOn v u v.faultFree .gauge ∧
        (v.roomFor 1 → ∃ rs, u.reportsOut = v.reportsOut ++ gaugeChange before v g y .gaugecfg (v.gaugeReleases v y) :: rs) ∧
        (v.roomFor (1 + zs.length) → ∃ rs, u.reportsOut = v.reportsOut ++
          gaugeChange before v g y .gaugecfg (v.gaugeReleases v y) ::
            zoneChanges before v zs .gaugecfg (v.gaugeReleases v) ++ rs)) := by
  have hgauge := (Reports.refl v).gaugeReport hup g y .gaugecfg (v.onZone y (faultChangeActions g y before v))
  have hzones := hgauge.zoneReports hup zs .gaugecfg (fun z => v.onZone z (faultChangeActions g y before v))
  have hgrows : LinesActed (gaugeReport g .gaugecfg y before (v.onZone y (faultChangeActions g y before v)) v)
      (zs.foldl (fun x z => zoneReport z .gaugecfg before (v.onZone z (faultChangeActions g y before v)) x)
        (gaugeReport g .gaugecfg y before (v.onZone y (faultChangeActions g y before v)) v)) :=
    ((Reports.refl _).zoneReports (by rw [hup, hgauge.state]; rfl) zs .gaugecfg _).acted
  generalize gaugeReport g .gaugecfg y before (v.onZone y (faultChangeActions g y before v)) v = v4 at *
  generalize zs.foldl (fun x z => zoneReport z .gaugecfg before (v.onZone z (faultChangeActions g y before v)) x) v4 = v5 at *
  obtain ⟨hacted, hsame, _, hcleared⟩ := actOnFaultChange_cases g y before v5
  rw [hu] at hacted hsame hcleared
  rw [hzones.gauge_eq] at hsame hcleared
  refine ⟨hzones.acted.trans hacted, fun hfault => ?_, fun hfault hbefore => ?_⟩
  · rw [hsame hfault.symm]
    rw [if_pos hfault.symm, faultChangeActions_same hfault.symm] at hzones
    exact hzones
  · have hdiffer : ¬(before.gauge g).fault = (v.gauge g).fault := by rw [hfault, hbefore]; nofun
    have hacts (z : ZoneId) : v.onZone z (faultChangeActions g y before v) = v.gaugeReleases v z := by
      rw [faultChangeActions_cleared hfault hbefore, onZone_gaugeClear]
    rw [if_neg hdiffer, hacts] at hgauge
    rw [if_neg hdiffer] at hzones
    simp only [hacts] at hzones
    refine ⟨?_, fun room => ?_, fun room => ?_⟩
    · have hfree : v5.faultFree = v.faultFree := by rw [hzones.state]; rfl
      rw [hfree] at hcleared
      exact (hcleared hfault hbefore).congr (by rw [hzones.state]) (by rw [hzones.state]) (by rw [hzones.state])
        (by rw [hzones.state]) rfl rfl rfl
    · obtain ⟨qs, hqs⟩ := (hgrows.trans hacted).reportsOut (hgauge.queued (room.takes (by simp)))
      exact ⟨qs, by rw [hqs]; simp⟩
    · obtain ⟨qs, hqs⟩ := hacted.reportsOut (hzones.queued (room.takes (by
        have hlen := zoneChanges_length (s := before) (t := v) (e := .gaugecfg) zs (fun z => v.gaugeReleases v z)
        simp only [List.nil_append, List.length_append, List.length_cons, List.length_nil]
        omega)))
      exact ⟨qs, by rw [hqs]; simp⟩

/-! ### The statement -/

theorem configureGauge_eq (g : GaugeId) (new : GaugeCfg) (s : State) :
    configureGauge g new s =
      let zs := zonesToJudge (s.gaugeCfg g).zone new.zone
      let v := judgeZones zs (s.rewritten g new)
      actOnFaultChange g (s.gaugeCfg g).zone s
        (zs.foldl (fun x z => zoneReport z .gaugecfg s (v.onZone z (faultChangeActions g (s.gaugeCfg g).zone s v)) x)
          (gaugeReport g .gaugecfg (s.gaugeCfg g).zone s
            (v.onZone (s.gaugeCfg g).zone (faultChangeActions g (s.gaugeCfg g).zone s v)) v)) := rfl

theorem flagOf_none {n : Nat} (h : ¬(n = 0 ∨ n = 1)) : flagOf n = none := by
  unfold flagOf
  split
  · exact absurd (.inl rfl) h
  · exact absurd (.inr rfl) h
  · rfl

theorem reqGaugecfg_range {gauge enabled zone span : Nat}
    (h : ¬(1 ≤ gauge ∧ gauge ≤ 16 ∧ (enabled = 0 ∨ enabled = 1) ∧ 1 ≤ zone ∧ zone ≤ 4)) :
    reqGaugecfg gauge enabled zone span s = deny s .range := by
  unfold reqGaugecfg
  by_cases hg : 1 ≤ gauge ∧ gauge ≤ 16
  · by_cases he : enabled = 0 ∨ enabled = 1
    · rw [zoneOf_none (not_inRange_iff.2 fun hz => h ⟨hg.1, hg.2, he, hz⟩)]
      cases gaugeOf gauge <;> cases flagOf enabled <;> rfl
    · rw [flagOf_none he]
      cases gaugeOf gauge <;> rfl
  · rw [gaugeOf_none (not_inRange_iff.2 hg)]

/-- GAUGECFG with all its numbers in range (R139). -/
theorem reqGaugecfg_val (g : GaugeId) (z : ZoneId) {enabled span : Nat} {en : Bool} (hen : flagOf enabled = some en) (s : State) :
    reqGaugecfg (g.val + 1) enabled (z.val + 1) span s =
      let sp := max 1000 (min span 10000)
      let old := s.gaugeCfg g
      if old.enabled = en ∧ old.zone = z ∧ old.span = sp then acceptAdjusted s (decide (sp ≠ span)) (u16 sp)
      else if (old.enabled || en) && s.zonesStarted old.zone z then deny s .inUse
      else acceptAdjusted (configureGauge g (old.write en z sp) s) (decide (sp ≠ span)) (u16 sp) := by
  unfold reqGaugecfg
  rw [gaugeOf_val, zoneOf_val, hen, clampN_eq (by decide)]

/-- What an accepted GAUGECFG that changes the record leaves (R139, R140, R146, R151, R152). -/
theorem gaugecfg_writes (hl : s.Listening) {kind : Byte} {c : Instr} (hk : requestKind c = some kind) {reply : Reply}
    (new : GaugeCfg) (hf : handle c (reloadT1 s) = (configureGauge g new (reloadT1 s), reply)) :
    let old := s.gaugeCfg g
    let judged := zonesToJudge old.zone new.zone
    ∃ t, exec c s = .next t ∧ AnsweredBy s t (kind + 0x80) (requestTag c) reply.result reply.body ∧
      t = { s with
        store := { s.store with gaugeCfg := s.store.gaugeCfg.set g new }
        gauges := s.gauges.set g ((s.gauge g).reconfigured old new)
        zoneWarn := t.zoneWarn, scan := t.scan, lines := t.lines, handoffs := t.handoffs, link := t.link } ∧
      t.scan = (s.rewritten g new).scan ∧
      Judged s t (fun y => y = old.zone ∨ y = new.zone) ∧
      ((t.gauge g).fault = (s.gauge g).fault →
        t.lines = s.lines ∧ t.handoffs = s.handoffs ∧
          ((∀ y, t.zoneState y = s.zoneState y) → t.reportsOut = s.reportsOut) ∧
          (s.roomFor 2 → Answered s t (kind + 0x80) (requestTag c) reply.result reply.body
            (zoneChanges s t judged .gaugecfg (fun _ => [])))) ∧
      ((s.gauge g).fault = true → (t.gauge g).fault = false →
        ReleasedOn s t t.faultFree .gauge ∧
          (s.roomFor 1 → ∃ rs, t.reportsOut = s.reportsOut ++
            gaugeChange s t g old.zone .gaugecfg (s.gaugeReleases t old.zone) :: rs) ∧
          (s.roomFor 3 → ∃ rs, t.reportsOut = s.reportsOut ++
            gaugeChange s t g old.zone .gaugecfg (s.gaugeReleases t old.zone) ::
              zoneChanges s t judged .gaugecfg (s.gaugeReleases t) ++ rs)) := by
  intro old judged
  have hcongr : judged = zonesToJudge old.zone new.zone := rfl
  clear_value judged
  have hmem (y : ZoneId) : y ∈ judged ↔ y = old.zone ∨ y = new.zone := by rw [hcongr]; exact mem_zonesToJudge
  have hlen : judged.length ≤ 2 := by rw [hcongr]; exact zonesToJudge_length ..
  have hnodup : judged.Nodup := by rw [hcongr]; exact zonesToJudge_nodup ..
  obtain ⟨w, hw⟩ : ∃ w, (reloadT1 s).rewritten g new = w := ⟨_, rfl⟩
  have hjudged := judgeZones_judged judged hnodup w
  have hv := judgeZones_eq judged w
  obtain ⟨v, hvdef⟩ : ∃ v, judgeZones judged w = v := ⟨_, rfl⟩
  rw [hvdef] at hjudged hv
  have hwgauge : w.gauge g = (s.gauge g).reconfigured old new := by rw [← hw]; exact rewritten_gauge
  have hvgauge : v.gauge g = w.gauge g := by rw [hv]; rfl
  obtain ⟨hacted, hsame, hcleared⟩ := configured_acts (before := reloadT1 s) (v := v) (g := g) (by rw [hv, ← hw]; rfl) old.zone judged rfl
  have hu : configureGauge g new (reloadT1 s) = _ := configureGauge_eq ..
  dsimp only at hu
  rw [hw, show ((reloadT1 s).gaugeCfg g).zone = old.zone from rfl, ← hcongr, hvdef] at hu
  rw [← hu] at hacted hsame hcleared
  have hvlink : v.link = (reloadT1 s).link := by rw [hv, ← hw]; rfl
  obtain ⟨t, h1, h2, h3, h4, h5⟩ := request_closed (kind := kind + 0x80) hl hk rfl hf (by rw [hacted.link, hvlink])
  have hstate := hacted.state
  generalize configureGauge g new (reloadT1 s) = u at *
  have hgauge : t.gauge g = v.gauge g := by rw [h2, hstate]; rfl
  have hrest : v.lines = s.lines ∧ v.tanks = s.tanks ∧ v.handoffs = s.handoffs ∧ v.store.reserve = s.store.reserve := by
    rw [hv, ← hw]
    exact ⟨rfl, rfl, rfl, rfl⟩
  obtain ⟨hvlines, hvtanks, hvhanded, hvreserve⟩ := hrest
  have hafter : t.store = v.store ∧ t.gauges = v.gauges ∧ t.zoneWarn = v.zoneWarn ∧ t.lines = u.lines ∧ t.tanks = u.tanks ∧
      t.handoffs = u.handoffs := by
    rw [h2, hstate]
    exact ⟨rfl, rfl, rfl, rfl, rfl, rfl⟩
  obtain ⟨htstore, htgauges, htwarn, htlines, httanks, hthanded⟩ := hafter
  have hvstate (y : ZoneId) : v.zoneState y = t.zoneState y := by
    unfold State.zoneState State.latched State.warned
    rw [htstore, htwarn]
  have hchanges (acts : ZoneId → List (LineId × LineAction)) :
      zoneChanges (reloadT1 s) v judged .gaugecfg acts = zoneChanges s t judged .gaugecfg acts :=
    zoneChanges_congr judged (fun _ => rfl) rfl hvstate (by rw [htstore]) (by rw [htstore]) htgauges.symm .gaugecfg acts
  have hchange (acts : List (LineId × LineAction)) :
      gaugeChange (reloadT1 s) v g old.zone .gaugecfg acts = gaugeChange s t g old.zone .gaugecfg acts :=
    gaugeChange_congr rfl hgauge.symm ..
  have hreleases : v.gaugeReleases v = s.gaugeReleases t :=
    funext (gaugeReleases_congr hvlines (by rw [htstore]) htgauges.symm)
  have hout : t.reportsOut = u.reportsOut := h4
  rw [← hgauge] at hsame hcleared
  rw [show ((reloadT1 s).gauge g).fault = (s.gauge g).fault from rfl] at hsame hcleared
  have htanks : u.tanks = s.tanks := by
    rcases reconfigured_fault (s.gauge g) old new with h | ⟨h, h'⟩
    · exact (congrArg State.tanks (hsame (by rw [hgauge, hvgauge, hwgauge, h])).state).trans hvtanks
    · exact (hcleared (by rw [hgauge, hvgauge, hwgauge, h]) h').1.tanks.trans hvtanks
  refine ⟨t, h1, h3, ?_, ?_, ?_, fun hfault => ?_, fun hbefore hfault => ?_⟩
  · have hall : t = { w with
        zoneWarn := t.zoneWarn, scan := t.scan, lines := t.lines, tanks := u.tanks, handoffs := t.handoffs
        link := t.link } := by
      rw [h2, hstate, hv]
    rw [htanks, ← hw] at hall
    exact hall
  · rw [h2, hstate, hv, ← hw]
    rfl
  · refine hjudged.congr (fun y => (hmem y).symm) ?_ ?_ (by rw [htstore]) htwarn.symm htgauges.symm (by rw [htstore]) (by rw [htstore])
    · rw [← hw]; rfl
    · rw [← hw]; rfl
  · have hreports := hsame hfault
    have hu := hreports.state
    refine ⟨?_, ?_, fun hstates => ?_, fun room => ?_⟩
    · rw [htlines, hu, hvlines]
    · rw [hthanded, hu, hvhanded]
    · rw [hchanges, zoneChanges_nil (fun y => (hstates y).symm)] at hreports
      have hqueued := hreports.queued (fun hne => absurd rfl hne)
      have hanswered := h5 [] (by unfold Queued at hqueued ⊢; rw [hqueued, hvlink])
      exact hanswered.reports.trans (List.append_nil _)
    · have hqueued := hreports.queued (State.roomFor.takes
        (show v.roomFor 2 by unfold State.roomFor; rw [hvlink]; exact room) ((zoneChanges_length ..).trans hlen))
      rw [hchanges] at hqueued
      exact h5 _ (by unfold Queued at hqueued ⊢; rw [hqueued, hvlink])
  · obtain ⟨hreleased, hone, hthree⟩ := hcleared hfault hbefore
    have hvroom {n : Nat} (room : s.roomFor n) : v.roomFor n := by unfold State.roomFor; rw [hvlink]; exact room
    have hvout : v.reportsOut = s.reportsOut := by unfold State.reportsOut; rw [hvlink]; rfl
    rw [hvout, hreleases, hchange] at hone hthree
    rw [hchanges] at hthree
    refine ⟨?_, fun room => ?_, fun room => ?_⟩
    · have hfree : t.faultFree = v.faultFree := by rw [h2, hstate]; rfl
      rw [hfree]
      exact hreleased.congr hvlines hvtanks hvhanded hvreserve htlines.symm httanks.symm hthanded.symm
    · rw [hout]
      exact hone (hvroom room)
    · rw [hout]
      exact hthree (hvroom (room.mono (by omega)))

/-- Settles O48: the record written, what was measured cleared, a cleared fault released, and the zones judged and reported. -/
theorem gaugecfgWritesTheGauge : Obligations.GaugecfgWritesTheGauge := by
  intro s tag gauge enabled zone span hl c sp res
  refine ⟨fun h => .denied hl rfl rfl (reqGaugecfg_range h), fun g z en hgauge hzone hen => ?_⟩
  subst hgauge hzone
  intro old same judged guarding
  have hf : handle c (reloadT1 s) = _ := reqGaugecfg_val g z hen (reloadT1 s)
  dsimp only at hf
  have hres {a : State} : acceptAdjusted a (decide (sp ≠ span)) (u16 sp) = (a, { result := res, body := u16 sp }) := by
    unfold acceptAdjusted
    by_cases h : sp = span <;> simp [h, res]
  have hguarding : guarding ↔ ((old.enabled || en) && s.zonesStarted old.zone z) = true := by
    rw [Bool.and_eq_true_iff, Bool.or_eq_true_iff, zonesStarted_iff]
  refine ⟨fun h => ?_, fun h hguard => ?_, fun h hfree => ?_⟩
  · exact .of_handle hl rfl rfl ((hf.trans (if_pos h)).trans hres)
  · exact .denied hl rfl rfl ((hf.trans (if_neg h)).trans (if_pos (hguarding.1 hguard)))
  · have hf' := ((hf.trans (if_neg h)).trans (if_neg (mt hguarding.2 hfree))).trans hres
    obtain ⟨t, h1, h2, h3, h4, h5, h6⟩ := gaugecfg_writes hl (kind := 0x12) rfl _ hf'
    obtain ⟨hidle, hmoved, hkept⟩ := rewritten_scan s g (old.write en z sp)
    have hcfg : t.gaugeCfg = (s.rewritten g (old.write en z sp)).gaugeCfg := by rw [h3]; rfl
    refine ⟨t, h1, h2, ?_, h5, fun h => h4.trans (hidle h), fun x hx hg hoff => ?_, fun x hx hg => h4.trans (hkept x hx hg), h6⟩
    · rw [← reconfigured_write]
      exact h3
    · obtain ⟨a, b⟩ | ⟨n, a, b, c⟩ := hmoved x hx hg hoff
      · exact .inl ⟨h4.trans a, by rw [hcfg]; exact b⟩
      · exact .inr ⟨n, h4.trans a, by rw [hcfg]; exact b, by rw [hcfg]; exact c⟩

end

end Sys2Proof.Machine
end

section
/-! PROOFS. A conversion (R140, R141, R145, R147, R149, R151, R152). -/

namespace Sys2Proof.Machine

section
variable {s t u w v before : State} {g : GaugeId} {y z : ZoneId} {rs qs : List Report} {count : Nat}
  {acts : List (LineId × LineAction)}

/-! ### What a conversion makes of the gauge and its zone (R141, R145, R147) -/

theorem isRail_iff : isRail count = true ↔ count = 0 ∨ count = 65535 := by
  unfold isRail
  rw [Bool.or_eq_true_iff, beq_iff_eq, beq_iff_eq]

theorem convert_rail (h : isRail count = true) (s : State) (g : GaugeId) : s.convert g count =
    { s.gauge g with rail := 1, trips := 0, fault := decide ((s.gauge g).fault = true ∨ (s.gauge g).rail = 1) } := by
  unfold State.convert Gauge.railed
  rw [if_pos h]
  congr 1
  rw [Bool.decide_or]
  cases (s.gauge g).fault <;> rfl

theorem convert_reading (h : ¬isRail count = true) (s : State) (g : GaugeId) : s.convert g count =
    { reading := some (readingOf (s.gaugeCfg g).span count), fault := false, rail := 0
      trips := tripsAfter (s.gauge g).trips (readingOf (s.gaugeCfg g).span count - (s.gaugeCfg g).baseline)
        (s.zoneCfg (s.gaugeCfg g).zone).trip } := if_neg h

/-- A conversion trips its zone where it moves the count from 1 to 2 and the zone is not in TRIP (R147). -/
theorem tripsZone_iff : tripsZone s g (s.convert g count) = true ↔
    ¬isRail count = true ∧
      ((s.zoneCfg (s.gaugeCfg g).zone).trip : Int) ≤ readingOf (s.gaugeCfg g).span count - (s.gaugeCfg g).baseline ∧
      (s.gauge g).trips = 1 ∧ s.latched (s.gaugeCfg g).zone = false := by
  unfold tripsZone
  rw [Bool.and_eq_true_iff, Bool.and_eq_true_iff, decide_eq_true_iff, decide_eq_true_iff, Bool.not_eq_true']
  by_cases hr : isRail count = true
  · rw [convert_rail hr]
    simp [hr]
  · rw [convert_reading hr]
    unfold tripsAfter
    constructor
    · rintro ⟨⟨hlatch, hlt⟩, htwo⟩
      dsimp only at htwo
      split at htwo
      · next hbeyond => exact ⟨hr, hbeyond, by omega, hlatch⟩
      · cases htwo
    · rintro ⟨_, hbeyond, hone, hlatch⟩
      refine ⟨⟨hlatch, by omega⟩, ?_⟩
      dsimp only
      rw [if_pos hbeyond, hone]
      rfl

/-- The part with the gauge converted, and its zone tripped or judged. -/
def State.measured (s : State) (g : GaugeId) (count : Nat) : State :=
  if tripsZone s g (s.convert g count) then latchTrip (s.gaugeCfg g).zone (s.setGauge g (s.convert g count))
  else judgeWarn (s.gaugeCfg g).zone (s.setGauge g (s.convert g count))

theorem measured_eq (s : State) (g : GaugeId) (count : Nat) : s.measured g count = { s with
    store := { s.store with tripLatch := (s.measured g count).store.tripLatch }
    gauges := s.gauges.set g (s.convert g count), zoneWarn := (s.measured g count).zoneWarn } := by
  unfold State.measured
  split
  · rfl
  · rw [judgeWarn_eq]
    rfl

theorem measured_uptime (s : State) (g : GaugeId) (count : Nat) : (s.measured g count).uptime = s.uptime := by
  rw [measured_eq]
  rfl

theorem measured_judged (h : ¬tripsZone s g (s.convert g count) = true) :
    Judged s (s.measured g count) (fun y => y = (s.gaugeCfg g).zone) := by
  unfold State.measured
  rw [if_neg h]
  exact (judgeZones_judged [(s.gaugeCfg g).zone] (List.nodup_singleton _)
    (s.setGauge g (s.convert g count))).congr (fun y => List.mem_singleton.symm)
    rfl rfl rfl rfl rfl rfl rfl

theorem measured_tripped (h : tripsZone s g (s.convert g count) = true) :
    (s.measured g count).latched (s.gaugeCfg g).zone = true ∧ (s.measured g count).warned (s.gaugeCfg g).zone = false ∧
      ∀ y, y ≠ (s.gaugeCfg g).zone →
        (s.measured g count).latched y = s.latched y ∧ (s.measured g count).warned y = s.warned y := by
  unfold State.measured
  rw [if_pos h]
  exact ⟨getElem_set_same .., getElem_set_same .., fun y hy => ⟨getElem_set_other _ _ hy, getElem_set_other _ _ hy⟩⟩

/-! ### Its reports and the lines it acts on (R149, R151, R152) -/

theorem Queued.reportsOut (h : Queued s u rs) : u.reportsOut = s.reportsOut ++ rs := by
  unfold Queued at h
  unfold State.reportsOut
  rw [h, List.append_assoc]

/-- The reports of a gauge and its zone, and the lines of a change of the gauge's fault. -/
theorem converted_acts (hup : before.uptime = v.uptime) (acts : List (LineId × LineAction))
    (hw : actOnFaultChange g z before (zoneReport z .reading before acts (gaugeReport g .reading z before acts v)) = w) :
    let ofGauge := if (before.gauge g).fault = (v.gauge g).fault then [] else [gaugeChange before v g z .reading acts]
    let ofZone := if before.zoneState z = v.zoneState z then [] else [zoneChange before v z .reading acts]
    LinesActed v w ∧ (v.takes (ofGauge ++ ofZone) → ∃ rs, w.reportsOut = v.reportsOut ++ (ofGauge ++ ofZone) ++ rs) ∧
      ((before.gauge g).fault = (v.gauge g).fault → Reports v w ofZone) ∧
      ((v.gauge g).fault = true → (before.gauge g).fault = false →
        HeldOn v w (fun c => hasZone c.zones z) (fun h => { h with gauge := true })) ∧
      ((v.gauge g).fault = false → (before.gauge g).fault = true → ReleasedOn v w v.faultFree .gauge) := by
  intro ofGauge ofZone
  have hreports := ((Reports.refl v).gaugeReport hup g z .reading acts).zoneReport hup z .reading acts
  generalize zoneReport z .reading before acts (gaugeReport g .reading z before acts v) = v4 at *
  obtain ⟨hacted, hsame, hfaulted, hcleared⟩ := actOnFaultChange_cases g z before v4
  rw [hw] at hacted hsame hfaulted hcleared
  rw [hreports.gauge_eq] at hsame hfaulted hcleared
  have hparts : v4.lines = v.lines ∧ v4.tanks = v.tanks ∧ v4.handoffs = v.handoffs ∧ v4.store = v.store ∧
      v4.faultFree = v.faultFree := by
    rw [hreports.state]
    exact ⟨rfl, rfl, rfl, rfl, rfl⟩
  obtain ⟨hlines, htanks, hhanded, hstore, hfree⟩ := hparts
  refine ⟨hreports.acted.trans hacted, fun room => hacted.reportsOut (hreports.queued room), fun h => ?_, fun h h' => ?_, fun h h' => ?_⟩
  · rw [hsame h]
    rw [if_pos h] at hreports
    exact hreports
  · exact (hfaulted h h').congr hlines htanks hhanded rfl rfl rfl
  · rw [hfree] at hcleared
    exact (hcleared h h').congr hlines htanks hhanded (by rw [hstore]) rfl rfl rfl

theorem tripActions_congr {s' : State} (hlines : s'.lines = s.lines) (hzone : s'.store.zoneCfg = s.store.zoneCfg) (z : ZoneId) :
    s'.tripActions z = s.tripActions z := by
  have hlive (l : LineId) : s'.live l = s.live l := by unfold State.live State.line; rw [hlines]
  unfold State.tripActions State.linesOf State.phase State.ctx State.zoneCfg
  simp only [hlive, hzone]

theorem faultActions_congr {s' : State} (hlines : s'.lines = s.lines) (z : ZoneId) : s'.faultActions z = s.faultActions z := by
  have hlive (l : LineId) : s'.live l = s.live l := by unfold State.live State.line; rw [hlines]
  unfold State.faultActions State.linesOf State.ctx
  simp only [hlive]

theorem onZone_tripActions (s : State) (z : ZoneId) : s.onZone z (s.tripActions z) = s.tripActions z :=
  onZone_linesOf s z fun l => (s.phase l).bind (tripAction (s.zoneCfg z).routing)

theorem onZone_faultActions (s : State) (z : ZoneId) : s.onZone z (s.faultActions z) = s.faultActions z :=
  onZone_linesOf s z fun l => (s.live l).bind faultAction

theorem faultChangeActions_new (h : (s.gauge g).fault = true) (h' : (before.gauge g).fault = false) :
    faultChangeActions g z before s = s.faultActions z := by
  unfold faultChangeActions
  rw [h, h', if_neg nofun, if_pos rfl]

theorem convertGauge_eq (g : GaugeId) (count : Nat) (s : State) :
    convertGauge g count s =
      let z := (s.gaugeCfg g).zone
      let v := s.measured g count
      let trip := tripsZone s g (s.convert g count)
      let acts := v.onZone z (faultChangeActions g z s v ++ if trip then v.tripActions z else [])
      let w := actOnFaultChange g z s (zoneReport z .reading s acts (gaugeReport g .reading z s acts v))
      if trip then routeTrip z w else w := rfl

/-- A conversion that does not trip its zone. -/
theorem convertGauge_untripped (h : ¬tripsZone s g (s.convert g count) = true) :
    let z := (s.gaugeCfg g).zone
    let v := s.measured g count
    let u := convertGauge g count s
    let ofZone := fun acts => if s.zoneState z = v.zoneState z then [] else [zoneChange s v z .reading acts]
    LinesActed v u ∧
      ((v.gauge g).fault = (s.gauge g).fault → Reports v u (ofZone [])) ∧
      ((v.gauge g).fault = true → (s.gauge g).fault = false →
        HeldOn v u (fun c => hasZone c.zones z) (fun h => { h with gauge := true }) ∧
        (v.roomFor 2 → ∃ rs, u.reportsOut = v.reportsOut ++
          (gaugeChange s v g z .reading (v.faultActions z) :: ofZone (v.faultActions z)) ++ rs)) ∧
      ((v.gauge g).fault = false → (s.gauge g).fault = true →
        ReleasedOn v u v.faultFree .gauge ∧
        (v.roomFor 2 → ∃ rs, u.reportsOut = v.reportsOut ++
          (gaugeChange s v g z .reading (v.gaugeReleases v z) :: ofZone (v.gaugeReleases v z)) ++ rs)) := by
  intro z v u ofZone
  have hup : s.uptime = v.uptime := (measured_uptime s g count).symm
  have hu : u = _ := convertGauge_eq g count s
  dsimp only at hu
  rw [if_neg h, if_neg h, List.append_nil] at hu
  obtain ⟨hacted, hout, hsame, hfaulted, hcleared⟩ := converted_acts hup (v.onZone z (faultChangeActions g z s v)) hu.symm
  have hroom (acts : List (LineId × LineAction)) (room : v.roomFor 2) : v.takes ([gaugeChange s v g z .reading acts] ++ ofZone acts) :=
    room.takes (by
      show ([gaugeChange s v g z .reading acts] ++ if _ then _ else _).length ≤ 2
      split <;> simp)
  refine ⟨hacted, fun h => ?_, fun h h' => ⟨hfaulted h h', fun room => ?_⟩, fun h h' => ⟨hcleared h h', fun room => ?_⟩⟩
  · have hnone : v.onZone z (faultChangeActions g z s v) = [] := by rw [faultChangeActions_same h.symm]; rfl
    rw [hnone] at hsame
    exact hsame h.symm
  · have hacts : v.onZone z (faultChangeActions g z s v) = v.faultActions z := by
      rw [faultChangeActions_new h h', onZone_faultActions]
    rw [if_neg (by rw [h, h']; nofun), hacts] at hout
    exact hout (hroom _ room)
  · have hacts : v.onZone z (faultChangeActions g z s v) = v.gaugeReleases v z := by
      rw [faultChangeActions_cleared h h', onZone_gaugeClear]
    rw [if_neg (by rw [h, h']; nofun), hacts] at hout
    exact hout (hroom _ room)

/-- A conversion that trips its zone. -/
theorem convertGauge_tripped (h : tripsZone s g (s.convert g count) = true) :
    let z := (s.gaugeCfg g).zone
    let v := s.measured g count
    let u := convertGauge g count s
    LinesActed v u ∧
      ((s.gauge g).fault = false →
        Routed v u z (s.zoneCfg z).routing ∧
        (v.roomFor 1 → ∃ rs, u.reportsOut = v.reportsOut ++ zoneChange s v z .reading (v.tripActions z) :: rs)) := by
  intro z v u
  have hv := measured_eq s g count
  have hup : s.uptime = v.uptime := (measured_uptime s g count).symm
  have hu : u = _ := convertGauge_eq g count s
  dsimp only at hu
  rw [if_pos h, if_pos h] at hu
  obtain ⟨acts, hactsdef⟩ : ∃ acts, v.onZone z (faultChangeActions g z s v ++ v.tripActions z) = acts := ⟨_, rfl⟩
  rw [hactsdef] at hu
  obtain ⟨w, hw⟩ : ∃ w, actOnFaultChange g z s (zoneReport z .reading s acts (gaugeReport g .reading z s acts v)) = w := ⟨_, rfl⟩
  rw [hw] at hu
  obtain ⟨hacted, _, hsame, _, _⟩ := converted_acts hup acts hw
  obtain ⟨hrouteacted, hrouted⟩ := routeTrip_routed z w
  rw [← hu] at hrouteacted hrouted
  have hrouting : (w.zoneCfg z).routing = (s.zoneCfg z).routing := by
    have hvcfg : v.zoneCfg z = s.zoneCfg z := by show (s.measured g count).zoneCfg z = _; rw [hv]; rfl
    rw [← hvcfg, hacted.state]
    rfl
  rw [hrouting] at hrouted
  refine ⟨hacted.trans hrouteacted, fun hfault => ?_⟩
  have hnofault : (s.gauge g).fault = (v.gauge g).fault := by
    have hgauge : v.gauge g = s.convert g count := by show (s.measured g count).gauge g = _; rw [hv]; exact getElem_set_same ..
    rw [hgauge, hfault, convert_reading (tripsZone_iff.1 h).1]
  have hacts : acts = v.tripActions z := by
    rw [← hactsdef, faultChangeActions_same hnofault, List.nil_append, onZone_tripActions]
  have hreports := hsame hnofault
  have hdiffer : ¬s.zoneState z = v.zoneState z := by
    obtain ⟨_, _, _, hlatch⟩ := tripsZone_iff.1 h
    have hafter : v.zoneState z = .trip := if_pos (measured_tripped h).1
    rw [hafter]
    unfold State.zoneState
    rw [hlatch]
    cases s.warned z <;> nofun
  rw [if_neg hdiffer, hacts] at hreports
  refine ⟨?_, fun room => ?_⟩
  · exact hrouted.congr (by rw [hreports.state]) (by rw [hreports.state]) (by rw [hreports.state])
      (by rw [hreports.state]; rfl) rfl rfl rfl rfl
  · obtain ⟨qs, hqs⟩ := hrouteacted.reportsOut (hreports.queued room.takes)
    exact ⟨qs, by rw [hqs]; simp⟩

/-! ### The statement -/

/-- What every conversion leaves: the gauge converted, its zone tripped or judged, the lines acted on, the scanner moved on. -/
theorem conversion_closed (good : s.supply.failed = false) {x : Scan} (hx : s.scan = some x) :
    let v := s.measured x.gauge count
    let u := convertGauge x.gauge count s
    LinesActed v u ∧ ∃ t, exec (.gaugeConversion count) s = .next t ∧ t.movedOn x.gauge ∧
      t = { v with scan := t.scan, lines := u.lines, tanks := u.tanks, handoffs := u.handoffs, link := t.link } ∧
      LinkKept s t s.link.t1 ∧ t.answersOut = s.answersOut ∧ t.reportsOut = u.reportsOut := by
  intro v u
  have hv := measured_eq s x.gauge count
  have hacted : LinesActed v u := by
    by_cases h : tripsZone s x.gauge (s.convert x.gauge count) = true
    · exact (convertGauge_tripped h).1
    · exact (convertGauge_untripped h).1
  have hf : evGaugeConversion count s = { u with scan := dwellOn (u.nextGauge x.gauge) } := by
    unfold evGaugeConversion
    rw [hx]
  obtain ⟨t, h1, h2⟩ := takeEvent_closed (i := .gaugeConversion count) good rfl hf
  have hvlink : v.link = s.link := by show (s.measured x.gauge count).link = _; rw [hv]
  have hulink : u.link = { s.link with reports := u.link.reports, missed := u.link.missed } := by rw [hacted.link, hvlink]
  have hstate := hacted.state
  clear_value v u
  refine ⟨hacted, t, h1, movedOn_of_scan ?_, ?_, ?_, ?_, h2.reports⟩
  · rw [h2.state]
    rfl
  · have ht := h2.state
    rw [hstate] at ht
    rw [ht]
  · obtain ⟨a1, a2, a3, a4, a5, a6⟩ := h2.link
    dsimp only at a1 a2 a3 a4 a5 a6
    rw [hulink] at a1 a2 a3 a4 a5 a6
    exact ⟨a1, a2, a3, a4, a5, a6⟩
  · refine h2.answers.trans ?_
    unfold State.answersOut
    dsimp only
    rw [hulink]

/-- Settles O51: the gauge converted, its zone judged or tripped, the lines acted on, and the scanner moved on. -/
theorem conversionMeasuresAndJudges : Obligations.ConversionMeasuresAndJudges := by
  intro s count good
  refine ⟨fun h => event_same good rfl (by unfold evGaugeConversion; rw [h]), fun x hx => ?_⟩
  intro g old cfg z rail reading beyond trips
  have hv := measured_eq s g count
  have htrips : trips ↔ tripsZone s g (s.convert g count) = true := by rw [tripsZone_iff, isRail_iff]; rfl
  obtain ⟨hacted, t, h1, hmoved, ht, hlink, hanswers, hreports⟩ := conversion_closed (count := count) good hx
  have hun (h : ¬trips) := convertGauge_untripped (mt htrips.2 h)
  have htr (h : trips) := convertGauge_tripped (htrips.1 h)
  have hjudged (h : ¬trips) := measured_judged (mt htrips.2 h)
  have htripped (h : trips) := measured_tripped (htrips.1 h)
  rw [show x.gauge = g from rfl] at hmoved ht hreports hacted
  dsimp only at hun htr
  generalize convertGauge g count s = u at *
  generalize s.measured g count = v at *
  have hgauge : t.gauge g = s.convert g count := by rw [ht, hv]; exact getElem_set_same ..
  have hvgauge : v.gauge g = t.gauge g := by rw [ht]; rfl
  have hrest : v.lines = s.lines ∧ v.tanks = s.tanks ∧ v.handoffs = s.handoffs ∧ v.store.reserve = s.store.reserve ∧
      v.uptime = s.uptime ∧ v.link = s.link ∧ v.store.zoneCfg = s.store.zoneCfg := by
    rw [hv]
    exact ⟨rfl, rfl, rfl, rfl, rfl, rfl, rfl⟩
  obtain ⟨hvlines, hvtanks, hvhanded, hvreserve, hvup, hvlink, hvcfg⟩ := hrest
  have hafter : t.store = v.store ∧ t.gauges = v.gauges ∧ t.zoneWarn = v.zoneWarn ∧ t.lines = u.lines ∧ t.tanks = u.tanks ∧
      t.handoffs = u.handoffs ∧ t.supply = v.supply := by
    rw [ht]
    exact ⟨rfl, rfl, rfl, rfl, rfl, rfl, rfl⟩
  obtain ⟨htstore, htgauges, htwarn, htlines, httanks, hthanded, htsupply⟩ := hafter
  have husupply : u.supply = v.supply := by rw [hacted.state]
  have hvroom {n : Nat} (room : s.roomFor n) : v.roomFor n := by unfold State.roomFor; rw [hvlink]; exact room
  have hvout : v.reportsOut = s.reportsOut := by unfold State.reportsOut; rw [hvlink]
  have hvstate (y : ZoneId) : v.zoneState y = t.zoneState y := by
    unfold State.zoneState State.latched State.warned
    rw [htstore, htwarn]
  have hchange (acts : List (LineId × LineAction)) : zoneChange s v z .reading acts = zoneChange s t z .reading acts :=
    zoneChange_congr rfl rfl (hvstate z) (by rw [htstore]) (by rw [htstore]) htgauges.symm ..
  have hgaugeChange (acts : List (LineId × LineAction)) : gaugeChange s v g z .reading acts = gaugeChange s t g z .reading acts :=
    gaugeChange_congr rfl hvgauge ..
  have hlatched (y : ZoneId) : t.latched y = v.latched y := by unfold State.latched; rw [htstore]
  have hwarned (y : ZoneId) : t.warned y = v.warned y := by unfold State.warned; rw [htwarn]
  have hreading (h : ¬rail) := convert_reading (mt isRail_iff.1 h) s g
  have hfaulted (h : (t.gauge g).fault = true) : ¬trips := fun htrip => by
    rw [hgauge, hreading htrip.1] at h
    cases h
  refine ⟨t, h1, hlink, hanswers, hmoved, ?_, fun h => ?_, fun h => ?_, fun h => ?_, fun hsame h => ?_, fun h => ?_, fun h hfault => ?_,
    fun hfault hbefore => ?_, fun hfault hbefore h => ?_⟩
  · have hgauges : s.gauges.set g (t.gauge g) = v.gauges := by rw [hgauge, hv]
    rw [hgauges, htstore]
    refine ht.trans ?_
    rw [hv, htwarn, htlines, httanks, hthanded]
  · rw [hgauge]
    exact convert_rail (isRail_iff.2 h) s g
  · rw [hgauge, hreading h]
    rfl
  · exact (hjudged h).congr (fun _ => Iff.rfl) rfl rfl (by rw [htstore]) htwarn.symm htgauges.symm (by rw [htstore]) (by rw [htstore])
  · obtain ⟨_, hreport, _⟩ := hun h
    have hreports' := hreport (by rw [hvgauge]; exact hsame)
    have hu := hreports'.state
    refine ⟨by rw [htlines, hu, hvlines], by rw [httanks, hu, hvtanks], by rw [hthanded, hu, hvhanded], fun room => ?_⟩
    have hqueued := hreports'.queued ((hvroom room).takes (by split <;> simp))
    have hout := hqueued.reportsOut
    rw [hvout, hvstate, hchange] at hout
    exact hreports.trans hout
  · obtain ⟨a, b, c⟩ := htripped h
    refine ⟨(hlatched z).trans a, (hwarned z).trans b, fun y hy => ?_⟩
    obtain ⟨d, e⟩ := c y hy
    exact ⟨(hlatched y).trans d, (hwarned y).trans e⟩
  · obtain ⟨_, htrip⟩ := htr h
    obtain ⟨hrouted, hone⟩ := htrip hfault
    refine ⟨?_, fun room => ?_⟩
    · exact hrouted.congr hvlines hvtanks hvhanded hvup htlines.symm httanks.symm hthanded.symm (husupply.trans htsupply.symm)
    · rw [hvout, hchange, tripActions_congr hvlines hvcfg] at hone
      rw [hreports]
      exact hone (hvroom room)
  · obtain ⟨_, _, hheld, _⟩ := hun (hfaulted hfault)
    obtain ⟨hheld, htwo⟩ := hheld (by rw [hvgauge]; exact hfault) hbefore
    refine ⟨hheld.congr hvlines hvtanks hvhanded htlines.symm httanks.symm hthanded.symm, fun room => ?_⟩
    rw [hvout, hvstate, hchange, hgaugeChange, faultActions_congr hvlines] at htwo
    rw [hreports]
    exact htwo (hvroom room)
  · obtain ⟨_, _, _, hreleased⟩ := hun h
    obtain ⟨hreleased, htwo⟩ := hreleased (by rw [hvgauge]; exact hfault) hbefore
    have hfree : v.faultFree = t.faultFree := by rw [ht]; rfl
    refine ⟨?_, fun room => ?_⟩
    · rw [← hfree]
      exact hreleased.congr hvlines hvtanks hvhanded hvreserve htlines.symm httanks.symm hthanded.symm
    · rw [hvout, hvstate, hchange, hgaugeChange, gaugeReleases_congr hvlines (by rw [htstore]) htgauges.symm] at htwo
      rw [hreports]
      exact htwo (hvroom room)

end

end Sys2Proof.Machine
end

section
/-! PROOFS. WIPE (R20, R22, R136, R152). -/

namespace Sys2Proof.Machine

section
variable {s t u w v before : State} {g : GaugeId} {z : ZoneId} {k : TankId} {rs qs : List Report} {e : TankEvent}

/-! ### Reports of many, one after another -/

/-- Each of a list reports where its state has changed. -/
theorem Reports.all {α : Type} {same : α → Prop} [DecidablePred same] {r : α → Report} {op : α → State → State}
    (hop : ∀ u rs a, Reports s u rs → Reports s (op a u) (rs ++ if same a then [] else [r a])) (as : List α) (h : Reports s u rs) :
    Reports s (as.foldl (fun x a => op a x) u) (rs ++ (as.filter (fun a => decide ¬same a)).map r) := by
  induction as generalizing u rs with
  | nil => rw [List.filter_nil, List.map_nil, List.append_nil]; exact h
  | cons a rest ih =>
    have hsplit : ((a :: rest).filter (fun a => decide ¬same a)).map r =
        (if same a then [] else [r a]) ++ (rest.filter (fun a => decide ¬same a)).map r := by
      rw [List.filter_cons]
      by_cases ha : same a <;> simp [ha]
    rw [List.foldl_cons, hsplit, ← List.append_assoc]
    exact ih (hop u rs a h)

theorem Reports.tankReport (h : Reports s u rs) (hup : before.uptime = s.uptime) (k : TankId) (e : TankEvent) :
    Reports s (reportIfChanged k e before u)
      (rs ++ if before.tankState k = s.tankState k then [] else [tankChange before s k e none [] 0]) := by
  have hsame : u.tank k = s.tank k ∧ u.reserve k = s.reserve k ∧ u.uptime = before.uptime ∧ u.tankState k = s.tankState k := by
    rw [hup, h.state]
    exact ⟨rfl, rfl, rfl, rfl⟩
  obtain ⟨htank, hreserve, huptime, hstate⟩ := hsame
  have hchange : tankChange before u k e none [] 0 = tankChange before s k e none [] 0 :=
    tankChange_congr rfl rfl rfl (q := []) (by rw [htank]) hreserve ..
  unfold reportIfChanged
  rw [tankReport_eq huptime, hstate, hchange]
  split
  · rw [List.append_nil]; exact h
  · exact h.report _

/-! ### The part wiped (R20, R22) -/

/-- The part with the plan and the configuration as new, before its zones are judged. -/
def State.wiped (s : State) : State :=
  { s with store := Store.dflt s.store.tripLatch, gauges := Vector.replicate 16 Gauge.fresh, scan := none }

theorem wiped_gauge (s : State) (g : GaugeId) : s.wiped.gauge g = Gauge.fresh := by
  unfold State.wiped State.gauge
  exact Vector.getElem_replicate _

/-- A gauge without a reading takes part in no zone. -/
theorem not_reaches_wiped (h : t.gauges = s.wiped.gauges) (z : ZoneId) (n : Nat) : ¬t.reaches z n := by
  rintro ⟨g, d, ⟨_, _, _, r, hr, _⟩, _⟩
  have hgauge : t.gauge g = s.wiped.gauge g := by unfold State.gauge; rw [h]
  rw [hgauge, wiped_gauge] at hr
  cases hr

/-- The zones of the part wiped, judged (R143): one not in TRIP is in NORMAL. -/
theorem wiped_normal (hlatch : (judgeZones allZones s.wiped).latched z = false) :
    (judgeZones allZones s.wiped).zoneState z = .normal := by
  have hjudged := judgeZones_judged allZones (by decide) s.wiped
  have hgauges : (judgeZones allZones s.wiped).gauges = s.wiped.gauges := by rw [judgeZones_eq]
  have hbefore : s.wiped.latched z = false := (hjudged.latch z).symm.trans hlatch
  have hwarn : (judgeZones allZones s.wiped).warned z = false := by
    refine Bool.eq_false_iff.2 fun hw => ?_
    cases h : s.wiped.warned z with
    | false => exact not_reaches_wiped hgauges z _ ((hjudged.enters z (mem_allZones z) hbefore h).1 hw)
    | true => exact not_reaches_wiped hgauges z _ ((hjudged.leaves z (mem_allZones z) hbefore h).1 hw)
  unfold State.zoneState
  rw [hlatch, hwarn]
  rfl

/-- The reports of a WIPE (R136, R152). -/
theorem wipeAll_reports (s : State) :
    let v := judgeZones allZones s.wiped
    Reports v (wipeAll s)
      ((allGauges.filter (fun g => (s.gauge g).fault)).map (fun g => gaugeChange s v g (s.gaugeCfg g).zone .wipe []) ++
       (allZones.filter (fun z => decide (s.zoneState z ≠ v.zoneState z))).map (fun z => zoneChange s v z .wipe []) ++
       (allTanks.filter (fun k => decide (s.tankState k ≠ v.tankState k))).map (fun k => tankChange s v k .wipe none [] 0)) := by
  intro v
  have hup : s.uptime = v.uptime := by
    show _ = (judgeZones allZones s.wiped).uptime
    rw [judgeZones_eq]
    rfl
  have hfault (g : GaugeId) : (s.gauge g).fault = decide ¬(s.gauge g).fault = (v.gauge g).fault := by
    have hgauge : v.gauge g = Gauge.fresh := by
      show (judgeZones allZones s.wiped).gauge g = _
      rw [judgeZones_eq]
      exact wiped_gauge s g
    rw [hgauge]
    cases (s.gauge g).fault <;> rfl
  rw [List.filter_congr fun g _ => hfault g]
  exact (((Reports.refl v).all (fun u rs g h => h.gaugeReport hup g (s.gaugeCfg g).zone .wipe []) allGauges).all
    (fun u rs z h => h.zoneReport hup z .wipe []) allZones).all (fun u rs k h => h.tankReport hup k .wipe) allTanks

/-! ### The statement -/

/-- Settles O17: WIPE refused while a line is bound; else the plan emptied, the zones judged, and what changed reported. -/
theorem wipeEmptiesThePlan : Obligations.WipeEmptiesThePlan := by
  intro s tag hl
  refine ⟨fun ⟨l, v, hv⟩ => .denied hl rfl rfl ?_, fun hidle => ?_⟩
  · exact if_pos (List.any_eq_true.2 ⟨l, mem_allLines l, by rw [show (reloadT1 s).live l = some v from hv]; rfl⟩)
  have hreports := wipeAll_reports (reloadT1 s)
  obtain ⟨v, hvdef⟩ : ∃ v, judgeZones allZones (reloadT1 s).wiped = v := ⟨_, rfl⟩
  have hv : v = { (reloadT1 s).wiped with zoneWarn := v.zoneWarn } := by rw [← hvdef]; exact judgeZones_eq ..
  have hnormal (z : ZoneId) (h : v.latched z = false) : v.zoneState z = .normal := by
    rw [← hvdef] at h ⊢
    exact wiped_normal h
  have hlink : v.link = (reloadT1 s).link := by rw [hv]; rfl
  have hf : handle (.wipe tag) (reloadT1 s) = (wipeAll (reloadT1 s), { result := .ok, body := [] }) := by
    refine if_neg fun h => ?_
    obtain ⟨l, _, hlive⟩ := List.any_eq_true.1 h
    rw [show (reloadT1 s).live l = none from hidle l] at hlive
    cases hlive
  dsimp only at hreports
  rw [hvdef] at hreports
  obtain ⟨t, h1, h2, h3, h4, h5⟩ := request_closed (kind := 0x8A) hl rfl rfl hf (by rw [hreports.link, hlink])
  have hu := hreports.state
  have ht : t = { s with
      store := { State.reset.store with tripLatch := s.store.tripLatch }
      gauges := State.reset.gauges, zoneWarn := t.zoneWarn, scan := none, link := t.link } := by
    rw [h2, hu, hv]
    rfl
  have hafter : (∀ z, t.zoneState z = v.zoneState z) ∧ (∀ z, t.latched z = v.latched z) ∧ (∀ g, t.gauge g = v.gauge g) ∧
      (∀ k, t.tank k = v.tank k) ∧ (∀ k, t.reserve k = v.reserve k) ∧ (∀ k, t.tankState k = v.tankState k) ∧
      t.store = v.store ∧ t.gauges = v.gauges := by
    rw [h2, hu]
    exact ⟨fun _ => rfl, fun _ => rfl, fun _ => rfl, fun _ => rfl, fun _ => rfl, fun _ => rfl, rfl, rfl⟩
  obtain ⟨hzstate, hlatched, hgauge, htank, hreserve, htstate, hstore, hgauges⟩ := hafter
  have hgaugeChange (g : GaugeId) (z : ZoneId) : gaugeChange (reloadT1 s) v g z .wipe [] = gaugeChange s t g z .wipe [] :=
    gaugeChange_congr rfl (hgauge g).symm ..
  have hzoneChange (z : ZoneId) : zoneChange (reloadT1 s) v z .wipe [] = zoneChange s t z .wipe [] :=
    zoneChange_congr rfl rfl (hzstate z).symm (by rw [hstore]) (by rw [hstore]) hgauges.symm ..
  have htankChange (k : TankId) : tankChange (reloadT1 s) v k .wipe none [] 0 = tankChange s t k .wipe none [] 0 :=
    tankChange_congr rfl rfl rfl (q := []) (by rw [htank]) (hreserve k).symm ..
  simp only [hgaugeChange, hzoneChange, htankChange, ← hzstate, ← htstate] at hreports
  have hanswered {rs : List Report} (h : Reports v (wipeAll (reloadT1 s)) rs) (room : v.takes rs) :
      Answered s t 0x8A tag .ok [] rs := by
    refine h5 rs ?_
    have hqueued := h.queued room
    unfold Queued at hqueued ⊢
    rw [hqueued, hlink]
  refine ⟨t, h1, h3, ht, fun z h => ?_, fun hfault hwarn hready => ?_, fun room => ?_⟩
  · exact (hzstate z).trans (hnormal z ((hlatched z).symm.trans h))
  · have hgauges' (g : GaugeId) : ((reloadT1 s).gauge g).fault = false := hfault g
    have hzones (z : ZoneId) : (reloadT1 s).zoneState z = t.zoneState z := by
      have hlatch : t.latched z = s.latched z := by rw [ht]; rfl
      cases h : s.latched z with
      | true => exact (if_pos h).trans (if_pos (hlatch.trans h)).symm
      | false =>
        rw [hzstate, hnormal z ((hlatched z).symm.trans (hlatch.trans h))]
        have hno := hwarn z
        unfold State.zoneState at hno
        rw [h] at hno
        show s.zoneState z = _
        unfold State.zoneState
        rw [h]
        cases hw : s.warned z with
        | true => rw [hw] at hno; exact absurd rfl hno
        | false => rfl
    have htanks (k : TankId) : (reloadT1 s).tankState k = t.tankState k := by
      have hnow : t.tankState k = judgeTank (s.tank k).mix (s.tank k).contents 100000 := by
        have hdefault : t.reserve k = 100000 := by
          rw [ht]
          exact (by decide : ∀ k : TankId, (#v[defaultReserve, defaultReserve])[k] = 100000) k
        unfold State.tankState
        rw [hdefault, ht]
        rfl
      exact ((hnow.trans (hready k))).symm
    simp only [hgauges', hzones, htanks, ne_eq, not_true, decide_false, List.filter_false, List.map_nil, List.append_nil] at hreports
    exact (hanswered hreports fun hne => absurd rfl hne).reports.trans (List.append_nil _)
  · refine hanswered hreports (State.roomFor.takes (show v.roomFor 22 by unfold State.roomFor; rw [hlink]; exact room) ?_)
    have hg := List.length_filter_le (fun g => ((reloadT1 s).gauge g).fault) allGauges
    have hz := List.length_filter_le (fun z => decide ((reloadT1 s).zoneState z ≠ t.zoneState z)) allZones
    have hk := List.length_filter_le (fun k => decide ((reloadT1 s).tankState k ≠ t.tankState k)) allTanks
    simp only [List.length_append, List.length_map]
    exact Nat.add_le_add (Nat.add_le_add hg hz) hk

end

end Sys2Proof.Machine
end
